-- ==== Sys2Proof/Word.lean ====
section
/-! DEFINITION. The word types of the block and the sparse table every address-keyed store of State uses:
a list of (key, value) pairs in one canonical form (keys strictly rising, no entry equal to the value an unlisted key reads as). -/

namespace Sys2Proof

/-- A byte. -/
abbrev Byte := BitVec 8
/-- A register of space 5 is 64 bits wide (spec/02, "All registers are 64 bits"). -/
abbrev Word64 := BitVec 64
/-- A command word of the hopper is 128 bits wide (R53). -/
abbrev Word128 := BitVec 128

/-- A sparse table. -/
abbrev Table (α : Type) := List (Nat × α)

/-- What key `k` reads as, `d` being what an unlisted key reads as. -/
def Table.get {α : Type} (t : Table α) (d : α) (k : Nat) : α :=
  match t with
  | [] => d
  | (k', v) :: rest => if k' = k then v else Table.get rest d k

/-- Put an entry before the first key above its own. -/
def Table.insert {α : Type} (t : Table α) (k : Nat) (v : α) : Table α :=
  match t with
  | [] => [(k, v)]
  | (k', v') :: rest => if k < k' then (k, v) :: (k', v') :: rest else (k', v') :: Table.insert rest k v

/-- Write `v` at key `k`, keeping the canonical form: what the key held goes, and a value that the key reads as unlisted is not listed. -/
def Table.put {α : Type} [DecidableEq α] (t : Table α) (d : α) (k : Nat) (v : α) : Table α :=
  let rest := t.filter (fun e => e.1 != k)
  if v = d then rest else Table.insert rest k v

/-- Every key of the table is above `lo`, keys rise strictly and no entry holds its key's default. -/
def Table.wfFrom {α : Type} [DecidableEq α] (d : Nat → α) : Option Nat → Table α → Bool
  | _, [] => true
  | lo, (k, v) :: rest =>
    (match lo with
     | none => true
     | some l => decide (l < k)) && !(decide (v = d k)) && Table.wfFrom d (some k) rest

/-- The canonical form of a table whose key `k` reads as `d k` when unlisted. -/
def Table.wf {α : Type} [DecidableEq α] (t : Table α) (d : Nat → α) : Bool := Table.wfFrom d none t

end Sys2Proof
end

