-- ==== Sys2Proof/Machine/Bits.lean ====
section
/-! DEFINITION. Bit fields, sign extension and byte order (R2, R3), written on numbers so that they evaluate. -/

namespace Sys2Proof.Machine

/-- Bits [hi:lo] of a number, both ends included (spec/00, "Numbers and bits"). -/
def nbits (n hi lo : Nat) : Nat := (n >>> lo) % 2 ^ (hi + 1 - lo)

/-- Bits [hi:lo] of a bit vector, as a number. -/
def fld {w : Nat} (v : BitVec w) (hi lo : Nat) : Nat := nbits v.toNat hi lo

/-- One bit of a bit vector. -/
def bit {w : Nat} (v : BitVec w) (i : Nat) : Bool := v.getLsbD i

/-- Bits [hi:lo] of `v` replaced by the low bits of `x`. -/
def setFld {w : Nat} (v : BitVec w) (hi lo x : Nat) : BitVec w :=
  let m : Nat := (2 ^ (hi + 1 - lo) - 1) <<< lo
  (v &&& ~~~ (BitVec.ofNat w m)) ||| BitVec.ofNat w ((x % 2 ^ (hi + 1 - lo)) <<< lo)

/-- One bit of `v` replaced. -/
def setBit {w : Nat} (v : BitVec w) (i : Nat) (b : Bool) : BitVec w :=
  if b then v ||| BitVec.ofNat w (1 <<< i) else v &&& ~~~ (BitVec.ofNat w (1 <<< i))

/-- 1 for true, 0 for false. -/
def b2n (b : Bool) : Nat := if b then 1 else 0

/-- A number read as a two's complement integer of `w` bits. -/
def sext (w n : Nat) : Int :=
  if n % 2 ^ w < 2 ^ (w - 1) then ((n % 2 ^ w : Nat) : Int) else ((n % 2 ^ w : Nat) : Int) - ((2 ^ w : Nat) : Int)

/-- The `n` low bytes of a number, lowest address first (R2). -/
def toBytes : Nat → Nat → List Byte
  | 0, _ => []
  | n + 1, x => BitVec.ofNat 8 x :: toBytes n (x / 256)

/-- The number that bits spell, the first lowest. -/
def ofBits : List Bool → Nat
  | [] => 0
  | b :: bs => b2n b + 2 * ofBits bs

/-- The number that bytes spell, the first lowest (R2). -/
def ofBytes : List Byte → Nat
  | [] => 0
  | b :: bs => b.toNat + 256 * ofBytes bs

/-- min(x + y, 2^64 − 1) (R191). -/
def satAdd64 (x y : Nat) : Nat := if x + y < 2 ^ 64 then x + y else 2 ^ 64 - 1

/-- Whether a sum exceeds the largest 64-bit value (R191). -/
def overflows64 (x y : Nat) : Bool := decide (2 ^ 64 ≤ x + y)

/-- Keep the first `n` of a list's elements that satisfy a test, with their indices. -/
def findIdxFrom {α : Type} (p : α → Bool) : Nat → List α → Option Nat
  | _, [] => none
  | i, x :: xs => if p x then some i else findIdxFrom p (i + 1) xs

/-- The least index at which a list's element satisfies a test. -/
def findIdx {α : Type} (p : α → Bool) (l : List α) : Option Nat := findIdxFrom p 0 l

/-- Replace element `i` of a list. -/
def setAt {α : Type} : List α → Nat → α → List α
  | [], _, _ => []
  | _ :: xs, 0, y => y :: xs
  | x :: xs, i + 1, y => x :: setAt xs i y

/-- Drop element `i` of a list. -/
def dropAt {α : Type} : List α → Nat → List α
  | [], _ => []
  | _ :: xs, 0 => xs
  | x :: xs, i + 1 => x :: dropAt xs i

/-- The numbers 0 to n − 1 in ascending order. -/
def upTo (n : Nat) : List Nat := List.range n

end Sys2Proof.Machine
end

