-- ==== Sys2Proof/Machine/Codes.lean ====
section
/-! DEFINITION. The spec's named codes: cell states, counter states, event codes, halt reasons, and the space 5 layout (R9, R13, R30, R31). -/

namespace Sys2Proof.Machine

/-! ### Numbering (R9) -/

/-- Region of a logical cell. -/
def cellRegion (c : Nat) : Nat := c / 48
/-- Block 12r + k of a logical cell. -/
def cellBlock (c : Nat) : Nat := c / 4
/-- Position c0–c3 of a logical cell in its block. -/
def cellPos (c : Nat) : Nat := c % 4
/-- Region of block 12r + k. -/
def blockRegion (b : Nat) : Nat := b / 12
/-- Bedstone of a region. -/
def regionBed (r : Nat) : Nat := r / 2
/-- Region of a stack. -/
def stackRegion (s : Nat) : Nat := s / 2

/-! ### Space 5 (R31) and the bases each chapter gives -/

def bedBase (b : Nat) : Nat := 0x1000_0000 + b * 0x0100_0000
def regionBase (r : Nat) : Nat := 0x2000_0000 + r * 0x0100_0000
def blockBase (b : Nat) : Nat := regionBase (b / 12) + 0x80_0000 + (b % 12) * 0x4_0000
def cellBase (c : Nat) : Nat := blockBase (c / 4) + 0x2_0000 + (c % 4) * 0x8000
/-- MEM unit of a stack (R252). -/
def memBase (s : Nat) : Nat := regionBase (s / 2) + 0x10_0000 + (s % 2) * 0x1_0000
/-- Far-tier port (R252). -/
def farBase (p : Nat) : Nat := 0x0401_0000 + p * 0x1_0000
/-- The hurst registers of which every partition sees its own copy (R215, R252, R389) are keyed with the partition above bit 40. -/
def bank (p off : Nat) : Nat := off + p * 2 ^ 40
/-- Package sync unit of partition `p` (R215). -/
def pkgSyncBase (p : Nat) : Nat := bank p 0x0200_0000
/-- Shutter control of partition `p` (R215). -/
def shutBase (p : Nat) : Nat := bank p 0x0201_0000
/-- Block shutter masks (R215). -/
def shutMaskBase (b : Nat) : Nat := blockBase b + 0x3200
/-- The base of a sync unit numbered as R369 kind 13 numbers it; the package unit of partition `p`. -/
def syncBase (p u : Nat) : Nat :=
  if u = 0 then pkgSyncBase p
  else if u < 16 then bedBase (u - 1) + 0x40_0000
  else blockBase (u - 16) + 0x3000

/-! ### Space 4 (R30) -/

def gscBase (r : Nat) : Nat := 0x10_0000 + r * 0x2000
def bscBase (b : Nat) : Nat := 0x20_0000 + b * 0x800

/-- Cell states (R75). -/
inductive CellState where
  | idle | armed | fetching | running | freezing | frozen | halted | draining | killing | killed
deriving DecidableEq, Repr

def CellState.code : CellState → Nat
  | .idle => 0 | .armed => 1 | .fetching => 2 | .running => 3 | .freezing => 4
  | .frozen => 5 | .halted => 6 | .draining => 7 | .killing => 8 | .killed => 9

/-- Counter states (R196). -/
inductive CtrState where
  | free | owned | frozen | abandoned
deriving DecidableEq, Repr

def CtrState.code : CtrState → Nat
  | .free => 0 | .owned => 1 | .frozen => 2 | .abandoned => 3

/-- Partition states (R371). -/
inductive PState where
  | starting | ready | failing | dumping | failed | dressing | stopped
deriving DecidableEq, Repr

def PState.code : PState → Nat
  | .starting => 0 | .ready => 1 | .failing => 2 | .dumping => 3 | .failed => 4 | .dressing => 5 | .stopped => 6

/-- Status of a class 0x4 command (R205). -/
inductive SyncStatus where
  | ok | timeout | abandoned | discarded | owner | refused | unreached | unknown | lost | broken | notMember
deriving DecidableEq, Repr

def SyncStatus.code : SyncStatus → Nat
  | .ok => 0 | .timeout => 1 | .abandoned => 2 | .discarded => 3 | .owner => 4 | .refused => 5
  | .unreached => 6 | .unknown => 7 | .lost => 8 | .broken => 9 | .notMember => 10

/-- Halt reasons (R79). -/
inductive HaltReason where
  | illegalClass | illegalOpcode | reservedSet | badOperand | addressFault | hopperUnloaded
  | fetchError | nanTrap | poison | userTrap | engineError
deriving DecidableEq, Repr

def HaltReason.code : HaltReason → Nat
  | .illegalClass => 1 | .illegalOpcode => 2 | .reservedSet => 3 | .badOperand => 4 | .addressFault => 5
  | .hopperUnloaded => 6 | .fetchError => 7 | .nanTrap => 8 | .poison => 9 | .userTrap => 10 | .engineError => 11

/-- The five units of a cell, in the mask order of FENCE (R65). -/
inductive CUnit where
  | core | array | vector | sluice | sync
deriving DecidableEq, Repr

def CUnit.idx : CUnit → Nat
  | .core => 0 | .array => 1 | .vector => 2 | .sluice => 3 | .sync => 4

/-- How deeply a cell sleeps (R350). -/
inductive Sleep where
  | awake | clockGated | powerGated
deriving DecidableEq, Repr

/-! ### Event codes (R13) -/

def evNanTrap : Nat := 0x1001
def evCellFault : Nat := 0x1002
def evCrosscheckFail : Nat := 0x1003
def evUserTrap : Nat := 0x1004
def evSluiceHalt : Nat := 0x2001
def evBlockStall : Nat := 0x2002
def evHeadraceBreak : Nat := 0x2003
def evRegionLost : Nat := 0x3001
def evShardVersion : Nat := 0x3002
def evPartitionFailed : Nat := 0x3003
def evHurstFault : Nat := 0x3004
def evStartFailed : Nat := 0x3005
def evCounterAbandoned : Nat := 0x4001
def evCounterSaturated : Nat := 0x4002
def evShutterBroken : Nat := 0x4003
def evLinkViolation : Nat := 0x5001
def evUnexpectedNeighbour : Nat := 0x5002
def evMissingNeighbour : Nat := 0x5003
def evLeatPortDown : Nat := 0x5004
def evFlumeRetrain : Nat := 0x5005
def evFlumeFenced : Nat := 0x5006
def evLinkHalfWidth : Nat := 0x5007
def evMiswiredLink : Nat := 0x5008
def evCoordConflict : Nat := 0x5009
def evRouteDetour : Nat := 0x500A
def evRouteLost : Nat := 0x500B
def evHostPortDown : Nat := 0x500C
def evHostViolation : Nat := 0x500D
def evAddressDuplicate : Nat := 0x500E
def evPoisonConsumed : Nat := 0x6001
def evStackLost : Nat := 0x6002
def evCeThreshold : Nat := 0x6003
def evUncorrectable : Nat := 0x6004
def evStackDownbin : Nat := 0x6005
def evFarPortDown : Nat := 0x6006
def evIntegrityFail : Nat := 0x7001
def evWeirViolation : Nat := 0x7002
def evSessionAuthFail : Nat := 0x7003
def evDressingDone : Nat := 0x7004
def evDressingFailed : Nat := 0x7005
def evTrngFault : Nat := 0x7006
def evTestEnabled : Nat := 0x7007
def evDroop : Nat := 0x8001
def evCapExceeded : Nat := 0x8002
def evThermalThrottle : Nat := 0x8003
def evThermalTrip : Nat := 0x8004
def evInputFault : Nat := 0x8005
def evRailFault : Nat := 0x8006
def evRefLost : Nat := 0x8007
def evStackThrottle : Nat := 0x8008
def evDigestMismatch : Nat := 0x9001
def evReplicaExpelled : Nat := 0x9002
def evPartnerSameFeed : Nat := 0x9003
def evFatalDumpDone : Nat := 0x9004
def evTollDone : Nat := 0x9005
def evPondDone : Nat := 0x9006
def evPondReturned : Nat := 0x9007
def evPondFailed : Nat := 0x9008

end Sys2Proof.Machine
end

