-- ==== Sys2Proof/Machine/CellTypes.lean ====
section
/-! DEFINITION. The typed state of one cell, of the sync units, of a sluice channel and of the headrace (spec/02, 04 to 07): plain data. -/

namespace Sys2Proof.Machine

/-- Why a fetched hopper word did not arrive (R44). -/
inductive FetchFail where
  | addressFault | fetchError | poison
deriving DecidableEq, Repr

/-- A hopper word's status: its valid bit (R42, R45), or pending for an HFETCH (R46), or failed (R44, R48). -/
inductive HStatus where
  | unloaded
  | valid
  | pending
  | failed (why : FetchFail) (addr : Word64)
deriving DecidableEq, Repr

/-- A hopper word (R45, R81). -/
structure HWord where
  bits : Word128 := 0
  status : HStatus := .unloaded
deriving DecidableEq, Repr

/-- A launch fetch (R42) or an HFETCH (R47) that has not completed. -/
structure Fetch where
  launch : Bool
  addr : Word64
  first : Nat
  count : Nat
  arrived : Nat
  /-- The HFETCH carries acquire (R68), and its op sequence number. -/
  acq : Bool := false
  seq : Word64 := 0
deriving DecidableEq, Repr

/-- A load that stalls the core (R51, R52). -/
structure LdReq where
  rt : Nat
  addr : Word64
  size : Nat
  seq : Word64
  pc : Nat
  word : Word128
deriving DecidableEq, Repr

/-- A posted store that is not yet performed (R52). -/
structure StReq where
  addr : Word64
  bytes : List Byte
  seq : Word64
  pc : Nat
  word : Word128
  /-- Performed at CELL scope, so that its place is free, and not yet at a wider one (R52, R64). -/
  atCell : Bool := false
deriving DecidableEq, Repr

/-- A pending FENCE (R65). -/
structure Fence where
  seq : Word64
  scope : Nat
  wait : Nat
  hold : Nat
deriving DecidableEq, Repr

/-- An END that waits as an implicit fence (R43). -/
structure EndReq where
  seq : Word64
  scope : Nat
  pc : Nat
  word : Word128
deriving DecidableEq, Repr

/-- A command in an engine queue: its word, op sequence number and hopper index (R60), and the scalar operands read at dispatch (R50), in the
order the word names them. -/
structure QCmd where
  word : Word128
  seq : Word64
  pc : Nat
  ops : List Word64
deriving DecidableEq, Repr

/-- A 4 KiB millrace tile (R126–R129): its elements, and its poisoned 32-byte pieces. -/
structure Tile where
  tag : Nat
  job : Nat
  elems : List (BitVec 32)
  poison : List Nat
deriving DecidableEq, Repr

/-- A NaN origin (R102): what NAN_REC_* records of it, less the op sequence number. -/
structure NanOrigin where
  unit : Nat
  stage : Nat
  fmtA : Nat := 0
  fmtB : Nat := 0
  row : Nat := 0
  col : Nat := 0
  k : Nat := 0
  aBits : Nat := 0
  bBits : Nat := 0
  scaledA : Bool := false
  scaledB : Bool := false
  scaleA : Nat := 0
  scaleB : Nat := 0
deriving DecidableEq, Repr

/-- What a begun array command is waiting for (R119, R127). -/
inductive ArrWait where
  | none        -- its unit works on it
  | tile        -- an MRED waits for a received tile
  | credit      -- an MRED's tile is ready and waits for a slot of the next hop
  | accept      -- an MRED's tile was sent and its acceptance is awaited
deriving DecidableEq, Repr

/-- A begun array command (R106, R115, R119). -/
structure ArrX where
  cmd : QCmd
  started : Bool := false
  finished : Bool := false
  /-- The set is released although the command has not completed (R112). -/
  setFree : Bool := false
  slices : Nat := 0
  total : Nat := 0
  wait : ArrWait := .none
  tile : Option Tile := none
  /-- The poison the command consumed: CELL.FAULT_ADDR (R435). -/
  poisonAt : Option Word64 := none
  /-- The error it ends with (R118), and the received tag for MR_TAG. -/
  err : Option (Nat × Nat × Nat) := none
  /-- NAN_CFG as it stood when the command began (R104). -/
  nanCfg : Nat := 0
  origin : Option NanOrigin := none
  /-- Of an MMA: the elements of its set that have drawn on poison so far (R435). -/
  fed : BitVec 1024 := 0
deriving DecidableEq, Repr

/-- What a lane group that has issued has still to write (R131, R141): output elements from `first` on of a stream that starts at a cell-store offset, none where an element is not
written, and bits of a mask register from `mfirst` on. -/
structure VecFlight where
  base : Nat := 0
  width : Nat := 32
  first : Nat := 0
  outs : List (Option (Nat × Bool)) := []
  mreg : Option Nat := none
  mfirst : Nat := 0
  mouts : List (Option Bool) := []
deriving DecidableEq, Repr

/-- A begun vector command (R131, R145): its lane groups issue one after another, and a group's results are written when it completes. -/
structure VecX where
  cmd : QCmd
  started : Bool := false
  finished : Bool := false
  groups : Nat := 0
  total : Nat := 0
  /-- The last group issued, whose results are not written yet. -/
  flight : Option VecFlight := none
  /-- The summary inputs of the elements so far, none for an inactive one (R143). -/
  sums : List (Option Nat) := []
  /-- The leaves so far of VRED's segment in progress, last first, and whether one of them draws on poison (R146, R153). -/
  leaves : List Nat := []
  leafPoison : Bool := false
  /-- Elements that VCOMP has copied or VEXPD has read so far (R147). -/
  count : Nat := 0
  /-- The summary or count that lands at completion (R145). -/
  result : Word64 := 0
  poisonAt : Option Word64 := none
  err : Option (Nat × Nat) := none
  nanCfg : Nat := 0
  /-- The first origin of an element, which an origin of a tree may still go before; and the command's first origin (R103). -/
  early : Option NanOrigin := none
  origin : Option NanOrigin := none
deriving DecidableEq, Repr

/-- A begun sync command (R201, R202): in flight, registered as a waiter, ready at a line, awaiting an acknowledgement, or ended with a status. -/
inductive SyncPh where
  | begun | flying | waiting | shutWait | ackWait
  | done (st : SyncStatus)
deriving DecidableEq, Repr

/-- A begun sync command. -/
structure SyncX where
  cmd : QCmd
  ph : SyncPh := .begun
  /-- It stands in its counter's waiter list, or its ready bit is set at its line; a frozen cell's released WAIT still does (R207). -/
  listed : Bool := false
deriving DecidableEq, Repr

/-- A program slot of the vector engine (R135): valid, and the 128-byte record. -/
structure PSlot where
  valid : Bool := false
  record : BitVec 1024 := 0
deriving DecidableEq, Repr

/-- One item of a headrace stream: a byte with its poison, or the stream's marker (R184–R186), under the injecting cell's job (R185). -/
structure HrItem where
  job : Nat
  byte : Option (Byte × Bool)
deriving DecidableEq, Repr

/-- The headrace input buffer of a cell (R183–R187): its items oldest first, how many from the front its own array has consumed, how many the next cell
has accepted, and whether the next cell refused the stream now at the front. -/
structure Headrace where
  items : List HrItem := []
  consumed : Nat := 0
  forwarded : Nat := 0
  refused : Bool := false
  stopped : Bool := false
  /-- The last item accepted was a byte: a stream is open here (R183). -/
  opened : Bool := false
deriving DecidableEq, Repr

/-- The typed state of one cell. What the spec numbers as a register lies in State.regs. -/
structure Cell where
  st : CellState := .idle
  /-- The state held before FREEZING (R76). -/
  prior : CellState := .idle
  hopper : Table HWord := []
  /-- The holding register of HOPPER_DATA_LO (R81). -/
  holding : Word64 := 0
  /-- The launch registers as latched on entering ARMED (R41). -/
  lAddr : Word64 := 0
  lCfg : Word64 := 0
  lCtr : Word64 := 0
  lExpect : Word64 := 0
  /-- Whether ARMED was entered by a re-arm (R42, KEEP). -/
  rearmed : Bool := false
  fetches : List Fetch := []
  ld : Option LdReq := none
  sts : List StReq := []
  /-- A ninth ST waits for the oldest outstanding one, of this op sequence number (R52). -/
  stWait : Option Word64 := none
  fences : List Fence := []
  endReq : Option EndReq := none
  qArray : List QCmd := []
  qVector : List QCmd := []
  qSluice : List QCmd := []
  qSync : List QCmd := []
  xArray : List ArrX := []
  /-- Begun vector commands, oldest first (R148). -/
  xVector : List VecX := []
  /-- Begun class 0x3 commands that have not completed; a bool says whether the command has run its execute phase. -/
  xSluice : List (QCmd × Bool) := []
  xSync : List SyncX := []
  /-- The eight mask registers (R142). -/
  masks : Table (BitVec 8192) := []
  slots : Table PSlot := []
  /-- Received millrace tiles, oldest first (R127). -/
  rxTiles : List Tile := []
  /-- Tiles of killed MREDs that still wait for a slot of the next hop, with ISINT (R129). -/
  orphans : List (Tile × Bool) := []
  headrace : Headrace := {}
  sleep : Sleep := .awake
  /-- How far a snapshot of the high-water marks of the kill form applies is in the registers; frozen counters (R78, R374). -/
  frozenCtrs : Bool := false
  /-- PG_DELAY read 0 when the cell became CLOCK_GATED (R366). -/
  noPg : Bool := false
deriving DecidableEq, Repr

/-- Who signalled last (R210). -/
structure LastSig where
  source : Nat
  coord : Nat := 0
  lcell : Nat := 0
  seq : Word64
  amount : Word64
deriving DecidableEq, Repr

/-- A registered waiter of a counter (R193, R210). -/
structure Waiter where
  cell : Nat
  launch : Bool
  expect : Word64
  timed : Bool
deriving DecidableEq, Repr

/-- A sync counter (R189–R199). -/
structure Counter where
  st : CtrState := .free
  job : Nat := 0
  value : Word64 := 0
  pending : Word64 := 0
  saturated : Bool := false
  waiters : List Waiter := []
  last : Option LastSig := none
deriving DecidableEq, Repr

/-- Where a signal comes from (R190). -/
inductive SigSrc where
  | cell (c : Nat) (seq : Word64)
  | lctr (c : Nat) (seq : Word64)
  | remote (coord : Nat) (seq : Word64)
  | host (seq : Word64) (session : Nat)
deriving DecidableEq, Repr

/-- A signal on its way to a counter of this package (R194). -/
structure Signal where
  part : Nat
  /-- Space 4 offset as its sender named it. -/
  offset : Nat
  amount : Word64
  job : Nat
  src : SigSrc
deriving DecidableEq, Repr

/-- A shutter line of a partition (R211–R214); the registers hold ENABLE, JOB, GEN and BROKEN. `waiting` lists the ready cells. -/
structure ShutLine where
  waiting : List Nat := []
deriving DecidableEq, Repr

/-- Where a descriptor stands in its channel slot (R155, R164, R166). -/
inductive DescPh where
  | issued | moving | retrying | paced | stamping | remote
deriving DecidableEq, Repr

/-- An access that waits for its retry (R170): the transfer positions that wait for it, what it failed at, and the retries scheduled for it. -/
structure Late where
  pos : Nat
  stop : Nat
  /-- The failing byte as CHn_FAIL_ADDR takes it. -/
  addr : Nat
  tries : Nat := 0
deriving DecidableEq, Repr

/-- A sluice descriptor in a channel's slot. -/
structure Desc where
  raw : BitVec 512
  cell : Nat
  seq : Word64
  job : Nat
  ph : DescPh := .issued
  /-- Bytes of the transfer order moved and performed so far, but for those that `late` names. -/
  moved : Nat := 0
  /-- Accesses of this package that wait for their retries, in the order in which they failed (R170). -/
  late : List Late := []
  /-- Of a descriptor with a remote end: the transfer position up to which requests have been made, and the spans below it whose requests are to be made again (R168, R174). -/
  sent : Nat := 0
  again : List (Nat × Nat) := []
  /-- The parts of a remote header received so far, with their offsets (R255). -/
  hdr : List (Nat × List (Byte × Bool)) := []
  /-- SREG, DREG carried bits [63:57] (R159). -/
  badSrc : Bool := false
  badDst : Bool := false
  /-- TAG[TAGSLOT] as read when the descriptor began (R180). -/
  tag : Word64 := 0
  /-- A shard or pack header has been read and accepted (R179, R182). -/
  headerOk : Bool := false
  /-- The header of a STAMP or an ACT_SAVE has been written (R180, R181). -/
  hdrDone : Bool := false
  /-- The RCTR signal of a remote descriptor has left (R166). -/
  rctrSent : Bool := false
deriving DecidableEq, Repr

/-- A channel of a sluice (R155, R156, R168, R169). -/
structure Channel where
  slots : List Desc := []
  /-- The armed persistent stream (R169), and whether it is being disarmed after its run. -/
  armed : Option Desc := none
  disarming : Bool := false
  /-- The shared segments held: the op sequence number of the descriptor whose bytes each holds, and its size (R156). -/
  segs : List (Word64 × Nat) := []
  /-- A grant request is outstanding (R156). -/
  wanting : Bool := false
  /-- The pacing values P and C0 (R168). -/
  paceP : Nat := 0
  paceC0 : Nat := 0
  wait : Nat := 0
  stalled : Bool := false
  /-- Poison and markers of HEADRACE streams that ended and have not been injected yet, with their heads (R171, R174). -/
  owed : List (Nat × HrItem) := []
deriving DecidableEq, Repr

/-- A block's sluice (R156, R177, R184): the channel last granted, whether BLOCK_STALL waits to be raised again, and which channel owns each head's stream. -/
structure Sluice where
  lastGrant : Nat := 15
  stallRecorded : List Nat := []
  owners : List (Nat × Nat) := []
deriving DecidableEq, Repr

end Sys2Proof.Machine
end

