-- ==== Sys2Proof/Machine/NetTypes.lean ====
section
/-! DEFINITION. Link messages, leat ports, flume links and outstanding requests (spec/09): plain data. -/

namespace Sys2Proof.Machine

/-- A link message (R253): the header's fields and the data area's LEN bytes; `pmap` lists the poisoned pieces of the data area. -/
structure LinkMsg where
  kind : Nat
  vc : Nat := 0
  pmapValid : Bool := false
  reserved : Bool := false
  fmt : Nat := 0
  len : Nat := 0
  job : Nat := 0
  status : Nat := 0
  src : Nat := 0
  dst : Nat := 0
  addr : Nat := 0
  txid : Nat := 0
  amount : Nat := 0
  seq : Nat := 0
  pmap : List Nat := []
  data : List Byte := []
deriving DecidableEq, Repr

/-- An ADVERTISE record (R267). -/
structure Advertise where
  minMajor : Byte
  minMinor : Byte
  maxMajor : Byte
  maxMinor : Byte
  features : BitVec 32
deriving DecidableEq, Repr

/-- Where a message or request entered the package: a flume link, a leat port numbered as R369 kind 7 numbers it, the guest port, or this package itself over
the leat (R297). -/
inductive Via where
  | flume (f : Nat)
  | leat (p : Nat)
  | guest
  | self
deriving DecidableEq, Repr

/-- Who awaits the response to a request (R256, R257). -/
inductive ReqSrc where
  | chan (block ch : Nat) (seq : Word64)
  | sigr (cell : Nat) (seq : Word64)
  | mred (cell : Nat) (seq : Word64)
  | pond (part : Nat)
  | toll (part : Nat)
  | probe (part member relay : Nat)
  | relay (via : Via) (txid : Nat)
  /-- Nothing waits for it: the poison that a failed descriptor leaves behind (R171), or a request whose sender has ended. The partition and the region that sent it; 12: the hurst. -/
  | nobody (part region : Nat)
deriving DecidableEq, Repr

/-- A request that awaits its response (R257). -/
structure Req where
  txid : Nat
  kind : Nat
  via : Via
  src : ReqSrc
  addr : Nat := 0
  amount : Nat := 0
  /-- First byte of the request in the transfer order of its descriptor (R162). -/
  pos : Nat := 0
  /-- The destination coordinate; of a relayed request, its sender's (R303). -/
  peer : Nat := 0
  /-- A READ_REQ that ended as not performed and awaits its retry, and how often it has been retried (R170, R257). -/
  retry : Bool := false
  tries : Nat := 0
deriving DecidableEq, Repr

/-- A message on its way over the leat: how it entered, where it is and where it goes, by bedstone, 6 being the hurst (R16). -/
structure Transit where
  via : Via
  msg : LinkMsg
  node : Nat
  goal : Nat
deriving DecidableEq, Repr

/-- States of a flume link (R280). -/
inductive LinkState where
  | down | training | negotiating | keying | identified | active | retraining | fenced | dressing | peerDressing | disabled
deriving DecidableEq, Repr

def LinkState.code : LinkState → Nat
  | .down => 0 | .training => 1 | .negotiating => 2 | .keying => 3 | .identified => 4 | .active => 5
  | .retraining => 6 | .fenced => 7 | .dressing => 8 | .peerDressing => 9 | .disabled => 10

/-- A keying record that this end sends in a CTRL flit (R267, R284). The certificate chain is the device's own, named by its identity. -/
inductive CtrlRec where
  | advertise (a : Advertise)
  | hello (random : BitVec 256) (coord link feed : Nat)
  | cert (identity : Word64)
  | kex (pub : BitVec 776) (signature : BitVec 768)
  | finish (mac : BitVec 384)
deriving DecidableEq, Repr

/-- A flit: its header (R276), its 64-byte slots, and what the receiver's decoder and verifier find (R279, R288). Of a flit that leaves: the nonce under which its body is sealed (R286), and
the record that a CTRL flit carries. -/
structure Flit where
  header : Word64
  slots : List (BitVec 512) := []
  nonce : Option (BitVec 96) := none
  carries : Option CtrlRec := none
  fecBad : Bool := false
  fecSymbols : Nat := 0
  tagBad : Bool := false
deriving DecidableEq, Repr

/-- Who the peer of a link is (R282, R284). -/
structure PeerId where
  coord : Nat := 0
  link : Nat := 0
  feed : Nat := 0
  identity : Word64 := 0
deriving DecidableEq, Repr

/-- A flume link (R274–R293). The registers hold counters, the violation log and REASON. -/
structure Link where
  st : LinkState := .down
  /-- Messages waiting to be sent, oldest first, and slots of the message being sent (R277). -/
  txMsgs : List LinkMsg := []
  txSlots : List (BitVec 512) := []
  /-- Sent DATA and CTRL flits that no ACK covers, oldest first, with their SEQ (R279). -/
  unacked : List (Nat × Flit) := []
  /-- How many of `unacked`, the last ones, are still to be resent in a replay. -/
  replay : Nat := 0
  replayFrom : Nat := 0
  txSeq : Nat := 0
  rxNext : Nat := 0
  lastAck : Nat := 4095
  /-- A gap is open at the receiver (R279). -/
  gap : Bool := false
  nakDue : Bool := false
  replaysNoProgress : Nat := 0
  rxSlots : List (BitVec 512) := []
  /-- The receive buffer: whole messages, oldest first, and whether the link was ACTIVE when each arrived. -/
  inbox : List (LinkMsg × Bool) := []
  /-- Credits held, per VC, in slots, and credits to return (R278). -/
  cr0 : Nat := 1024
  cr1 : Nat := 1024
  cr2 : Nat := 512
  ret0 : Nat := 0
  ret1 : Nat := 0
  ret2 : Nat := 0
  /-- Slots of each VC received and not yet credited back. -/
  used0 : Nat := 0
  used1 : Nat := 0
  used2 : Nat := 0
  peerAdm : Bool := false
  keys : Bool := false
  epochTx : Nat := 0
  epochRx : Nat := 0
  /-- Records of the keying received so far: 0 none, 1 HELLO, 2 CERT, 3 KEX, 4 FINISH (R284). -/
  keyRecs : Nat := 0
  /-- Own records of the negotiation or keying sent so far, and what they were made from: the HELLO random and the ephemeral private key (R284). -/
  keyTx : Nat := 0
  random : BitVec 256 := 0
  ephemeral : BitVec 384 := 0
  /-- The peer's HELLO random and its ephemeral public key. -/
  peerRandom : BitVec 256 := 0
  peerPub : BitVec 776 := 0
  /-- The key and the salt of each direction, and the flit boundaries since the epoch began (R284, R286, R287). -/
  txKey : BitVec 256 := 0
  rxKey : BitVec 256 := 0
  txSalt : BitVec 32 := 0
  rxSalt : BitVec 32 := 0
  txCtr : Nat := 0
  rxCtr : Nat := 0
  /-- The numbering and the replay buffer of a link that may resume, while its keying numbers its CTRL flits (R279, R282): unacked, txSeq, rxNext, lastAck. -/
  saved : Option (List (Nat × Flit) × Nat × Nat × Nat) := none
  keyFails : Nat := 0
  resuming : Bool := false
  holdIdle : Bool := false
  peer : Option PeerId := none
  hello : PeerId := {}
  features : Nat := 0
  /-- Violations, retrains and uncorrectable flits counted in the sliding windows of R291. -/
  viol1s : Nat := 0
  uncorr1s : Nat := 0
  retrain60s : Nat := 0
  violEvent : Bool := false
  /-- The last 16 violations, newest first: TIME, KIND, VC and CODE (R290). -/
  viols : List (Nat × Nat × Nat × Nat) := []
  /-- The last flit that left (R277); none while the lanes carry no flits. -/
  out : Option Flit := none
deriving DecidableEq, Repr

/-- States of a leat port (LEAT.STATUS.STATE). -/
inductive LeatState where
  | unused | training | up | retraining | outOfService | held | down
deriving DecidableEq, Repr

/-- A leat port (R259–R265) and its half of the pair's replay state (R261). -/
structure Leat where
  st : LeatState := .down
  fails : Nat := 0
  /-- A RESTORE write started the training (R265). -/
  restore : Bool := false
  hdrErrs : Nat := 0
  /-- Messages sent and not acknowledged, with their pair sequence, oldest first (R261). -/
  unacked : List (Nat × LinkMsg) := []
  txSeq : Nat := 0
  /-- The pair sequence that the receiving router accepts next (R261). -/
  rxNext : Nat := 0
  /-- The ADVERTISE record that this end has sent on the sideband (R263, R267). -/
  advert : Option Advertise := none
  cr0 : Nat := 2048
  cr1 : Nat := 2048
  cr2 : Nat := 1024
deriving DecidableEq, Repr

/-- The weir (R268–R273): outstanding guest requests, token buckets in bytes, and the sliding counts of R291. -/
structure Weir where
  killed : Bool := true
  held : Bool := false
  outstanding : Nat := 0
  /-- Requests in the port's buffer that wait for a bucket, oldest first: they hold their credits (R262, R270). -/
  waiting : List LinkMsg := []
  rdTokens : Nat := 65536
  wrTokens : Nat := 65536
  viol1s : Nat := 0
  retrain60s : Nat := 0
  evented : Bool := false
  /-- Responses that have left for the guest die, newest first. -/
  answers : List LinkMsg := []
  verMajor : Nat := 0
  verMinor : Nat := 0
  features : Nat := 0
deriving DecidableEq, Repr

end Sys2Proof.Machine
end

