-- ==== Sys2Proof/Syntax.lean ====
section
/-! DEFINITION. The commands: one constructor per row of spec/opcode_table.json, with the row's operands. A command names its unit by a bounded number, so that a
unit the package lacks cannot be named (R9); what else an operand carries is what reaches the machine from outside with the command. -/

namespace Sys2Proof
open Sys2Proof.Machine

/-- A logical cell number (R9). -/
abbrev CellId := Fin 576
/-- An active block, 12r + k (R9, R369). -/
abbrev BlockId := Fin 144
abbrev ChanId := Fin 16
abbrev RegionId := Fin 12
abbrev BedId := Fin 6
abbrev StackId := Fin 24
abbrev LinkId := Fin 96
abbrev PartId := Fin 6
/-- A leat port as R369 kind 7 numbers it: 8b + p, and 48 + k for the hurst ends. -/
abbrev LeatId := Fin 55
abbrev FarPortId := Fin 2

/-- An engine command is taken by the core (dispatch, R60) and later executed by its engine once begun (R61). -/
inductive Phase where
  | dispatch | execute
deriving DecidableEq, Repr

/-- A sync unit (R215). -/
inductive SyncUnit where
  | package
  | region (b : BedId)
  | block (b : BlockId)
deriving DecidableEq, Repr

/-- How an access that leaves its cell ends (R44, R52, R251): with its data, not performed, or with data that an uncorrectable error on a path or in a buffer has turned to
poison on the way (R231). -/
inductive AccessResult where
  | ok | error | poison
deriving DecidableEq, Repr

/-- What the controller finds where a write or an add reads its unit first (R227, R239, R245): the wrong symbols of each of its pieces, and whether the tag held is found changed. -/
structure UnitRead where
  errs : List (Fin 8 × List (Nat × Byte))
  tagErr : Bool
deriving DecidableEq, Repr

/-- The bytes that a write of a stack carries, none where a byte is not written (R233), and what its unit is found to hold. -/
structure StackData where
  bytes : List (Option Byte)
  read : UnitRead
deriving DecidableEq, Repr

/-- A grist add's source granule, and whether it carries poison (R239). -/
structure GristSource where
  bytes : List Byte
  poison : Bool
deriving DecidableEq, Repr

/-- How a duplicate address detection ends, of the endpoint's address or of its link-local one (R313). -/
structure DadEnd where
  onLocal : Bool
  conflict : Bool
deriving DecidableEq, Repr

/-- What a power sample brings beside its 100 µs average (R342): the 1 ms average, and the output watts of each partition's other rails. -/
structure SampleRest where
  avg1ms : BitVec 16
  np : List (BitVec 16)
deriving DecidableEq, Repr

/-- The steps of start-up (R422): the module's, or one partition's from step 4 onwards (R423). -/
inductive StartStep where
  | module (step : Fin 4)
  | part (p : PartId) (step : Fin 10)
deriving DecidableEq, Repr

/-- A lane of a channel that training tests (R219): one of the 36 lanes of a pseudo-channel, or the channel's row or column command bus. -/
inductive HbmLane where
  | lane (pc : Fin 2) (n : Fin 36)
  | row (n : Nat)
  | column (n : Nat)
deriving DecidableEq, Repr

/-- What training finds at one bin (R218, R219): the lanes that fail the test, and whether the stack fails for another reason. -/
structure BinTrial where
  failed : List (Fin 32 × HbmLane) := []
  fails : Bool := false
deriving DecidableEq, Repr

/-- How a step of start-up or of dressing ends: done, or a failure exit (R410, R424). `stacks`: what the training of the stacks finds at the image's bin and at each lower one;
nothing listed means that nothing fails. `bad`: the physical blocks of each region that the scan finds faulty (R19, R378), `session` the drawn session value (R398). -/
inductive StepResult where
  | stacks (train : List (StackId × List BinTrial))
  | done (bad : List (Fin 12 × Fin 13)) (session : Word64)
  | images (copyA copyB : Option (List Byte)) (verifyA verifyB : Bool) (feed : BitVec 4)
  | fail (code : BitVec 8)
deriving DecidableEq, Repr

/-- Why a stack is lost (R235). -/
inductive StackCause where
  | retrain | clock | temperature
deriving DecidableEq, Repr

/-- An access at a far-tier port by partition offset (R248, R249); `marked`: the pieces of a read that the expander marks poisoned. -/
inductive FarAccess where
  | read (off : BitVec 52) (len : Nat) (marked : List Nat)
  | write (off : BitVec 52) (data : List Byte) (poison : Bool)
deriving DecidableEq, Repr

/-- A link message that reaches a router: the oldest one in a flume link's receive buffer; one that crosses the leat towards its destination and is received at a port, with the number of
pieces that the code corrects and the pieces of the data area that it cannot (R231, R260); or one of this package that has come to the router of its destination (R16, R297). -/
inductive MsgIn where
  | inbox (f : LinkId)
  | leat (p : LeatId) (m : LinkMsg) (ce : Nat) (ue : List Nat)
  | self (m : LinkMsg)
deriving DecidableEq, Repr

/-- A record of keying and what the checks of R284 find in it. -/
inductive KeyRec where
  | advertise (minMajor minMinor maxMajor maxMinor : Byte) (features : BitVec 32)
  | hello (peer : PeerId) (random : BitVec 256)
  | cert (ok : Bool)
  | kex (pub : BitVec 776) (ok : Bool)
  | finish (ok : Bool) (replayKept : Bool)
  | malformed
deriving DecidableEq, Repr

/-- Which staged entry a write names (R310). -/
inductive PlanEntry where
  | plan (f : LinkId)
  | route (d : Fin 1024)
deriving DecidableEq, Repr

/-- The header of a Huaza message as it reaches its endpoint (R315), less its TYPE, with its source address, and what no field of the header says: `tagOk`, whether the tag of a sealed
message verifies (R320), and `bodyRsvd`, whether a reserved field of the body is not zero. `rsvd` is the reserved word at 0x0C. -/
structure HzHead where
  src : BitVec 128
  major : Byte
  minor : Byte
  flags : Byte
  bodyLen : BitVec 16
  status : BitVec 16 := 0
  session : BitVec 32
  rsvd : BitVec 32 := 0
  seq : Word64
  bodyRsvd : Bool := false
  tagOk : Bool
deriving DecidableEq, Repr

/-- What an SPDM message asks and how its checks end (R319, R400). -/
inductive SpdmMsg where
  | query                       -- GET_VERSION to CHALLENGE, and the requests of mutual authentication
  | measurement (index : Fin 9) -- GET_MEASUREMENTS of one block (R401); index 0 asks how many there are
  | keyExchange
  | finish (chainOk : Bool)
  | unsupported
deriving DecidableEq, Repr

/-- A QP record (R327). -/
structure QpRec where
  qpn : BitVec 32
  dest : BitVec 32
  psn : BitVec 32
  state : Byte
  mtu : Byte
  maxRd : Byte
  gid : BitVec 128
deriving DecidableEq, Repr

/-- A RoCEv2 packet (R325–R330): its BTH and RETH fields and its payload; `unitOk` says whether the tag of the sealed unit that it completes verifies. -/
structure RdmaPkt where
  src : BitVec 128
  qpn : BitVec 32
  psn : BitVec 24
  /-- The BTH opcode. -/
  opcode : Byte
  /-- The BTH or RETH is malformed (R332). -/
  malformed : Bool
  rkey : BitVec 32
  va : Word64
  len : BitVec 32
  data : List Byte
  unitOk : Bool
  /-- The packet carries ECN-CE (R325). -/
  ecn : Bool := false
deriving DecidableEq, Repr

/-- A frame at the host port (R311–R314), less the Huaza and RoCEv2 requests that the rows of their own carry. -/
inductive FrameKind where
  | badFcs | wrongAddress | ipv4 | extensionHeader | wrongPort | badChecksum
  | neighbourSolicitation (src : BitVec 128) (onLocal : Bool)   -- for the endpoint's address, or for its link-local one
  | echo (src : BitVec 128) (onLocal : Bool)
  | huaza (src : BitVec 128) (payload : List Byte) (tagOk : Bool)      -- the UDP payload of a message of a reserved TYPE, or of one that the host may not send
  | pfc (paused : Byte)                       -- 802.1Qbb: the priorities that the far end has paused
deriving DecidableEq, Repr

/-- A frame with its length, and the bytes that its partition's share of the receive buffer holds as it arrives (R312). -/
structure Frame where
  part : PartId
  bytes : Nat
  kind : FrameKind
  level : Nat := 0
deriving DecidableEq, Repr

/-- Which part of an operating-point change ends (R349). -/
inductive OpDone where
  | slewed | locked | moved
deriving DecidableEq, Repr

/-- What a cross-check finds (R377): agreement, or on a mismatch which of the first results and which of the repeated results differ from the majority; no majority. -/
inductive XcheckResult where
  | agree
  | mismatch (suspect : List (Fin 3))
  | abandoned
deriving DecidableEq, Repr

/-- How the training of a leat port ends (R263–R265): with the repair map and what the other end advertises (R267), or not. -/
inductive TrainResult where
  | up (spares : BitVec 16) (exhausted : BitVec 16) (adv : Advertise)
  | failed
deriving DecidableEq, Repr

/-- How the training of a far-tier port ends (R246, R247). -/
inductive FarTrain where
  | up (bytes : Word64) (wide : Bool) (fast : Bool)
  | absent
  | unsupported
  | failed
deriving DecidableEq, Repr

/-- The commands of the block, one per row of spec/opcode_table.json. -/
inductive Instr where
  /-- POWER_ON (R422): The input comes into range with MOD_RESET_N high and the module begins start-up at step 0. -/
  | powerOn
  /-- MOD_RESET (R421): MOD_RESET_N held low for 10 µs or more turns off every rail except the always-on rail, destroys keys and clears the coordinate and board limit. -/
  | modReset
  /-- START_STEP_COMPLETE (R422): A start-up step finishes its timed work and the module or partition advances to the next step, reaching READY after step 9. -/
  | startStepComplete (step : StartStep) (res : StepResult)
  /-- ENTDAA (R426): The I3C target receives a dynamic address by ENTDAA. -/
  | entdaa (addr : BitVec 7)
  /-- BC_STATUS (R428): The board controller reads the 32-byte start-up, partition and fabric status. -/
  | bcStatus (crcOk : Bool)
  /-- SET_COORD (R296): The board controller gives a (plane, group, member) triple, which is accepted or rejected and may restart discovery. -/
  | setCoord (crcOk : Bool) (plane group member : Byte)
  /-- SET_BOARD_LIMIT (R340): The board controller sets the board power limit, which enters Ceff within 10 µs. -/
  | setBoardLimit (crcOk : Bool) (watts : BitVec 16)
  /-- BC_TELEMETRY (R405): The board controller reads the 64-byte telemetry record, reduced when any partition is in secure mode. -/
  | bcTelemetry (crcOk : Bool)
  /-- BC_DRESS (R406): The board controller requests dressing of a partition. -/
  | bcDress (crcOk : Bool) (part : Byte)
  /-- READ_SUMMARY (R387): The board controller reads bytes of the dump summary kept in the always-on domain. -/
  | readSummary (crcOk : Bool) (offset : BitVec 32) (length : BitVec 16)
  /-- ALERT (R429): The board controller reads the alert bits and clears them. -/
  | alertRead (crcOk : Bool)
  /-- RAISE_SVN (R430): The board controller raises the fused security version, which is irreversible. -/
  | raiseSvn (crcOk : Bool) (svn : BitVec 32)
  /-- IDENTITY (R399): The board controller reads the serial number, the variant and SEC.ID. -/
  | identityRead (crcOk : Bool)
  /-- TEST_ARM (R431): The board controller arms or disarms the test controls of a partition. -/
  | testArm (crcOk : Bool) (part arm : Byte)
  /-- TEST_CTRL_WRITE (R431): A write to TEST.CTRL.ENABLE turns test classes on or off when they are permitted and armed. -/
  | testCtrlWrite (p : PartId) (v : Word64)
  /-- REGISTER_WRITE (R5): A write to a register with no behaviour of its own acts under the register's access codes. -/
  | registerWrite (p : PartId) (off : BitVec 52) (v : Word64)
  /-- CELL_ARM (R40): A write of CELL.CTRL.ARM is checked and either moves an IDLE cell to ARMED or sets CMD_REJECT. -/
  | cellArm (c : CellId)
  /-- CELL_DISARM (R76): A write of CELL.CTRL.DISARM returns an ARMED cell to IDLE. -/
  | cellDisarm (c : CellId)
  /-- CELL_DRAIN (R78): A write of CELL.CTRL.DRAIN moves the cell to DRAINING so that its queued commands run out. -/
  | cellDrain (c : CellId)
  /-- CELL_KILL (R78): A write of CELL.CTRL.KILL starts the kill form of the cell. -/
  | cellKill (c : CellId)
  /-- CELL_CLEAR (R76): A write of CELL.CTRL.CLEAR moves a KILLED cell to IDLE and zeroes its frozen registers. -/
  | cellClear (c : CellId)
  /-- CELL_RESUME (R76): A write of CELL.CTRL.RESUME returns a cell halted by USER_TRAP to RUNNING. -/
  | cellResume (c : CellId)
  /-- FREEZE_SET (R77): A CELL.CTRL write that changes FREEZE to 1 moves the cell to FREEZING. -/
  | freezeSet (c : CellId)
  /-- FREEZE_CLEAR (R77): A CELL.CTRL write that changes FREEZE to 0 returns the cell to the state it held before freezing. -/
  | freezeClear (c : CellId)
  /-- FREEZE_COMPLETE (R76): A FREEZING cell with no command executing becomes FROZEN. -/
  | freezeComplete (c : CellId)
  /-- CELL_DRAIN_COMPLETE (R76): A DRAINING cell whose queues are empty and which has no command executing becomes IDLE. -/
  | cellDrainComplete (c : CellId)
  /-- KILL_COMPLETE (R375): A KILLING cell whose executing commands have all ended becomes KILLED. -/
  | killComplete (c : CellId)
  /-- CELL_JOB_WRITE (R74): A write of CELL.JOB sets the job ID in IDLE, and is rejected in any other state. -/
  | cellJobWrite (c : CellId) (v : Word64)
  /-- SREG_WRITE (R81): A write of CELL.SREGn sets a scalar register in IDLE, FROZEN or HALTED, and is rejected otherwise. -/
  | sregWrite (c : CellId) (n : Fin 32) (v : Word64)
  /-- HOPPER_DATA_LO_WRITE (R81): A write of HOPPER_DATA_LO loads the holding register. -/
  | hopperDataLoWrite (c : CellId) (v : Word64)
  /-- HOPPER_DATA_HI_WRITE (R81): A write of HOPPER_DATA_HI stores a whole word into the hopper, sets its valid bit and advances HOPPER_INDEX. -/
  | hopperDataHiWrite (c : CellId) (v : Word64)
  /-- HOPPER_DATA_HI_READ (R81): A read of HOPPER_DATA_HI returns the high half of the word and advances HOPPER_INDEX. -/
  | hopperDataHiRead (c : CellId)
  /-- NAN_REC_CLEAR (R104): A write of 1 to NAN_REC_LOC.VALID clears the NaN trap record and re-arms it. -/
  | nanRecClear (c : CellId)
  /-- LAUNCH_FETCH_WORD (R42): A launch-fetched command word arrives in the hopper and becomes valid; word 0 moves the cell to RUNNING. -/
  | launchFetchWord (c : CellId) (res : AccessResult)
  /-- HFETCH_WORD_ARRIVE (R47): A word of an outstanding HFETCH arrives, or fails, in the hopper. -/
  | hfetchWordArrive (c : CellId) (res : AccessResult)
  /-- NOP (R57): The core takes a no-operation word. -/
  | nop (c : CellId)
  /-- END (R43): END starts an implicit fence at its scope and ends the run. -/
  | endRun (c : CellId)
  /-- END_COMPLETE (R43): END's fence is satisfied and the cell enters IDLE, or re-arms and advances LAUNCH_EXPECT. -/
  | endComplete (c : CellId)
  /-- ADD (R57): rd := ra + rb. -/
  | add (c : CellId)
  /-- SUB (R57): rd := ra − rb. -/
  | sub (c : CellId)
  /-- MUL (R57): rd := the low 64 bits of ra × rb, with rd pending for 3 cycles. -/
  | mul (c : CellId)
  /-- AND (R57): rd := ra and rb. -/
  | andW (c : CellId)
  /-- OR (R57): rd := ra or rb. -/
  | orW (c : CellId)
  /-- XOR (R57): rd := ra xor rb. -/
  | xorW (c : CellId)
  /-- SHL (R57): rd := ra shifted left by rb[5:0]. -/
  | shl (c : CellId)
  /-- SHR (R57): rd := ra shifted right logically by rb[5:0]. -/
  | shr (c : CellId)
  /-- SRA (R57): rd := ra shifted right arithmetically by rb[5:0]. -/
  | sra (c : CellId)
  /-- SLT (R57): rd := 1 if ra < rb signed, else 0. -/
  | slt (c : CellId)
  /-- SLTU (R57): rd := 1 if ra < rb unsigned, else 0. -/
  | sltu (c : CellId)
  /-- SEQ (R57): rd := 1 if ra = rb, else 0. -/
  | seq (c : CellId)
  /-- ADDI (R57): rd := ra + imm. -/
  | addi (c : CellId)
  /-- ANDI (R57): rd := ra and imm. -/
  | andi (c : CellId)
  /-- ORI (R57): rd := ra or imm. -/
  | ori (c : CellId)
  /-- XORI (R57): rd := ra xor imm. -/
  | xori (c : CellId)
  /-- SHLI (R57): rd := ra shifted left by imm. -/
  | shli (c : CellId)
  /-- SHRI (R57): rd := ra shifted right logically by imm. -/
  | shri (c : CellId)
  /-- SRAI (R57): rd := ra shifted right arithmetically by imm. -/
  | srai (c : CellId)
  /-- SLTI (R57): rd := 1 if ra < imm signed, else 0. -/
  | slti (c : CellId)
  /-- SLTIU (R57): rd := 1 if ra < imm unsigned, else 0. -/
  | sltiu (c : CellId)
  /-- SEQI (R57): rd := 1 if ra = imm, else 0. -/
  | seqi (c : CellId)
  /-- MOVI (R57): rd := imm. -/
  | movi (c : CellId)
  /-- LD (R51): LD issues a checked load from ra + offset and stalls the core until the data returns. -/
  | ld (c : CellId)
  /-- LD_DATA_RETURN (R52): A load's data returns and is written into rt, or the cell halts on poison. -/
  | ldDataReturn (c : CellId) (res : AccessResult)
  /-- ST (R52): ST posts a checked store of rt to ra + offset, with up to eight outstanding. -/
  | st (c : CellId)
  /-- ST_PERFORMED (R52): A posted store becomes performed and frees its slot. -/
  | stPerformed (c : CellId) (i : Nat)
  /-- BEQ (R57): Branch to the target if ra = rb. -/
  | beq (c : CellId)
  /-- BNE (R57): Branch to the target if ra ≠ rb. -/
  | bne (c : CellId)
  /-- BLT (R57): Branch to the target if ra < rb signed. -/
  | blt (c : CellId)
  /-- BGE (R57): Branch to the target if ra ≥ rb signed. -/
  | bge (c : CellId)
  /-- BLTU (R57): Branch to the target if ra < rb unsigned. -/
  | bltu (c : CellId)
  /-- BGEU (R57): Branch to the target if ra ≥ rb unsigned. -/
  | bgeu (c : CellId)
  /-- JMP (R57): Go to the target word. -/
  | jmp (c : CellId)
  /-- CALL (R57): s31 := PC + 1 and go to the target word. -/
  | call (c : CellId)
  /-- RET (R57): Go to s31[11:0]. -/
  | ret (c : CellId)
  /-- JR (R57): Go to ra[11:0]. -/
  | jr (c : CellId)
  /-- DBNZ (R57): Decrement ra and branch if the result is not zero. -/
  | dbnz (c : CellId)
  /-- HFETCH (R47): HFETCH marks hopper words pending and starts a fill from address ra. -/
  | hfetch (c : CellId)
  /-- HWAIT (R47): HWAIT stalls the core until every outstanding HFETCH has completed. -/
  | hwait (c : CellId)
  /-- RDCNT (R58): RDCNT returns the counter that its selector names into rd. -/
  | rdcnt (c : CellId)
  /-- FENCE (R65): FENCE holds the units of its hold mask until the units of its wait mask have completed at its scope. -/
  | fence (c : CellId)
  /-- FENCE_SATISFIED (R65): A pending fence's waited commands complete and their writes are performed, so the held units are released. -/
  | fenceSatisfied (c : CellId) (i : Nat)
  /-- PHASE (R72): PHASE writes CELL.PHASE and, with LEAD, sets the region's phase tag. -/
  | phase (c : CellId)
  /-- TRAP (R73): TRAP raises USER_TRAP and continues (NOTIFY) or halts the cell (HALT). -/
  | trap (c : CellId)
  /-- ENGINE_COMMAND_BEGIN (R61): An engine begins the command at the head of its queue when it is free and nothing holds the queue. -/
  | engineCommandBegin (c : CellId) (u : CUnit)
  /-- TDLD (R115): TDLD loads a 32-byte tile descriptor from the cell store into a descriptor register. -/
  | tdld (c : CellId) (ph : Phase)
  /-- AFILL (R115): AFILL fills every element of a set with a scalar register value. -/
  | afill (c : CellId) (ph : Phase)
  /-- ASCALE (R124): ASCALE multiplies each row of a set by an fp32 factor vector. -/
  | ascale (c : CellId) (ph : Phase)
  /-- MMA (R115): MMA accumulates A × B over K into a set, after descriptor checks. -/
  | mma (c : CellId) (ph : Phase)
  /-- MMA_SLICE_ISSUE (R106): The grid issues one slice of an MMA once its operand bytes are available. -/
  | mmaSliceIssue (c : CellId) (i : Nat)
  /-- DRAIN (R121): DRAIN runs a set through the tailrace with parameters, statistics and conversion into the cell store. -/
  | drain (c : CellId) (ph : Phase)
  /-- MRED (R127): MRED performs a millrace step as FIRST, MIDDLE or LAST. -/
  | mred (c : CellId) (ph : Phase)
  /-- ARRAY_COMMAND_COMPLETE (R119): An array command completes and is reported in the order of beginning, releasing its set. -/
  | arrayCommandComplete (c : CellId)
  /-- MILLRACE_TILE_RECEIVE (R128): A millrace tile arrives and is accepted into the receive buffer or refused. -/
  | millraceTileReceive (src dst : CellId)
  /-- MILLRACE_CREDIT (R127): A slot frees at the next hop and the waiting tile is sent. -/
  | millraceCredit (c : CellId)
  /-- MRED_RECEIVE_TIMEOUT (R127): An MRED's wait for a tile exceeds MR.TIMEOUT and the MRED ends with MR_TIMEOUT. -/
  | mredReceiveTimeout (c : CellId)
  /-- MRED_CREDIT_TIMEOUT (R127): An MRED's wait for credit exceeds MR.TIMEOUT and the tile is withdrawn. -/
  | mredCreditTimeout (c : CellId)
  /-- SR_SEED_WRITE (R124): A write of TAIL.SR_SEED reloads the stochastic generator, after any converting DRAIN. -/
  | srSeedWrite (c : CellId) (v : Word64)
  /-- MR_LINK_WRITE (R130): A write of MR.NEXT or MR.PREV takes effect, or is ignored with CFG_REJECT while the millrace is busy. -/
  | mrLinkWrite (c : CellId) (prev : Bool) (v : Word64)
  /-- HELD_ACCESS_PROCEED (R113): An external access held on a busy set is performed when the set's busy time ends. -/
  | heldAccessProceed (c : CellId) (i : Nat)
  /-- VPLD (R135): VPLD checks an element program record and loads it into a slot. -/
  | vpld (c : CellId) (ph : Phase)
  /-- VPROG (R136): VPROG applies an element program to N elements, with optional output, mask output and summary. -/
  | vprog (c : CellId) (ph : Phase)
  /-- VCOMP (R147): VCOMP compresses the elements selected by a mask and delivers their count. -/
  | vcomp (c : CellId) (ph : Phase)
  /-- VEXPD (R147): VEXPD expands consecutive elements into the positions selected by a mask. -/
  | vexpd (c : CellId) (ph : Phase)
  /-- VMLD (R142): VMLD loads a mask register from the cell store. -/
  | vmld (c : CellId) (ph : Phase)
  /-- VMST (R142): VMST stores a mask register to the cell store. -/
  | vmst (c : CellId) (ph : Phase)
  /-- VMOP (R142): VMOP combines mask registers bit by bit. -/
  | vmop (c : CellId) (ph : Phase)
  /-- VMRANGE (R142): VMRANGE sets mask bits in the range from lo to hi. -/
  | vmrange (c : CellId) (ph : Phase)
  /-- VRED (R146): VRED reduces the input in segments of G elements with a fixed tree. -/
  | vred (c : CellId) (ph : Phase)
  /-- VECTOR_GROUP_ISSUE (R131): The vector engine issues one lane group of a command. -/
  | vectorGroupIssue (c : CellId)
  /-- VECTOR_COMMAND_COMPLETE (R145): A vector command completes and delivers its summary or count to the scalar register. -/
  | vectorCommandComplete (c : CellId)
  /-- MDATA_READ (R154): A read of VEC.MDATA returns 64 mask bits and advances MSEL.WORD. -/
  | mdataRead (c : CellId)
  /-- MDATA_WRITE (R154): A write of VEC.MDATA stores 64 mask bits and advances MSEL.WORD, or is rejected outside the permitted states. -/
  | mdataWrite (c : CellId) (v : Word64)
  /-- SDESC (R159): SDESC issues a sluice descriptor from the cell store on a channel. -/
  | sdesc (c : CellId) (ph : Phase)
  /-- SARM (R169): SARM starts a new run of a persistent stream with new bases. -/
  | sarm (c : CellId) (ph : Phase)
  /-- SSTOP (R169): SSTOP disarms a persistent stream after its current run. -/
  | sstop (c : CellId) (ph : Phase)
  /-- DESCRIPTOR_BEGIN (R164): A channel begins a descriptor and checks its fields and addresses, failing with a begin-time reason if any check fails. -/
  | descriptorBegin (b : BlockId) (ch : ChanId)
  /-- SEGMENT_GRANT (R156): A whole free shared segment is granted round-robin to a requesting channel. -/
  | segmentGrant (b : BlockId) (ch : ChanId)
  /-- SHARD_HEADER_READ (R179): The header of a RECORD or CHECK gather arrives and is validated, recorded or compared. -/
  | shardHeaderRead (b : BlockId) (ch : ChanId) (slot : Fin 4)
  /-- ACCESS_ERROR_RESPONSE (R170): An access returns an error saying it was not performed and a retry is scheduled, or the descriptor fails. -/
  | accessErrorResponse (b : BlockId) (ch : ChanId) (slot : Fin 4) (pos : Nat) (wr : Bool)
  /-- RETRY_TIMER_EXPIRE (R170): A retry wait ends and the failed access is reissued. -/
  | retryTimerExpire (b : BlockId) (ch : ChanId) (slot : Fin 4) (n : Nat) (ok : Bool)
  /-- DESCRIPTOR_COMPLETE (R166): Every destination byte is performed at the completion scope and LCTR and RCTR are signalled. -/
  | descriptorComplete (b : BlockId) (ch : ChanId) (slot : Fin 4)
  /-- STAMP_HEADER_WRITE (R180): After the payload is performed, a STAMP or ACT_SAVE writes its header. -/
  | stampHeaderWrite (b : BlockId) (ch : ChanId) (slot : Fin 4)
  /-- PACE_RECHECK (R168): A paced channel re-reads its consumer counter every 64 cycles and resumes when the fill level is at or below LOW. -/
  | paceRecheck (b : BlockId) (ch : ChanId) (slot : Fin 4)
  /-- CHANNEL_STALL_DETECT (R177): A channel that has moved no byte for 2^20 cycles is recorded as stalled and BLOCK_STALL is raised. -/
  | channelStallDetect (b : BlockId) (ch : ChanId)
  /-- CH_STOP (R169): A write of CHn_CTRL.STOP disarms the persistent stream after its run. -/
  | chStop (b : BlockId) (ch : ChanId)
  /-- CHANNEL_RESUME (R171): A write of CHn_CTRL.RESUME clears HALTED and the channel begins its next descriptor. -/
  | channelResume (b : BlockId) (ch : ChanId)
  /-- CH_DST_BASE_WRITE (R169): A write of CHn_DST_BASE starts a new persistent run, or is rejected while a run is in progress. -/
  | chDstBaseWrite (b : BlockId) (ch : ChanId) (v : Word64)
  /-- CH_PACE_WRITE (R168): A write of CHn_PACE resets P and samples C0. -/
  | chPaceWrite (b : BlockId) (ch : ChanId) (v : Word64)
  /-- SLUICE_SEG_WRITE (R188): A write of SLUICE.CFG.SEG changes the size of later grants; a value of 3 is ignored. -/
  | sluiceSegWrite (b : BlockId) (v : Word64)
  /-- HR_CFG_WRITE (R183): A write of HR.CFGc configures the headrace role, or is rejected while a stream is open. -/
  | hrCfgWrite (c : CellId) (v : Word64)
  /-- HEADRACE_INJECT (R184): The injector places stream bytes into the head's buffer under the HIGH and LOW watermarks. -/
  | headraceInject (b : BlockId) (ch : ChanId) (slot : Fin 4) (n : Nat)
  /-- HEADRACE_HOP (R185): Stream bytes are forwarded to the next cell of the chain when its buffer has space. -/
  | headraceHop (c : CellId) (n : Nat)
  /-- HEADRACE_MARKER (R186): A stream marker reaches the head of a buffer and is removed, or ends a command with HEADRACE_SHORT. -/
  | headraceMarker (c : CellId)
  /-- SIG (R201): SIG adds AREG + IMM to a counter of the partition. -/
  | sig (c : CellId) (ph : Phase)
  /-- SIGR (R208): SIGR sends a signal to a counter in another package. -/
  | sigr (c : CellId) (ph : Phase)
  /-- SIGR_ACK (R208): A SIGR's acknowledgement arrives and completes it with its status. -/
  | sigrAck (c : CellId) (i : Fin 8) (st : SyncStatus)
  /-- WAIT (R193): WAIT tests a counter against an expected value and registers as a waiter if the test fails. -/
  | waitCmd (c : CellId) (ph : Phase)
  /-- SHUT (R212): SHUT checks the line, sets the cell's ready bit and waits for the line to open. -/
  | shut (c : CellId) (ph : Phase)
  /-- COUNTER_SIGNAL_APPLY (R191): A signal is judged against the owner and added to the counter, or held pending, or refused. -/
  | counterSignalApply (i : Nat)
  /-- WAIT_TIMEOUT (R206): A WAIT or SHUT timer expires and the command ends with TIMEOUT. -/
  | waitTimeout (c : CellId)
  /-- CLAIM (R196): SYNC.CMD CLAIM takes a FREE counter for a job with an initial value. -/
  | claim (p : PartId) (u : SyncUnit) (job : BitVec 16)
  /-- RELEASE (R196): SYNC.CMD RELEASE returns a counter with no waiters, or an ABANDONED counter, to FREE. -/
  | ctrRelease (p : PartId) (u : SyncUnit)
  /-- SYNC_SEL_WRITE (R210): A write of SYNC.SEL selects a counter and snapshots it into the view registers. -/
  | syncSelWrite (p : PartId) (u : SyncUnit) (v : Word64)
  /-- PREEMPT (R196): SYNC.JOBCMD PREEMPT freezes every counter of a job. -/
  | preempt (p : PartId) (job : BitVec 16)
  /-- JOB_RESUME (R198): SYNC.JOBCMD RESUME adds the pending sums and tests the waiters of a job's counters. -/
  | jobResume (p : PartId) (job : BitVec 16)
  /-- RESET (R199): SYNC.JOBCMD RESET abandons every counter of a job and releases its waiters with ABANDONED. -/
  | jobReset (p : PartId) (job : BitVec 16)
  /-- LINE_CTRL_WRITE (R214): A write of SHUT.LINEn_CTRL enables or disables a shutter line. -/
  | lineCtrlWrite (p : PartId) (n : Fin 32) (v : Word64)
  /-- SHUT_MASK_WRITE (R211): A write of the block shutter masks changes the bits of disabled lines only. -/
  | shutMaskWrite (b : BlockId) (hi : Bool) (v : Word64)
  /-- STACK_READ (R227): A memory controller reads a piece, decodes it, corrects or poisons it, and checks its tag. -/
  | stackRead (st : StackId) (piece : BitVec 31) (err : List (Nat × Byte)) (tagErr : Bool)
  /-- STACK_WRITE (R233): A memory controller writes a piece; a partial write to poison is discarded and a partial tagged write merges. -/
  | stackWrite (st : StackId) (addr : BitVec 36) (data : StackData)
  /-- GRIST_ADD (R236): A grist unit adds a 256-byte source granule into a destination granule indivisibly. -/
  | gristAdd (st : StackId) (granule : BitVec 28) (fmt : Fin 5) (src : GristSource) (dst : UnitRead)
  /-- PATROL_SCRUB (R229): The patrol scrub reads and treats the next piece of the stack. -/
  | patrolScrub (st : StackId) (err : List (Nat × Byte))
  /-- CE_WINDOW_EXPIRE (R230): A correction window ends and CE_THRESHOLD may be raised. -/
  | ceWindowExpire (st : StackId)
  /-- PRIO_AGE_EXPIRE (R224): A bulk request reaches MEM.PRIO_AGE and is promoted to priority. -/
  | prioAgeExpire (st : StackId)
  /-- STACK_LOSS (R235): A stack fails by retrain, clock or temperature and its region is lost. -/
  | stackLoss (st : StackId) (cause : StackCause)
  /-- FAR_ACCESS (R250): A far-tier port performs an access on its CXL expander. -/
  | farAccess (p : PartId) (acc : FarAccess) (ok : Bool)
  /-- FAR_COMPLETION_TIMEOUT (R251): A far-tier access has no completion within 50 µs and fails as not performed. -/
  | farCompletionTimeout (q : FarPortId)
  /-- FAR_LINK_DOWN (R251): A far-tier link goes down and retrains, or is disabled once retraining is exhausted. -/
  | farLinkDown (q : FarPortId)
  /-- FAR_VIRAL (R251): A viral indication disables the far-tier port. -/
  | farViral (q : FarPortId)
  /-- FAR_MALFORMED (R251): A malformed far-tier message is discarded and counted toward retrain and disable thresholds. -/
  | farMalformed (q : FarPortId) (in1s : Nat)
  /-- MSG_WRITE (R256): A WRITE link message is received, checked and performed, then acknowledged. -/
  | msgWrite (m : MsgIn)
  /-- MSG_GRIST (R256): A GRIST link message is received and its granules are added, then acknowledged. -/
  | msgGrist (m : MsgIn)
  /-- MSG_READ_REQ (R256): A READ_REQ link message is received and answered with a READ_RESP. -/
  | msgReadReq (m : MsgIn)
  /-- MSG_SIGNAL (R256): A SIGNAL link message is received, applied or refused, and acknowledged. -/
  | msgSignal (m : MsgIn)
  /-- MSG_MILLRACE (R256): A MILLRACE link message is delivered to the receiving cell and acknowledged. -/
  | msgMillrace (m : MsgIn)
  /-- MSG_READ_RESP (R257): A READ_RESP arrives and completes its request, or is discarded as stray. -/
  | msgReadResp (m : MsgIn)
  /-- MSG_ACK (R257): An ACK arrives and completes its request with its status, or is discarded as stray. -/
  | msgAck (m : MsgIn)
  /-- REQUEST_TIMEOUT (R257): A request with no response after 100 µs ends by its kind. -/
  | requestTimeout (txid : Nat)
  /-- LEAT_HEADER_NAK (R260): An uncorrectable header piece is discarded and NAKed, and the sender resends from that sequence. -/
  | leatHeaderNak (p : LeatId) (m : LinkMsg)
  /-- LEAT_SEQ_ACK (R261): The receiving router returns the highest in-order sequence and the sender frees acknowledged messages. -/
  | leatSeqAck (p : LeatId) (seq : Nat)
  /-- LEAT_CREDIT_RETURN (R262): Leat credits return on the sideband as pieces leave the receiver's buffer. -/
  | leatCreditReturn (p : LeatId) (vc : Fin 3) (pieces : Nat)
  /-- LEAT_PORT_OUT (R17): A leat port goes out of service and its unacknowledged messages replay on the other port of the pair. -/
  | leatPortOut (p : LeatId)
  /-- LEAT_RETRAIN_CAUSE (R265): Header errors or clock loss start a leat port retrain, which may leave it OUT_OF_SERVICE. -/
  | leatRetrainCause (p : LeatId) (clockLost : Bool)
  /-- LEAT_RETRAIN (R265): A write of LEAT.CTRL.RETRAIN retrains an UP port. -/
  | leatRetrain (p : LeatId)
  /-- LEAT_RESTORE (R265): A write of LEAT.CTRL.RESTORE trains an OUT_OF_SERVICE port. -/
  | leatRestore (p : LeatId)
  /-- GUEST_REQUEST (R269): The weir checks a guest request against its windows and limits and passes or refuses it. -/
  | guestRequest (m : LinkMsg)
  /-- WEIR_CTRL_KILL (R272): A write of WEIR.CTRL.KILL fences the guest die for good. -/
  | weirCtrlKill
  /-- WEIR_JOB_WRITE (R294): A write of WEIR.JOB changes the job of later guest requests. -/
  | weirJobWrite (v : Word64)
  /-- FLIT_SEND (R277): At each flit boundary the link sends a DATA, IDLE, CTRL or DRESSING flit. -/
  | flitSend (f : LinkId)
  /-- FLIT_RECEIVE (R279): A received flit is decoded and verified, accepted in sequence or discarded and NAKed, and its header acted on. -/
  | flitReceive (f : LinkId) (flit : Flit)
  /-- GAP_NAK_TIMER (R279): A receive gap that lasts 4 µs sets NAK again. -/
  | gapNakTimer (f : LinkId)
  /-- REPLAY_TIMEOUT (R279): Unacknowledged flits held 4 µs without ACK progress are replayed. -/
  | replayTimeout (f : LinkId)
  /-- FLIT_LOCK (R280): A training or retraining link reaches flit lock and moves on to negotiation or keying. -/
  | flitLock (f : LinkId) (halfOnly : Bool)
  /-- TRAINING_TIMEOUT (R280): A link without lock for 50 ms returns to DOWN. -/
  | trainingTimeout (f : LinkId)
  /-- LINK_RETRY_TIMER (R280): The 1 s retry timer starts training of a DOWN link. -/
  | linkRetryTimer (f : LinkId)
  /-- KEYING_RECORD (R284): A keying record (ADVERTISE, HELLO, CERT, KEX, FINISH) is received and checked; FINISH derives keys and identifies the link. -/
  | keyingRecord (f : LinkId) (kr : KeyRec)
  /-- KEYING_TIMEOUT (R285): A keying record or the whole keying is late and the keying fails. -/
  | keyingTimeout (f : LinkId)
  /-- KEYING_IDLE_END (R285): The 100 ms electrical idle after a keying failure ends and the link enters TRAINING. -/
  | keyingIdleEnd (f : LinkId)
  /-- EPOCH_ROLL (R287): The flit counter reaches 2^32 and both ends move to the next key epoch. -/
  | epochRoll (f : LinkId)
  /-- FL_RETRAIN (R280): A write of FL.CTRL.RETRAIN retrains a link. -/
  | flRetrain (f : LinkId)
  /-- FL_UNFENCE (R280): A write of FL.CTRL.UNFENCE moves a FENCED link to TRAINING. -/
  | flUnfence (f : LinkId)
  /-- FL_DISABLE (R280): A write of FL.CTRL.DISABLE disables the link until the next start-up. -/
  | flDisable (f : LinkId)
  /-- DISC_WINDOW_EXPIRE (R302): The discovery window ends and the fabric state becomes DEGRADED or JOIN_WAIT. -/
  | discWindowExpire (p : PartId)
  /-- L2_COMMIT (R300): A write of FAB.L2CTRL.COMMIT applies the staged level-2 plan and route entries. -/
  | l2Commit (p : PartId)
  /-- L2_COMMIT_END (R300): The commit ends when every planned level-2 link is MATCHED or DISC_WINDOW passes. -/
  | l2CommitEnd (p : PartId)
  /-- PLAN_STAGE_WRITE (R310): A write to a level-2 PLAN or L2ROUTE entry is staged, or is rejected. -/
  | planStageWrite (p : PartId) (e : PlanEntry) (v : Word64)
  /-- PROBE_WINDOW_END (R305): All probes are answered or 100 µs pass, and the route becomes RELAY or UNREACHABLE. -/
  | probeWindowEnd (p : PartId) (d : BitVec 10)
  /-- ROUTE_REPROBE_TIMER (R305): A RELAY or UNREACHABLE route is probed again every 1 s. -/
  | routeReprobeTimer (p : PartId) (d : BitVec 10)
  /-- ETH_FRAME_RECEIVE (R314): A frame at the host port is dispatched to an endpoint or discarded and counted. -/
  | ethFrameReceive (fr : Frame)
  /-- HOST_LINK_UP (R313): The host link comes UP and each endpoint starts duplicate address detection. -/
  | hostLinkUp
  /-- DAD_TIMER (R313): After 1 s without conflict an address becomes PREFERRED. -/
  | dadTimer (p : PartId) (x : DadEnd)
  /-- HOST_LINK_DOWN (R313): The host link goes down after READY and HOST_PORT_DOWN is raised. -/
  | hostLinkDown
  /-- VERSION (R318): A Huaza VERSION request chooses the protocol version and features. -/
  | versionReq (p : PartId) (h : HzHead) (adv : Advertise)
  /-- SPDM (R319): A Huaza SPDM message carries the handshake that opens a session. -/
  | spdm (p : PartId) (h : HzHead) (msg : SpdmMsg)
  /-- HEARTBEAT (R316): A Huaza HEARTBEAT is answered and keeps the session alive. -/
  | heartbeat (p : PartId) (h : HzHead)
  /-- CLOSE (R319): A Huaza CLOSE ends the session and destroys its keys. -/
  | closeSession (p : PartId) (h : HzHead)
  /-- REG_READ (R321): A Huaza REG_READ reads consecutive space 5 registers after an all-or-nothing address check. -/
  | regRead (p : PartId) (h : HzHead) (addr : Word64) (count : BitVec 32)
  /-- REG_WRITE (R321): A Huaza REG_WRITE writes consecutive registers in ascending order and journals each word. -/
  | regWrite (p : PartId) (h : HzHead) (addr : Word64) (vals : List Word64)
  /-- MEM_READ (R321): A Huaza MEM_READ reads up to 4,096 bytes of spaces 0, 2, 3 or 4. -/
  | memRead (p : PartId) (h : HzHead) (addr : Word64) (len : BitVec 32)
  /-- MEM_WRITE (R321): A Huaza MEM_WRITE writes up to 4,096 bytes and is answered after they are performed. -/
  | memWrite (p : PartId) (h : HzHead) (addr : Word64) (data : List Byte)
  /-- INCR (R322): A Huaza INCR signals a counter of the partition from the host. -/
  | incr (p : PartId) (h : HzHead) (offset : BitVec 32) (job : BitVec 16) (amount : Word64)
  /-- SUBSCRIBE (R323): A Huaza SUBSCRIBE sets the session's event level mask and next index. -/
  | subscribe (p : PartId) (h : HzHead) (levels : BitVec 16) (frm : Word64)
  /-- EVENT_ACK (R323): The host's response acknowledges an EVENT, and the next EVENT may be sent. -/
  | eventAck (p : PartId) (h : HzHead)
  /-- EVENT_RESEND (R323): An unacknowledged EVENT is resent every 10 ms. -/
  | eventResend (p : PartId) (slot : Fin 8)
  /-- JOURNAL_READ (R321): A Huaza JOURNAL_READ returns change journal entries. -/
  | journalRead (p : PartId) (h : HzHead) (index : Word64) (count : BitVec 16)
  /-- MR_REG (R326): A Huaza MR_REG registers a memory region and returns an RKEY. -/
  | mrReg (p : PartId) (h : HzHead) (base len : Word64) (rights sealedMr : Byte)
  /-- MR_DEREG (R326): A Huaza MR_DEREG removes a memory region. -/
  | mrDereg (p : PartId) (h : HzHead) (rkey : BitVec 32)
  /-- QP_SET (R327): A Huaza QP_SET configures a queue pair to RTS or RESET. -/
  | qpSet (p : PartId) (h : HzHead) (q : QpRec)
  /-- QP_QUERY (R327): A Huaza QP_QUERY returns a queue pair's record. -/
  | qpQuery (p : PartId) (h : HzHead) (qpn : BitVec 32)
  /-- SESSION_IDLE_TIMEOUT (R319): A session with no valid message for 60 s ends. -/
  | sessionIdleTimeout (p : PartId) (slot : Fin 8)
  /-- RDMA_WRITE (R328): An RDMA WRITE packet is checked, written and acknowledged after its bytes are performed. -/
  | rdmaWrite (p : PartId) (k : RdmaPkt)
  /-- RDMA_READ (R328): An RDMA READ request is answered from memory, or NAKed on a fault or poison. -/
  | rdmaRead (p : PartId) (k : RdmaPkt)
  /-- SOURCE_BLOCK_EXPIRE (R332): A blocked source's block period ends. -/
  | sourceBlockExpire (p : PartId) (src : BitVec 128)
  /-- INPUT_FAULT (R337): An input fault stops runner clocks and turns off every rail except the always-on rail. -/
  | inputFault
  /-- RAIL_FAULT (R338): A rail fault raises RAIL_FAULT and causes the outcome given for that rail. -/
  | railFault (rail : Fin 32)
  /-- POWER_SAMPLE (R342): The 10 µs sample updates the module loop and PWR.CORRECTION. -/
  | powerSample (avg100 : BitVec 16) (rest : SampleRest)
  /-- TELEMETRY_RECORD (R344): Every 1 ms the hurst writes a telemetry record. -/
  | telemetryRecord (rcd : List Byte)
  /-- REF_LOSS (R348): Loss of the reference triggers failover to the oscillator or starts holdover. -/
  | refLoss
  /-- HOLDOVER_EXPIRE (R348): After 10 ms of holdover with no source, every region's clock is lost. -/
  | holdoverExpire
  /-- OP_CHANGE_STEP (R349): A step of an operating-point change completes: rail slew, PLL lock or clock move. -/
  | opChangeStep (r : RegionId) (what : OpDone)
  /-- CELL_CLOCK_GATE (R350): A cell idle for 64 cycles enters CLOCK_GATED. -/
  | cellClockGate (c : CellId)
  /-- CELL_POWER_GATE (R350): A cell that has been clock-gated for PG_DELAY enters POWER_GATED. -/
  | cellPowerGate (c : CellId)
  /-- CELL_WAKE (R351): A sleeping cell resumes after its wake time. -/
  | cellWake (c : CellId)
  /-- GOVERNOR_WINDOW (R353): Each microsecond window sets the governor's ceiling and floor from the previous activity index. -/
  | governorWindow (r : RegionId)
  /-- GOVERNOR_SLOT (R353): A 100 ns slot reaches its budget, so cycles are withheld, or ends short of its floor, so ballast is issued. -/
  | governorSlot (r : RegionId)
  /-- FANTAIL_RECOMPUTE (R357): The fantail recomputes the partition's allocations and operating-point choices. -/
  | fantailRecompute (p : PartId) (np : BitVec 16)
  /-- TRIM_SAMPLE (R357): Every 10 µs the region adjusts its trim ceiling M against its allocation. -/
  | trimSample (r : RegionId) (watts withheldUs : BitVec 16)
  /-- REGION_REST (R358): A region whose cells have all slept for 10 µs becomes resting. -/
  | regionRest (r : RegionId)
  /-- DROOP_DETECT (R359): The rail falls below the threshold and the clock halves within 2 cycles. -/
  | droopDetect (r : RegionId)
  /-- DROOP_END (R359): After 64 stretched cycles above threshold plus hysteresis, droop ends. -/
  | droopEnd (r : RegionId) (stretched : Nat)
  /-- CLOCK_MOVE_ABANDON (R360): A clock move that has waited 1 ms in all is abandoned. -/
  | clockMoveAbandon (r : RegionId)
  /-- THERMAL_STEP (R361): The thermal limit rises or falls by one operating point per interval, and M is cut above the throttle level plus 5 °C. -/
  | thermalStep (r : RegionId) (hottest : BitVec 16) (index : BitVec 8) (twice105 : Bool)
  /-- OVERTEMP_COMPARATOR (R362): A reading of 115 °C removes power from every rail except the always-on rail. -/
  | overtempComparator
  /-- STACK_TEMPERATURE (R363): A stack temperature crosses its refresh, throttle or trip limit. -/
  | stackTemperature (st : StackId) (celsius : Byte)
  /-- FAN_CLEAR (R366): A write of FAN.CTRL.CLEAR invalidates the fantail table. -/
  | fanClear (p : PartId)
  /-- RAIL_SEL_WRITE (R367): A write of PWR.RAIL_SEL snapshots a rail's measurements. -/
  | railSelWrite (p : PartId) (v : Word64)
  /-- FAN_SEL_WRITE (R367): A write of FAN.SEL snapshots a fantail entry. -/
  | fanSelWrite (p : PartId) (v : Word64)
  /-- THERM_SEL_WRITE (R367): A write of THERM.SEL snapshots a sensor reading. -/
  | thermSelWrite (r : RegionId) (v : Word64)
  /-- EVENT_RECORD_WRITE (R368): A raised event is written as a 48-byte record into the partition's log. -/
  | eventRecordWrite
  /-- REGION_LOSS (R371): A fatal region error clamps the region, poisons in-flight traffic and starts partition failure. -/
  | regionLoss (r : RegionId) (cause : Fin 7)
  /-- PARTITION_FREEZE_TIMEOUT (R372): Cells still FREEZING 100 µs after a failure are killed and the partition enters DUMPING. -/
  | partitionFreezeTimeout (p : PartId)
  /-- CROSSCHECK (R377): The check engine runs a random-operand check on two blocks and compares the results. -/
  | crosscheck (r : RegionId) (first : BlockId) (x : XcheckResult)
  /-- TOLL_START (R380): A write of TOLL.CTRL.START starts a toll round. -/
  | tollStart (p : PartId)
  /-- TOLL_HASH_END (R380): Hashing ends and the record is sent to the other replicas. -/
  | tollHashEnd (p : PartId)
  /-- TOLL_DECIDE (R381): The inbox counter reaches TOLL.EXPECT and the round's outcome is decided. -/
  | tollDecide (p : PartId)
  /-- TOLL_TIMEOUT (R380): The exchange timeout expires and the round is decided from the records present. -/
  | tollTimeout (p : PartId)
  /-- TOLL_ABORT (R389): A write of TOLL.CTRL.ABORT ends the round. -/
  | tollAbort (p : PartId)
  /-- POND_COPY_END (R385): Every data WRITE is acknowledged; the header is written COMPLETE and DONE_CTR is signalled. -/
  | pondCopyEnd (p : PartId)
  /-- POND_FAR_DRAIN (R386): The holder drains the previous generation into its far-tier ring. -/
  | pondFarDrain (p : PartId)
  /-- POND_DISARM (R389): A POND.CTRL DISARM write disarms the pond trigger. -/
  | pondDisarm (p : PartId)
  /-- POND_RETURN (R386): A POND.CTRL RETURN write makes the holder return a generation to RET_TO. -/
  | pondReturn (p : PartId)
  /-- ACCEPT_OPEN (R386): A POND.CTRL ACCEPT_OPEN write lets the receiver accept returned writes from ACCEPT_FROM. -/
  | acceptOpen (p : PartId)
  /-- ACCEPT_CLOSE (R386): A POND.CTRL ACCEPT_CLOSE write ends acceptance of returned writes. -/
  | acceptClose (p : PartId)
  /-- POND_ABORT (R384): A POND.CTRL ABORT write ends a copy with reason ABORTED. -/
  | pondAbort (p : PartId)
  /-- FATAL_DUMP (R387): The miller writes the partition's dump to its target, or a summary. -/
  | fatalDump (p : PartId)
  /-- DUMP_END (R387): The dump header is written COMPLETE, FATAL_DUMP_DONE is raised and the partition becomes FAILED. -/
  | dumpEnd (p : PartId)
  /-- DUMP_RELEASE (R388): A write of RAS.CTRL.DUMP_RELEASE destroys the kept dump keys. -/
  | dumpRelease (p : PartId)
  /-- PCTRL_DRESS (R406): A write of SEC.PCTRL.DRESS requests dressing of the partition. -/
  | pctrlDress (p : PartId)
  /-- DRESSING_STEP (R407): A step of dressing finishes and the next begins: stopping, keys, overwrite, scan, restart. -/
  | dressingStep (p : PartId) (res : StepResult)
  /-- TRNG_HEALTH_FAIL (R395): An entropy health test fails and the generator refuses every request. -/
  | trngHealthFail
  /-- CODEWORD_LOCK_LOSS (R280): A flume receiver loses codeword lock, for example when the peer goes silent, and an IDENTIFIED or ACTIVE link enters RETRAINING. -/
  | codewordLockLoss (f : LinkId)
  /-- LEAT_PORT_TRAINED (R263): A leat port's training or retraining ends, and the port goes UP, is tried again, or is left DOWN or OUT_OF_SERVICE. -/
  | leatPortTrained (p : LeatId) (t : TrainResult)
  /-- FAR_PORT_TRAINED (R247): A CXL far-tier port finishes training or retraining and comes UP with its capacity mapped, or counts a failed retrain. -/
  | farPortTrained (q : FarPortId) (t : FarTrain)
  /-- POWER_OFF (R337): The input is removed and falls below 36 V, so the always-on domain stops and its kept state and DRBG state are lost. -/
  | powerOff
  /-- MILLER_WATCHDOG (R372): The miller's own watchdog expires, the hurst is reset without a dump, and the cause is kept in the always-on domain. -/
  | millerWatchdog
  /-- HURST_FAULT (R372): An uncorrectable error in hurst control state, the security engine or port logic makes the package fatal and starts every partition's dump. -/
  | hurstFault (cause : Fin 3)
  /-- JOB_COMMAND_END (R215): A job command (PREEMPT, RESUME or RESET) has taken effect in every sync unit, and SYNC.JOBSTAT.BUSY returns to 0 within 2 µs. -/
  | jobCommandEnd (p : PartId)
  /-- RC_REGISTER_READ (R5): A read of an RC register returns its value, then clears it or restarts a high-water field, except while the field is frozen. -/
  | rcRegisterRead (p : PartId) (off : BitVec 52)
  /-- TEST_CLOCK_STRETCH (R432): Under test class CLOCK, every STRETCH_EVERY µs the region's clock is stretched for STRETCH_CYCLES cycles, counting as active droop. -/
  | testClockStretch (r : RegionId)deriving DecidableEq, Repr

end Sys2Proof
end

