-- ==== Sys2Proof/Decode.lean ====
section
/-! DEFINITION. The decoder of the block's table: spec/opcode_table.json gives no row any bits (every row's "fields" is empty), so no word spells a command. -/

namespace Sys2Proof

/-- The command that a word of the table spells: none, since no row of the table gives bits. -/
def decodeTableWord (_nbits _w : Nat) : Option Instr := none

end Sys2Proof
end

