-- ==== Sys2Proof/Config.lean ====
section
/-! DEFINITION. What one implementation fixes, and the FREE VALUES: opaque constants with no body, which no proof can see into.
Each is named in a row of the assumption log. -/

namespace Sys2Proof.Config

/-- A free value: what the spec leaves open and what comes from outside the machine and no command carries (a reading of a
running clock, a byte of the far tier that nothing of this session wrote). Applied to State.freeCtr, which every use advances, so that each use
is a fresh value nothing constrains (log 2). -/
opaque freeValue : Nat → BitVec 64

/-- The SHA-384 digest of a byte string (R379, R399): cryptography is uninterpreted (log 3). -/
opaque sha384 : List Byte → BitVec 384

/-- The digest of measurement block `n` over what the block covers (R401): uninterpreted (log 3). -/
opaque measure (n : Nat) (content : List Byte) : BitVec 384

/-- The SPDM session's application secret of a direction, 0 the host's and 1 the Gyward's (R319): what the exchange of ephemeral keys gives. Uninterpreted (log 3). -/
opaque spdmSecret (handshake : BitVec 64) (direction : Nat) : BitVec 384

/-- The P-384 public key of an ephemeral private key, 97 bytes uncompressed (R284): uninterpreted (log 3). -/
opaque ecPublic (priv : BitVec 384) : BitVec 776

/-- The ECDH shared secret of an own private and a peer's public key (R284): uninterpreted (log 3). -/
opaque ecdh (priv : BitVec 384) (peer : BitVec 776) : BitVec 384

/-- The two-step KDF of SP 800-56C over a shared secret, salted with the randoms (R284): output `n`, the spec giving no labels. Uninterpreted (log 3). -/
opaque linkKdf (secret : BitVec 384) (first second : BitVec 256) (n : Nat) : BitVec 384

/-- An ECDSA P-384 signature by the device identity key over a transcript of randoms and public keys (R284): uninterpreted (log 3). -/
opaque linkSign (identity : BitVec 64) (own peer : BitVec 256) (pub : BitVec 776) : BitVec 768

/-- The HMAC-SHA-384 of the transcript under the finish key (R284): the byte order of the transcript's records is not stated. Uninterpreted (log 3). -/
opaque linkFinish (finishKey : BitVec 384) (first second : BitVec 256) (pubFirst pubSecond : BitVec 776) : BitVec 384

end Sys2Proof.Config
end

