-- ==== Sys2Proof/Machine/Aes.lean ====
section
/-! DEFINITION. The ciphers that the spec names: AES-256 (FIPS 197), XTS on a 32-byte piece (IEEE 1619, R241), GHASH and GCM (SP 800-38D, R243, R283, R320),
HMAC and HKDF-Expand over SHA-384. A byte is a number below 256; a string of bytes is written first byte first. The digest is uninterpreted (log 3). -/

namespace Sys2Proof.Machine

def byteNats (bs : List Byte) : List Nat := bs.map (fun b => b.toNat)
def natBytes (ns : List Nat) : List Byte := ns.map (fun n => BitVec.ofNat 8 n)
/-- The `n` low bytes of a number as numbers, lowest first (R2). -/
def leNats (n x : Nat) : List Nat := byteNats (toBytes n x)
/-- The number that bytes spell, first byte highest (SP 800-38D). -/
def beVal (ns : List Nat) : Nat := ns.foldl (fun a n => a * 256 + n) 0
/-- The `n` bytes of a number, highest first. -/
def beNats (n x : Nat) : List Nat := (leNats n x).reverse
def xorNats (a b : List Nat) : List Nat := (a.zip b).map (fun (x, y) => x ^^^ y)

/-! ### AES-256 -/

/-- Product in GF(2^8) with x^8 + x^4 + x^3 + x + 1. -/
def aesMul : Nat → Nat → Nat → Nat
  | 0, _, _ => 0
  | n + 1, a, b => (if b % 2 = 1 then a else 0) ^^^ aesMul n (if a / 128 % 2 = 1 then ((a * 2) % 256) ^^^ 0x1B else a * 2) (b / 2)

/-- The S-box, entry 0 in the lowest byte. -/
def aesTable : Nat := 
  0x16BB54B00F2D99416842E6BF0D89A18CDF2855CEE9871E9B948ED9691198F8E19E1DC186B95735610EF6034866B53E708A8BBD4B1F74DDE8C6B4A61C2E2578BA08AE7A65EAF4566CA94ED58D6D37C8E779E4959162ACD3C25C2406490A3A32E0DB0B5EDE14B8EE4688902A22DC4F816073195D643D7EA7C41744975FEC130CCDD2F3FF1021DAB6BCF5389D928F40A351A89F3C507F02F94585334D43FBAAEFD0CF584C4A39BECB6A5BB1FC20ED00D153842FE329B3D63B52A05A6E1B1A2C830975B227EBE28012079A059618C323C7041531D871F1E5A534CCF73F362693FDB7C072A49CAFA2D4ADF04759FA7DC982CA76ABD7FE2B670130C56F6BF27B777C63
/-- The inverse S-box, entry 0 in the lowest byte. -/
def aesInvTable : Nat := 
  0x7D0C2155631469E126D677BA7E042B17619953833CBBEBC8B0F52AAE4D3BE0A0EF9CC9939F7AE52D0D4AB519A97F51605FEC8027591012B131C7078833A8DD1FF45ACD78FEC0DB9A2079D2C64B3E56FC1BBE18AA0E62B76F89C5291D711AF1476EDF751CE837F9E28535ADE72274AC9673E6B4F0CECFF297EADC674F4111913A6B8A130103BDAFC1020F3FCA8F1E2CD00645B3B80558E4F70AD3BC8C00ABD890849D8DA75746155EDAB9EDFD5048706C92B6655DCC5CA4D41698688664F6F87225D18B6D49A25B76B224D92866A12E084EC3FA420B954CEE3D23C2A632947B54CBE9DEC444438E3487FF2F9B8239E37CFBD7F3819EA340BF38A53630D56A0952

def aesSub (n : Nat) : Nat := (aesTable >>> (8 * n)) % 256
def aesInvSub (n : Nat) : Nat := (aesInvTable >>> (8 * n)) % 256

/-- The next eight words of the key schedule after eight words. -/
def aesNext8 (ws : List (List Nat)) (rcon : Nat) : List (List Nat) :=
  let w (i : Nat) : List Nat := ws.getD i []
  let t := ((w 7).drop 1 ++ (w 7).take 1).map aesSub
  let a0 := xorNats (w 0) (xorNats t [rcon, 0, 0, 0])
  let a1 := xorNats (w 1) a0
  let a2 := xorNats (w 2) a1
  let a3 := xorNats (w 3) a2
  let a4 := xorNats (w 4) (a3.map aesSub)
  let a5 := xorNats (w 5) a4
  let a6 := xorNats (w 6) a5
  [a0, a1, a2, a3, a4, a5, a6, xorNats (w 7) a6]

/-- Split a list into runs of `k`, `n` at most. -/
def runsOf (k : Nat) : Nat → List Nat → List (List Nat)
  | 0, _ => []
  | n + 1, l => if l.isEmpty then [] else l.take k :: runsOf k n (l.drop k)

def aesWords : Nat → List (List Nat) → Nat → List (List Nat)
  | 0, ws, _ => ws
  | n + 1, ws, rcon => ws ++ aesWords n (aesNext8 ws rcon) (aesMul 8 rcon 2)

/-- The 15 round keys of a key, 16 bytes each. -/
def aesKeys (key : List Nat) : List (List Nat) := (runsOf 16 15 ((aesWords 7 (runsOf 4 8 key) 1).flatten))

def aesShift (st : List Nat) : List Nat := (upTo 16).map (fun i => st.getD ((i + 4 * (i % 4)) % 16) 0)
def aesInvShift (st : List Nat) : List Nat := (upTo 16).map (fun i => st.getD ((i + 12 * (i % 4)) % 16) 0)

/-- A column matrix product, the row of coefficients rotated from row to row. -/
def aesMix (c0 c1 c2 c3 : Nat) (st : List Nat) : List Nat :=
  (upTo 16).map (fun i =>
    let b (k : Nat) : Nat := st.getD (i / 4 * 4 + (i + k) % 4) 0
    aesMul 4 (b 0) c0 ^^^ aesMul 4 (b 1) c1 ^^^ aesMul 4 (b 2) c2 ^^^ aesMul 4 (b 3) c3)

/-- AES-256 of a block of 16 bytes. -/
def aesEnc (key blk : List Nat) : List Nat :=
  match aesKeys key with
  | [] => []
  | k0 :: ks =>
    let st := (ks.take 13).foldl (fun st k => xorNats (aesMix 2 3 1 1 (aesShift (st.map aesSub))) k) (xorNats blk k0)
    xorNats (aesShift (st.map aesSub)) (ks.getD 13 [])

/-- The inverse cipher. -/
def aesDec (key blk : List Nat) : List Nat :=
  match (aesKeys key).reverse with
  | [] => []
  | k0 :: ks =>
    let st := (ks.take 13).foldl (fun st k => aesMix 14 11 13 9 (xorNats ((aesInvShift st).map aesInvSub) k)) (xorNats blk k0)
    xorNats ((aesInvShift st).map aesInvSub) (ks.getD 13 [])

/-- The bytes of a 256-bit key, lowest first (R2). -/
def keyNats (k : BitVec 256) : List Nat := leNats 32 k.toNat

/-! ### XTS on a piece (R241) -/

/-- A tweak times α: doubling in GF(2^128), the value little-endian. -/
def xtsNext (t : Nat) : Nat := if 2 ^ 127 ≤ t then ((t * 2) % 2 ^ 128) ^^^ 0x87 else t * 2

/-- The data unit is the 32-byte piece, two AES blocks; `f` is the cipher under K1. -/
def xtsPiece (f : List Nat → List Nat) (k2 : BitVec 256) (tweak : Nat) (piece : List Nat) : List Nat :=
  let t0 := ofBytes (natBytes (aesEnc (keyNats k2) (leNats 16 tweak)))
  let blk (t : Nat) (p : List Nat) : List Nat := xorNats (f (xorNats p (leNats 16 t))) (leNats 16 t)
  blk t0 (piece.take 16) ++ blk (xtsNext t0) (piece.drop 16)

def xtsEnc (k1 k2 : BitVec 256) (tweak : Nat) (piece : List Nat) : List Nat := xtsPiece (aesEnc (keyNats k1)) k2 tweak piece
def xtsDec (k1 k2 : BitVec 256) (tweak : Nat) (piece : List Nat) : List Nat := xtsPiece (aesDec (keyNats k1)) k2 tweak piece

/-! ### GHASH and GCM -/

/-- The product of GF(2^128) in GHASH's bit order: `n` bits of x are left, the first of them highest. -/
def gcmMul : Nat → Nat → Nat → Nat → Nat
  | 0, _, _, z => z
  | n + 1, x, v, z =>
    gcmMul n x (if v % 2 = 1 then (v / 2) ^^^ (0xE1 * 2 ^ 120) else v / 2) (if (x >>> n) % 2 = 1 then z ^^^ v else z)

/-- GHASH of whole 16-byte blocks under the hash subkey. -/
def ghash (h : Nat) (bytes : List Nat) : Nat :=
  (runsOf 16 (bytes.length / 16 + 1) bytes).foldl (fun y b => gcmMul 128 (y ^^^ beVal b) h 0) 0

/-- Bytes padded with zeros to whole blocks. -/
def padded (l : List Nat) : List Nat := l ++ List.replicate ((16 - l.length % 16) % 16) 0

/-- The counter mode of GCM from block counter `c` on, over `n` blocks at most. -/
def gcmCtr (key nonce : List Nat) : Nat → Nat → List Nat → List Nat
  | 0, _, _ => []
  | n + 1, c, l => if l.isEmpty then [] else xorNats (l.take 16) (aesEnc key (nonce ++ beNats 4 c)) ++ gcmCtr key nonce n (c + 1) (l.drop 16)

/-- The 128-bit tag of a ciphertext under a 96-bit nonce. -/
def gcmTag (key nonce aad cipher : List Nat) : List Nat :=
  let h := beVal (aesEnc key (List.replicate 16 0))
  let y := ghash h (padded aad ++ padded cipher ++ beNats 8 (8 * aad.length) ++ beNats 8 (8 * cipher.length))
  xorNats (beNats 16 y) (aesEnc key (nonce ++ beNats 4 1))

/-- AES-256-GCM: ciphertext, then tag. -/
def gcmSeal (key nonce aad plain : List Nat) : List Nat :=
  let c := gcmCtr key nonce (plain.length / 16 + 1) 2 plain
  c ++ gcmTag key nonce aad c

/-- HMAC-SHA-384 (FIPS 198): a key of at most 128 bytes, the block length of SHA-384. -/
def hmac384 (key msg : List Byte) : BitVec 384 :=
  let k := key ++ List.replicate (128 - key.length) 0
  let inner := Config.sha384 (k.map (fun b => b ^^^ 0x36) ++ msg)
  Config.sha384 (k.map (fun b => b ^^^ 0x5C) ++ (toBytes 48 inner.toNat))

end Sys2Proof.Machine
end

