-- ==== Sys2Proof/Machine/Fp.lean ====
section
/-! DEFINITION. Number formats and exact arithmetic (spec/03): decoding, one rounding from an exact value, the binary32 operations, conversions, and the flag
computations of R94 to R101. Every value is a number of bits; an exact value is a sign, a natural significand and an integer exponent. -/

namespace Sys2Proof.Machine

/-! ### Flags (R96): bit order INX, UNF, OVF, DZ, INV, IOV -/

def flINX : Nat := 1
def flUNF : Nat := 2
def flOVF : Nat := 4
def flDZ : Nat := 8
def flINV : Nat := 16
def flIOV : Nat := 32

/-- A result and the flags its computation raises. -/
abbrev Fl (α : Type) := α × Nat

/-! ### Formats (R83) -/

/-- A floating-point layout: widths of exponent and mantissa, bias, and the largest finite magnitude's encoding. -/
structure FpFmt where
  ebits : Nat
  mbits : Nat
  bias : Nat
  maxMag : Nat
  /-- 0: Inf and NaN as IEEE 754; 1: E4M3; 2: neither. -/
  special : Nat
deriving DecidableEq, Repr

/-- The layouts by format code (R83). -/
def fpFmt : Nat → Option FpFmt
  | 0 => some ⟨8, 23, 127, 0x7F7F_FFFF, 0⟩
  | 1 => some ⟨8, 7, 127, 0x7F7F, 0⟩
  | 2 => some ⟨5, 10, 15, 0x7BFF, 0⟩
  | 3 => some ⟨4, 3, 7, 0x7E, 1⟩
  | 4 => some ⟨5, 2, 15, 0x7B, 0⟩
  | 5 => some ⟨3, 2, 3, 0x1F, 2⟩
  | 6 => some ⟨2, 3, 1, 0x1F, 2⟩
  | 7 => some ⟨2, 1, 1, 0x7, 2⟩
  | _ => none

def fp32 : FpFmt := ⟨8, 23, 127, 0x7F7F_FFFF, 0⟩

/-- Width of one element of a format code (R83, R86, R87). -/
def fmtBits : Nat → Nat
  | 0 => 32 | 1 => 16 | 2 => 16 | 3 => 8 | 4 => 8 | 5 => 6 | 6 => 6 | 7 => 4
  | 8 => 8 | 9 => 4 | 10 => 32 | 11 => 8 | _ => 0

/-- Whether a code is a floating-point format. -/
def fmtIsFp (f : Nat) : Bool := decide (f ≤ 7)

/-- A canonical NaN of binary32 (R84). -/
def nan32 : Nat := 0x7FC0_0000

/-- The canonical NaN of a destination (R84). -/
def canonNan : Nat → Nat
  | 0 => 0x7FC0_0000 | 1 => 0x7FC0 | 2 => 0x7E00 | 3 => 0x7F | 4 => 0x7E | 11 => 0xFF | _ => 0

/-- An exact value: NaN, an infinity, or ±m·2^e. -/
inductive FpVal where
  | nan
  | inf (neg : Bool)
  | fin (neg : Bool) (m : Nat) (e : Int)
deriving DecidableEq, Repr

def FpVal.isNan : FpVal → Bool
  | .nan => true
  | _ => false

/-- Decode an encoding under a layout (R83, R84). -/
def FpFmt.decode (f : FpFmt) (bits : Nat) : FpVal :=
  let s := nbits bits (f.ebits + f.mbits) (f.ebits + f.mbits) == 1
  let ex := nbits bits (f.ebits + f.mbits - 1) f.mbits
  let m := bits % 2 ^ f.mbits
  let top := 2 ^ f.ebits - 1
  if f.special == 0 && ex == top then (if m == 0 then .inf s else .nan)
  else if f.special == 1 && ex == top && m == 2 ^ f.mbits - 1 then .nan
  else if ex == 0 then .fin s m (1 - (f.bias : Int) - (f.mbits : Int))
  else .fin s (2 ^ f.mbits + m) ((ex : Int) - (f.bias : Int) - (f.mbits : Int))

/-- Rounding modes (R98): 0 RNE, 1 RTZ, 2 RDN, 3 RUP, 4 STOCH with the generator's low 16 bits. -/
structure Rnd where
  mode : Nat := 0
  r16 : Nat := 0
deriving DecidableEq, Repr

def rne : Rnd := {}

/-- Whether a magnitude lying `rem / 2^d` above `n` rounds up (R98, R101). -/
def roundUp (r : Rnd) (neg : Bool) (n rem d : Nat) : Bool :=
  match r.mode with
  | 1 => false
  | 2 => neg && rem != 0
  | 3 => !neg && rem != 0
  | 4 => decide (65536 ≤ rem * 65536 / 2 ^ d + r.r16)
  | _ => decide (2 ^ d < 2 * rem) || (2 * rem == 2 ^ d && n % 2 == 1)

/-- m·2^e rounded to a multiple of 2^q: the multiple, and whether it is inexact. -/
def roundTo (r : Rnd) (neg : Bool) (m : Nat) (e q : Int) : Nat × Bool :=
  if q ≤ e then (m * 2 ^ (e - q).toNat, false)
  else
    let d := (q - e).toNat
    let n := m / 2 ^ d
    let rem := m % 2 ^ d
    (if roundUp r neg n rem d then n + 1 else n, rem != 0)

/-- The magnitude encoding that ±m·2^e rounds to under a layout as if its exponent range had no upper bound, and whether it is inexact (R94). -/
def FpFmt.roundMag (f : FpFmt) (r : Rnd) (neg : Bool) (m : Nat) (e : Int) : Nat × Bool :=
  if m = 0 then (0, false)
  else
    let qmin : Int := 1 - (f.bias : Int) - (f.mbits : Int)
    let q0 : Int := (Nat.log2 m : Int) + e - (f.mbits : Int)
    let q := if q0 < qmin then qmin else q0
    let (n, inx) := roundTo r neg m e q
    ((q - qmin).toNat * 2 ^ f.mbits + n, inx)

/-- The sign bit of a layout, placed. -/
def FpFmt.sign (f : FpFmt) (neg : Bool) : Nat := if neg then 2 ^ (f.ebits + f.mbits) else 0

/-- The encoding of infinity's magnitude for an IEEE layout. -/
def FpFmt.infMag (f : FpFmt) : Nat := (2 ^ f.ebits - 1) * 2 ^ f.mbits

/-- Whether a magnitude encoding is subnormal or zero. -/
def FpFmt.isSub (f : FpFmt) (mag : Nat) : Bool := decide (mag < 2 ^ f.mbits)

/-- Round an exact value to binary32, to nearest even (R91, R94). -/
def rne32 (neg : Bool) (m : Nat) (e : Int) : Fl Nat :=
  let (mag, inx) := fp32.roundMag rne neg m e
  if fp32.maxMag < mag then (fp32.sign neg + fp32.infMag, flOVF + flINX)
  else (fp32.sign neg + mag, if inx then (if fp32.isSub mag then flUNF + flINX else flINX) else 0)

/-- A binary32 pattern's exact value. -/
def val32 (b : Nat) : FpVal := fp32.decode b

def isNan32 (b : Nat) : Bool := (val32 b).isNan

/-- An exact value back to binary32, rounded once. -/
def enc32 : FpVal → Fl Nat
  | .nan => (nan32, 0)
  | .inf s => (fp32.sign s + fp32.infMag, 0)
  | .fin s m e => if m = 0 then (fp32.sign s, 0) else rne32 s m e

/-- The exact sum of two finite values, each ±m·2^e, with the sign rule of R97 for a zero result. -/
def exactAdd (s1 : Bool) (m1 : Nat) (e1 : Int) (s2 : Bool) (m2 : Nat) (e2 : Int) : FpVal :=
  let e := if e1 ≤ e2 then e1 else e2
  let i1 : Int := (if s1 then -1 else 1) * ((m1 * 2 ^ (e1 - e).toNat : Nat) : Int)
  let i2 : Int := (if s2 then -1 else 1) * ((m2 * 2 ^ (e2 - e).toNat : Nat) : Int)
  let t := i1 + i2
  if t = 0 then .fin (s1 && s2 && m1 == 0 && m2 == 0) 0 0
  else .fin (decide (t < 0)) t.natAbs e

/-- One exact sum under the special cases of R97, before rounding: the value and the flags of the special case. -/
def addVal (a b : FpVal) : Fl FpVal :=
  match a, b with
  | .nan, _ => (.nan, flINV)
  | _, .nan => (.nan, flINV)
  | .inf s, .inf t => if s == t then (.inf s, 0) else (.nan, flINV)
  | .inf s, _ => (.inf s, 0)
  | _, .inf t => (.inf t, 0)
  | .fin s1 m1 e1, .fin s2 m2 e2 => (exactAdd s1 m1 e1 s2 m2 e2, 0)

/-- One exact product under the special cases of R97. -/
def mulVal (a b : FpVal) : Fl FpVal :=
  match a, b with
  | .nan, _ => (.nan, flINV)
  | _, .nan => (.nan, flINV)
  | .inf s, .inf t => (.inf (s != t), 0)
  | .inf s, .fin t m _ => if m = 0 then (.nan, flINV) else (.inf (s != t), 0)
  | .fin s m _, .inf t => if m = 0 then (.nan, flINV) else (.inf (s != t), 0)
  | .fin s m1 e1, .fin t m2 e2 => (.fin (s != t) (m1 * m2) (e1 + e2), 0)

/-- Round a special-case result to binary32, joining the flags. -/
def finish32 (x : Fl FpVal) : Fl Nat :=
  let (b, f) := enc32 x.1
  (b, x.2 ||| f)

/-- rne32_add (R92, R95, R97). -/
def add32 (a b : Nat) : Fl Nat := finish32 (addVal (val32 a) (val32 b))
/-- The sign of a value flipped. -/
def FpVal.neg : FpVal → FpVal
  | .nan => .nan
  | .inf s => .inf (!s)
  | .fin s m e => .fin (!s) m e
/-- One binary32 subtraction, rounded to nearest even. -/
def sub32 (a b : Nat) : Fl Nat := finish32 (addVal (val32 a) (val32 b).neg)
/-- One binary32 product, rounded to nearest even (R97). -/
def mul32 (a b : Nat) : Fl Nat := finish32 (mulVal (val32 a) (val32 b))
/-- The exact product plus the addend, rounded once (R97's outcomes for the product, then for the sum). -/
def fma32 (a b c : Nat) : Fl Nat :=
  match mulVal (val32 a) (val32 b), val32 c with
  | (.nan, f), _ => (nan32, f)
  | (p, f), cv =>
    let (v, g) := addVal p cv
    let (r, h) := enc32 v
    (r, f ||| g ||| h)

/-! ### Elements (R85, R86) -/

/-- Element `i` of a packed little-endian sequence of elements of `w` bits. -/
def packedAt (w : Nat) (n i : Nat) : Nat := nbits n (w * i + w - 1) (w * i)

/-- Element `i` of a tensor held in a byte list, for any format width (R85: a byte string read little-endian packs 4, 6, 8, 16 and 32-bit elements alike). -/
def elemOfBytes (w : Nat) (bs : List Byte) (i : Nat) : Nat :=
  let lo := w * i / 8
  let hi := (w * i + w - 1) / 8
  nbits (ofBytes ((bs.drop lo).take (hi + 1 - lo))) (w * i - 8 * lo + w - 1) (w * i - 8 * lo)

/-- The exact value of an element of a code; signed says how integers read (R86); INT8 under the MX flag denotes its integer times 2^−6 (R89); E8M0 (R87). -/
def elemVal (code : Nat) (signed mx : Bool) (bits : Nat) : FpVal :=
  match fpFmt code with
  | some f => f.decode bits
  | none =>
    if code = 11 then (if bits % 256 = 255 then .nan else .fin false 1 ((bits % 256 : Nat) - 127))
    else
      let w := fmtBits code
      let i : Int := if signed || code == 10 then sext w bits else ((bits % 2 ^ w : Nat) : Int)
      .fin (decide (i < 0)) i.natAbs (if mx && code == 8 then -6 else 0)

/-- An integer element's value (R86, R93). -/
def elemInt (code : Nat) (signed : Bool) (bits : Nat) : Int :=
  let w := fmtBits code
  if signed || code == 10 then sext w bits else ((bits % 2 ^ w : Nat) : Int)

/-- Conversion into binary32, exact but for the NaN rule (R99). -/
def toFp32 (v : FpVal) : Fl Nat :=
  match v with
  | .nan => (nan32, flINV)
  | _ => ((enc32 v).1, 0)

/-! ### Conversions from an exact value (R99) -/

/-- A conversion's result: the bits, the flags, and whether it is a NaN origin (an E4M3 result of 0x7F from a finite or infinite source, R99). -/
structure Conv where
  bits : Nat
  flags : Nat
  origin : Bool := false
deriving DecidableEq, Repr

/-- To a floating-point layout (R99). R99's table has no row for an FP32 destination, which a DRAIN may name: the model takes the row of BF16, FP16 and E5M2 for it, so that SAT = 1
turns ±Inf into max with OVF (log 36, DESIGN CHOICE). -/
def convFp (code : Nat) (f : FpFmt) (r : Rnd) (sat : Bool) (v : FpVal) : Conv :=
  match v with
  | .nan => { bits := canonNan code, flags := flINV }
  | .inf s =>
    if f.special == 2 then { bits := f.sign s + f.maxMag, flags := flOVF }
    else if sat then { bits := f.sign s + f.maxMag, flags := flOVF }
    else if f.special == 1 then { bits := 0x7F, flags := flOVF, origin := true }
    else { bits := f.sign s + f.infMag, flags := 0 }
  | .fin s m e =>
    let (mag, inx) := f.roundMag r s m e
    if f.maxMag < mag then
      if f.special == 2 || sat then { bits := f.sign s + f.maxMag, flags := flOVF + flINX }
      else if f.special == 1 then { bits := 0x7F, flags := flOVF + flINX, origin := true }
      else { bits := f.sign s + f.infMag, flags := flOVF + flINX }
    else { bits := f.sign s + mag, flags := if inx then (if f.isSub mag then flUNF + flINX else flINX) else 0 }

/-- The bounds of an integer format (R86). -/
def intBounds (code : Nat) (signed : Bool) : Int × Int :=
  let w := fmtBits code
  if signed || code == 10 then (-((2 ^ (w - 1) : Nat) : Int), ((2 ^ (w - 1) : Nat) : Int) - 1) else (0, ((2 ^ w : Nat) : Int) - 1)

/-- An integer's bits in a format of `w` bits, two's complement. -/
def intBits (w : Nat) (i : Int) : Nat := (i % ((2 ^ w : Nat) : Int)).toNat

/-- To an integer format (R99). -/
def convInt (code : Nat) (signed : Bool) (r : Rnd) (v : FpVal) : Conv :=
  let w := fmtBits code
  let (lo, hi) := intBounds code signed
  match v with
  | .nan => { bits := 0, flags := flINV }
  | .inf s => { bits := intBits w (if s then lo else hi), flags := flIOV }
  | .fin s m e =>
    let (n, inx) := roundTo r s m e 0
    let i : Int := if s then -(n : Int) else (n : Int)
    if i < lo then { bits := intBits w lo, flags := flIOV }
    else if hi < i then { bits := intBits w hi, flags := flIOV }
    else { bits := intBits w i, flags := if inx then flINX else 0 }

/-- To E8M0 (R99). -/
def convE8m0 (v : FpVal) : Conv :=
  match v with
  | .nan => { bits := 0xFF, flags := flINV }
  | .inf _ => { bits := 0xFF, flags := 0 }
  | .fin _ m e =>
    if m = 0 then { bits := 0, flags := flUNF + flINX }
    else
      let l : Int := (Nat.log2 m : Int) + e
      if l < -127 then { bits := 0, flags := flUNF + flINX }
      else { bits := (l + 127).toNat, flags := if m = 2 ^ Nat.log2 m then 0 else flINX }

/-- Conversion of an exact value to any destination code (R99); FP6, FP4 NaN gives +0 (canonNan). -/
def convert (code : Nat) (signed : Bool) (r : Rnd) (sat : Bool) (v : FpVal) : Conv :=
  match fpFmt code with
  | some f => convFp code f r sat v
  | none => if code = 11 then convE8m0 v else convInt code signed r v

/-- sr_step (R101). -/
def srStep (st : Nat) : Nat := if st % 2 = 1 then (st / 2) ^^^ 0x8020_0003 else st / 2

/-- emax (R100). -/
def mxEmax : Nat → Int
  | 3 => 8 | 4 => 15 | 5 => 4 | 6 => 2 | 7 => 2 | _ => 0

/-- |v| as an exact value's floor(log2), for a finite non-zero value. -/
def FpVal.log2 : FpVal → Int
  | .fin _ m e => (Nat.log2 m : Int) + e
  | _ => 0

/-- Whether one finite magnitude is above another. -/
def magLt (a b : FpVal) : Bool :=
  match a, b with
  | .fin _ m1 e1, .fin _ m2 e2 =>
    let e := if e1 ≤ e2 then e1 else e2
    decide (m1 * 2 ^ (e1 - e).toNat < m2 * 2 ^ (e2 - e).toNat)
  | _, _ => false

/-- mx_quantise (R100), the generator's low halves per element given in `rs` (unused unless STOCH). Answers the scale, the elements and the flags. -/
def mxQuantise (vs : List FpVal) (code : Nat) (mode : Nat) (rs : List Nat) : Nat × List Nat × Nat :=
  if vs.any FpVal.isNan then (0xFF, vs.map (fun _ => 0), flINV)
  else if vs.any (fun v => match v with | .inf _ => true | _ => false) then (0xFF, vs.map (fun _ => 0), flOVF)
  else
    let amax := vs.foldl (fun a v => if magLt a v then v else a) (.fin false 0 0)
    match amax with
    | .fin _ 0 _ => (127, vs.map (fun v => match v with
        | .fin s _ _ => (match fpFmt code with | some f => f.sign s | none => 0)
        | _ => 0), 0)
    | _ =>
      let e0 := amax.log2 - mxEmax code
      let e := if e0 < -127 then -127 else if 127 < e0 then 127 else e0
      let qs := (vs.zip rs).map (fun (v, r) =>
        match v with
        | .fin s m ex =>
          let x : FpVal := .fin s m (ex - e + (if code = 8 then 6 else 0))
          let c := convert code true { mode := mode, r16 := r } true x
          -- an MXINT8 element that rounds past max raises OVF and INX (R100)
          if code = 8 && c.flags == flIOV then { c with flags := flOVF + flINX } else c
        | _ => { bits := 0, flags := 0 })
      ((e + 127).toNat, qs.map Conv.bits, qs.foldl (fun f c => f ||| c.flags) 0)

end Sys2Proof.Machine
end

