-- ==== Sys2Proof/Machine/HostTypes.lean ====
section
/-! DEFINITION. The typed state of discovery and routing (spec/10) and of the host port (spec/11): plain data. -/

namespace Sys2Proof.Machine

/-- Fabric states (R302). -/
inductive FabState where
  | noCoord | discovering | joinWait | complete | degraded
deriving DecidableEq, Repr

def FabState.code : FabState → Nat
  | .noCoord => 0 | .discovering => 1 | .joinWait => 2 | .complete => 3 | .degraded => 4

/-- Outcomes of a link's discovery (R301). -/
inductive LinkOutcome where
  | unplanned | waiting | matched | miswired | unexpected | missing
deriving DecidableEq, Repr

/-- Route of a destination member (R303, R305). -/
inductive RouteState where
  | none | direct | relay | probing | unreachable
deriving DecidableEq, Repr

/-- The route to one destination: relays in list order, and the probes of a probing in candidate order with their answers (R305). -/
structure Route where
  st : RouteState := .none
  relays : List Nat := []
  probes : List (Nat × Option Nat) := []
  held : List (ReqSrc × Nat × LinkMsg) := []
deriving DecidableEq, Repr

/-- The fabric of one partition (R295–R310). The registers hold the plans, the staged level-2 entries and the counters. -/
structure Fabric where
  st : FabState := .noCoord
  outcomes : Table LinkOutcome := []
  routes : Table Route := []
  /-- Committed level-2 plan entries by link and route entries by destination (R310). -/
  plan2 : Table Word64 := []
  route2 : Table Word64 := []
  missing : Nat := 0
deriving DecidableEq, Repr

/-- An event record (R368), less its INDEX and TIME, which are given when it is written. -/
structure Event where
  code : Nat
  /-- 0–5; 6 stands for a package event, which is copied into every partition's log with PACKAGE set (R369). -/
  part : Nat
  isRepeat : Bool := false
  job : Nat := 0
  kind : Nat := 0
  index : Nat := 0
  arg0 : Nat := 0
  arg1 : Nat := 0
  arg2 : Nat := 0
deriving DecidableEq, Repr

/-- A written record: its log index, TIME and the event (R368). -/
structure LogRec where
  index : Nat
  time : BitVec 32
  ev : Event
  package : Bool := false
deriving DecidableEq, Repr

/-- An EVENT message (R316, R323): its SEQ, INDEX, GAP and records. -/
structure EventMsg where
  seq : Nat
  index : Nat
  gap : Nat
  recs : List LogRec
deriving DecidableEq, Repr

/-- A Huaza session (R317–R323). -/
structure Session where
  id : Nat
  src : BitVec 128
  version : Nat := 0x100
  features : Nat := 0
  /-- The values derived when the session opened, of the host's direction and of the Gyward's: management key and salt, bulk key and salt (R319). They live in the security engine: no register shows them. -/
  rxKey : BitVec 256 := 0
  rxSalt : BitVec 32 := 0
  rxBulk : BitVec 256 := 0
  rxBulkSalt : BitVec 32 := 0
  txKey : BitVec 256 := 0
  txSalt : BitVec 32 := 0
  txBulk : BitVec 256 := 0
  txBulkSalt : BitVec 32 := 0
  /-- Kept responses of the last 128 requests: SEQ, TYPE, status and body (R317). -/
  kept : List (Word64 × Nat × Nat × List Byte) := []
  /-- SEQs of requests in execution, with how many copies arrived (R317). -/
  inExec : List (Word64 × Nat) := []
  levels : Nat := 0
  nextIdx : Nat := 0
  eventSeq : Nat := 0
  /-- The EVENT that awaits the host's response, and the selected records overwritten since the last one (R323). -/
  outEvent : Option EventMsg := none
  gap : Nat := 0
  tagFails1s : Nat := 0
  /-- The counter of the last unit sealed for a READ response (R330). -/
  sealCtr : Nat := 0
deriving DecidableEq, Repr

/-- A journal entry (R321). -/
structure JEntry where
  addr : Nat
  value : Word64
  time : BitVec 32
  slot : Nat
  type : Nat
deriving DecidableEq, Repr

/-- A memory region (R326). -/
structure MemRegion where
  rkey : BitVec 32
  base : Nat
  length : Nat
  rights : Nat
  sealedMr : Bool
  session : Nat
deriving DecidableEq, Repr

/-- States of a queue pair (R327). -/
inductive QpState where
  | reset | rts | error
deriving DecidableEq, Repr

def QpState.code : QpState → Nat
  | .reset => 0 | .rts => 1 | .error => 2

/-- A queue pair (R327). `lastCtr` is the counter of the last sealed unit accepted (R330). -/
structure Qp where
  st : QpState := .reset
  dest : Nat := 0
  psn : Nat := 0
  mtu : Nat := 5
  maxRd : Nat := 1
  gid : BitVec 128 := 0
  session : Nat := 0
  lastCtr : Option Nat := none
  /-- The WRITE in progress: its RKEY, the address of its next byte, the bytes still to come, and the bytes of a sealed unit that is not complete. -/
  rkey : BitVec 32 := 0
  va : Nat := 0
  left : Nat := 0
  part : List Byte := []
  /-- A CNP has been sent (R325). -/
  cnp : Bool := false
deriving DecidableEq, Repr

/-- The SPDM errors that the spec names (R319, R395, R400), and that of a handshake that fails. -/
inductive SpdmError where
  | busy | unspecified | unsupportedRequest | handshakeFailed
deriving DecidableEq, Repr

/-- What the endpoint sends (Huaza response, EVENT, SPDM, RoCEv2 response and CNP, neighbour discovery, priority flow control). A Huaza message carries the version in use and, where it is
sealed, the nonce under which it is (R315, R320). -/
inductive HostOut where
  | response (type : Nat) (seq : Word64) (session : Nat) (status : Nat) (body : List Byte) (version : Nat) (nonce : Option (BitVec 96))
  | event (session : Nat) (m : EventMsg) (version : Nat) (nonce : BitVec 96)
  | spdm (seq : Word64) (session : Nat) (err : Option SpdmError) (body : List Byte) (version : Nat)
  | ack (qpn psn : Nat)
  | nak (qpn psn : Nat) (code : Nat)
  | readData (qpn psn : Nat) (bytes : List Byte)
  | cnp (qpn : Nat)
  | neighbour (tentative : Bool) (addr : BitVec 128)
  | echo (addr : BitVec 128)
  | pfc (paused : Byte)
deriving DecidableEq, Repr

/-- A source of host traffic that is counted or blocked (R332). -/
structure Source where
  addr : BitVec 128
  version : Option Nat := none
  features : Nat := 0
  huaza1s : Nat := 0
  spdm60s : Nat := 0
  roce1s : Nat := 0
  roceBad1s : Nat := 0
  /-- A KEY_EXCHANGE has been answered and its FINISH is awaited (R319). -/
  handshake : Bool := false
  blocked : Bool := false
deriving DecidableEq, Repr

/-- The state of an endpoint's address (R313, HOST.EP_STATUS.ADDR). -/
inductive AddrState where
  | none | tentative | preferred | duplicate
deriving DecidableEq, Repr

/-- The endpoint of one partition (R312–R334). -/
structure Endpoint where
  /-- The states of its address and of its link-local address. -/
  addr : AddrState := .none
  linkLocal : AddrState := .none
  sessions : Table (Option Session) := []
  nextSession : Nat := 1
  mrs : Table (Option MemRegion) := []
  qps : Table Qp := []
  journal : List (Nat × JEntry) := []
  sources : List Source := []
  violEvent : Bool := false
  /-- The top nibbles of the codes of the log records that have been overwritten, oldest first, record 0's in front (R323). -/
  overwritten : List Nat := []
  /-- The endpoint's share of the receive buffer is full, and it has asserted priority flow control (R312). -/
  full : Bool := false
  /-- Messages that wait because the far end has paused their priority, oldest first (R312). -/
  queued : List HostOut := []
  /-- Messages that have left, newest first: what an outside party sees of the endpoint. -/
  out : List HostOut := []
deriving DecidableEq, Repr

/-- The port that the endpoints share (R312): the priorities that the far end has paused, and the partitions whose frames have left, newest first. -/
structure Port where
  paused : Byte := 0
  order : List Nat := []
deriving DecidableEq, Repr

end Sys2Proof.Machine
end

