-- ==== Sys2Proof/Machine/PkgTypes.lean ====
section
/-! DEFINITION. The typed state of power and clocks (spec/12), of faults and recovery (spec/13), of keys and dressing (spec/14) and of start-up
(spec/15): plain data. -/

namespace Sys2Proof.Machine

/-- Where an operating-point change stands (R349). -/
inductive OpStep where
  | none | slewAndLock (slewed locked : Bool) | lock | move (rising : Bool) | slewDown
deriving DecidableEq, Repr

/-- Power, clock and thermal state of a region (R347–R363); the region power unit's registers hold the rest. Elapsed times are counted in the region's own
samples of 10 µs and windows of 1 µs (log 30). -/
structure RegionPower where
  op : Nat := 0
  target : Nat := 0
  chosen : Nat := 0
  thermal : Nat := 0
  step : OpStep := .none
  /-- Which operating point a change in progress goes to. -/
  toOp : Nat := 0
  /-- Samples of 10 µs before the next change, and before the next raise, may start (R349, R360). -/
  pause : Nat := 0
  noRaise : Nat := 0
  /-- M, C, F and A of R352, R353 and R357. -/
  m : Nat := 255
  ceiling : Nat := 0
  floor : Nat := 0
  prevA : Nat := 0
  /-- Engine points of the window and of its slot in progress, and whether cycles are withheld until the slot ends (R352, R353). -/
  points : Nat := 0
  slotPoints : Nat := 0
  withheld : Bool := false
  /-- The allocation, and whether the fantail has given one since power came (R357). -/
  alloc : Nat := 0
  granted : Bool := false
  tag : Option Nat := none
  tagJob : Nat := 0
  /-- The samples of the occurrence in progress (R356): how many, the sum of their powers, how many count toward the demand, and the sum of their demands. -/
  occN : Nat := 0
  occP : Nat := 0
  occDn : Nat := 0
  occD : Nat := 0
  resting : Bool := false
  droop : Bool := false
  /-- Windows of 1 µs until 4 µs have passed since droop was last active (R360). -/
  recentDroop : Nat := 0
  /-- Detections since the last DROOP_EVENT, and samples of 10 µs until the next may be raised (R359). -/
  droopSince : Nat := 0
  droopHold : Nat := 0
  clockLost : Bool := false
deriving DecidableEq, Repr

/-- A fantail entry (R356). -/
structure FanEntry where
  valid : Bool := false
  count : Nat := 0
  job : Nat := 0
  demand : Nat := 0
  power : Nat := 0
  duration : Nat := 0
deriving DecidableEq, Repr

/-- The module's rails, loops, telemetry and clock sources (R335–R348). -/
structure Power where
  inputOk : Bool := true
  /-- Rails that are off, and rails in fault (R338). -/
  railsOff : List Nat := []
  railFault : List Nat := []
  /-- PWR.CORRECTION, and the samples in a row whose 100 µs average stayed below Ceff (R342). -/
  corr : Nat := 0
  below : Nat := 0
  /-- Samples of the millisecond in progress, samples until the next CAP_EXCEEDED may be raised, and whether one was kept back (R342). -/
  msSamples : Nat := 0
  capHold : Nat := 0
  capKept : Bool := false
  boardLimit : Nat := 0
  /-- The telemetry record that readers see, the one of secure mode, the last 100 records, and how many were written (R344, R345). -/
  telemetry : List Byte := List.replicate 64 0
  secTelem : List Byte := List.replicate 64 0
  history : List (List Byte) := []
  telemSeq : Nat := 0
  /-- Stacks throttled under R363. -/
  hotStacks : List Nat := []
  extRef : Bool := true
  oscFitted : Bool := true
  source : Nat := 1
  holdover : Bool := false
deriving DecidableEq, Repr

/-- TOLL.STATUS.STATE and POND states: what a unit is doing (R380, R384). -/
inductive TollState where
  | idle | hashing | exchanging
deriving DecidableEq, Repr

/-- The toll unit of a partition (R379–R381). -/
structure Toll where
  st : TollState := .idle
  tag : Word64 := 0
  ranges : List (Nat × Nat) := []
  digest : BitVec 384 := 0
  poisoned : Bool := false
  acksAwaited : Nat := 0
deriving DecidableEq, Repr

/-- What the pond unit of a partition is doing (R382–R386). -/
inductive PondState where
  | idle | copying | returning | accepting
deriving DecidableEq, Repr

/-- The pond unit of a partition: owner side and holder side (R382–R386). -/
structure Pond where
  st : PondState := .idle
  step : Word64 := 0
  correlated : Bool := false
  /-- Data WRITEs of a copy or return not yet acknowledged, by TXID. -/
  awaiting : List Nat := []
  headerSent : Bool := false
  failed : Option Nat := none
  bytes : Nat := 0
  /-- Holder side: which slot is current, whether it is valid and COMPLETE, and the generation header's tag and GEN. -/
  cur : Nat := 0
  curValid : Bool := false
  curGen : Nat := 0
  /-- The generation being returned. -/
  retGen : Nat := 0
  draining : Bool := false
  accepting : Bool := false
deriving DecidableEq, Repr

/-- What the always-on domain keeps for a partition: its far-tier dump keys, and the summary (R387, R388, R421). -/
structure Dump where
  farKeys : Bool := false
  /-- The copies of K1 and K2 (R388, R396). -/
  k1 : BitVec 256 := 0
  k2 : BitVec 256 := 0
  /-- The far tier's session whose keys are kept (R388). -/
  farEpoch : Nat := 0
  /-- Far-tier byte at which that dump lies. -/
  farBase : Nat := 0
  /-- The dump of the failure in progress: written, its bytes, and whether part of it is lacking. -/
  written : Bool := false
  bytes : Nat := 0
  lacking : Bool := false
  summary : List Byte := []
deriving DecidableEq, Repr

/-- One partition (R371, R390, R406–R412). -/
structure Part where
  st : PState := .ready
  /-- The step of start-up in progress, 4–9 (R423). -/
  step : Nat := 9
  cause : Nat := 0
  toll : Toll := {}
  pond : Pond := {}
  dump : Dump := {}
  /-- The step of dressing in progress, 1–5; 0 when not dressing (R407). -/
  dress : Nat := 0
  keys : Bool := true
  /-- The memory keys of the session: K1 and K2 for XTS, Kt for the integrity tag (R242, R396); zero once destroyed (R397). -/
  k1 : BitVec 256 := 0
  k2 : BitVec 256 := 0
  kt : BitVec 256 := 0
  /-- How many partition sessions have begun: the far tier's bytes are readable in the session that wrote them (R249, R397). -/
  epoch : Nat := 0
  testArmed : Bool := false
deriving DecidableEq, Repr

/-- A byte of the far tier with the partition session that wrote it (R249). -/
structure FarByte where
  value : Byte
  epoch : Nat
deriving DecidableEq, Repr

end Sys2Proof.Machine
end

