-- ==== Sys2Proof/Machine/State.lean ====
section
/-! DEFINITION. The state of the block: every piece of state the spec gives the package, as plain data, and the state on leaving start-up for READY (R8). -/

namespace Sys2Proof.Machine

/-- No command ends in a fault: what the spec calls an address fault, a halt or an error status is a next state. The one reason exists for
a term that is no command at all. -/
inductive Fault where
  /-- No meaning raises it. Safe: it stops nothing. -/
  | unused
deriving DecidableEq, Repr

/-- Why a command has no next state. -/
inductive Refusal where
  /-- Raised by exec's arms for a command whose meaning is not written yet. Safe: nothing can be proved about it. -/
  | notModelled (mnemonic : String)
deriving DecidableEq, Repr

/-- What the board controller's I3C target holds (R426–R429). -/
structure Board where
  dynAddr : Option (BitVec 7) := none
  /-- The one response held: status byte and payload (R427). -/
  response : Option (Nat × List Byte) := none
  alert : BitVec 16 := 0
deriving DecidableEq, Repr

/-- The module: start-up, flash, fuses, identity and the security engine (R1, R395–R402, R413–R425). -/
structure Module where
  /-- SEC.VARIANT: false for WS-FG12-1536M, true for WS-FG12-1536G (R1). -/
  guestSite : Bool := false
  serial : Word64 := 0
  identity : Word64 := 0
  /-- The base MAC address of the identity data (R312). -/
  mac : BitVec 48 := 0
  powered : Bool := true
  /-- MOD_RESET_N is low or the input fault state holds: every rail but the always-on rail is off (R337, R421). -/
  held : Bool := false
  /-- Start-up is under way (R422); with `held` and without it, the module waits for MOD_RESET_N or for its input (R337, R424). -/
  starting : Bool := false
  /-- The step of start-up that the module takes as a whole, 0–3; 4 once the partitions advance on their own (R423). -/
  step : Nat := 4
  /-- The code of the event that was fatal to the package; 0: none (R372). -/
  fatal : Nat := 0
  /-- The held coordinate triple (R295, R425). -/
  coord : Option (Nat × Nat × Nat) := none
  fusedSvn : Nat := 0
  imageSvn : Nat := 0
  seeded : Bool := true
  trngFault : Bool := false
  trngFails : Nat := 0
  lastCause : Nat := 0
  /-- The retirement record: region, physical block, cause and start count of each entry (R378). -/
  retired : List (Nat × Nat × Nat × Nat) := []
  /-- Out-of-service physical block of each region, an unlisted region's being 12 (R19). -/
  spare : Table Nat := []
  /-- Suspect active blocks, with XCHK.CFG.RETIRE as it stood (R377, R378). -/
  suspects : List (Nat × Bool) := []
  /-- Progress of the cross-check engine of each region: the next pair and cell position (R376). -/
  xchk : Table (Nat × Nat) := []
  hostUp : Bool := false
deriving DecidableEq, Repr

/-- Which external access is held on a busy set (R113): a core's load or store by its op sequence number, the next word of a hopper fetch, a descriptor by its op sequence
number, or a command that names its access itself (a link message or a host request). -/
inductive HeldBy where
  | core (c : Nat) (seq : Word64)
  | fetch (c : Nat)
  | desc (b ch : Nat) (seq : Word64)
  | cmd (i : Instr)
deriving DecidableEq, Repr

/-- An external access that is held on a busy set of a cell (R35, R113). -/
structure Held where
  who : HeldBy
  cell : Nat
  set : Nat
deriving DecidableEq, Repr

/-- The state of the block. -/
structure State where
  /-- Commands that wait, first in, first out (the model's own field). -/
  pending : List Instr := []
  /-- Registers of space 5 that have storage of their own, keyed by space 5 offset, the hurst's per-partition copies banked (Codes.bank). -/
  regs : Table Word64 := []
  cells : Table Cell := []
  /-- External accesses held on busy sets, oldest first (R113). -/
  held : List Held := []
  /-- Sync counters (R189): PSC by hurst number 0–4095; GSC and BSC by space 4 offset / 8. -/
  counters : Table Counter := []
  /-- Shutter lines, line n of partition p at 32p + n (R211). -/
  lines : Table ShutLine := []
  /-- Signals on their way to a counter (R194). -/
  signals : List Signal := []
  /-- Sluice channels, channel ch of block b at 16b + ch (R155). -/
  chans : Table Channel := []
  sluices : Table Sluice := []
  /-- Spaces 0, 2 and 3: partition p's offset a at p·2^44 + a, space 2 at 6·2^44, space 3 at 7·2^44; an unlisted byte reads 0 (R407 step 3, R422). -/
  mem : List Host.Cell := []
  /-- Poisoned 32-byte pieces (R231–R233), by memory key / 32. -/
  poison : Table Bool := []
  /-- Units of the stacks whose content has changed since their tag was formed, by memory key / 256, with the tag that the carve-out holds (R229, R243). -/
  stale : Table (Option Word64) := []
  /-- The far tier by far-tier byte (R248); none: nothing of this machine wrote it. -/
  far : Table (Option FarByte) := []
  farPoison : Table Bool := []
  /-- Retrains of each far-tier port since start-up (R251). -/
  farTries : Table Nat := []
  /-- Corrections of each stack in its current window of R230. -/
  ceWin : Table Nat := []
  links : Table Link := []
  leats : Table Leat := []
  weir : Weir := {}
  /-- Requests that await a response (R257). -/
  reqs : List Req := []
  nextTxid : Nat := 0
  /-- TXID and partner of requests that ended without a response (R257, R289). -/
  ended : List (Nat × Nat) := []
  /-- Messages on their way over the leat to a router of this package: of this package (R297), and of the guest site (R269). -/
  selfMsgs : List Transit := []
  fabrics : Table Fabric := []
  endpoints : Table Endpoint := []
  port : Port := {}
  regions : Table RegionPower := []
  /-- Fantail entries, tag t of region r at 64r + t (R356). -/
  fan : Table FanEntry := []
  power : Power := {}
  parts : Table Part := []
  lostRegions : List Nat := []
  /-- Events raised and not yet written (R368), oldest first. -/
  raised : List Event := []
  /-- The event log of each partition, newest 4,096 records, oldest first (R323, R368). -/
  logs : Table (List LogRec) := []
  /-- The configuration body in use, by byte offset (R418); an unlisted byte is the reference image's. -/
  cfg : Table Byte := []
  board : Board := {}
  module : Module := {}
  /-- The next free value to draw (the model's own field, log 2). -/
  freeCtr : Nat := 0
deriving DecidableEq, Repr

/-- The machine on leaving start-up for READY under the reference image (R8, R418, R422, R423): every table lists nothing, every field is at the value its
table's Reset column gives, and the queue is empty. -/
def State.reset : State := {}

end Sys2Proof.Machine
end

