-- ==== Sys2Proof/Machine/Regs.lean ====
section
/-! DEFINITION. The registers of space 5 as the chapters' tables list them: where each lies, which of its bits software writes (RW), clears by writing 1 (W1C) or
clears by reading (RC), and its reset value (R5, R7, R8). An image field has 0 here and is filled in from the configuration when read (R418). -/

namespace Sys2Proof.Machine

/-- One register of the tables, or a row of registers at a stride. -/
structure RegRow where
  off : Nat
  stride : Nat
  count : Nat
  rw : Nat
  w1c : Nat
  rc : Nat
  reset : Nat
deriving DecidableEq, Repr

/-- Registers of a cell window (R31; spec/02, 03, 04, 05, 07), part 1. -/
def cellRows0 : List RegRow := [
  /- CELL.CTRL -/ ⟨0x0, 0x8, 1, 0x4, 0x0, 0x0, 0x0⟩,
  /- CELL.STATUS -/ ⟨0x8, 0x8, 1, 0x0, 0x20000, 0x0, 0x0⟩,
  /- CELL.JOB -/ ⟨0x10, 0x8, 1, 0xffff, 0x0, 0x0, 0x0⟩,
  /- CELL.HALT -/ ⟨0x18, 0x8, 1, 0x0, 0x0, 0x0, 0x0⟩,
  /- CELL.FAULT_SEQ -/ ⟨0x20, 0x8, 1, 0x0, 0x0, 0x0, 0x0⟩,
  /- CELL.FAULT_WORD_LO -/ ⟨0x28, 0x8, 1, 0x0, 0x0, 0x0, 0x0⟩,
  /- CELL.FAULT_WORD_HI -/ ⟨0x30, 0x8, 1, 0x0, 0x0, 0x0, 0x0⟩,
  /- CELL.FAULT_ADDR -/ ⟨0x38, 0x8, 1, 0x0, 0x0, 0x0, 0x0⟩,
  /- CELL.LAUNCH_ADDR -/ ⟨0x40, 0x8, 1, 0x1fffffffffffff0, 0x0, 0x0, 0x0⟩,
  /- CELL.LAUNCH_CFG -/ ⟨0x48, 0x8, 1, 0x3fff, 0x0, 0x0, 0x0⟩,
  /- CELL.LAUNCH_CTR -/ ⟨0x50, 0x8, 1, 0x80000000003ffff8, 0x0, 0x0, 0x0⟩,
  /- CELL.LAUNCH_EXPECT -/ ⟨0x58, 0x8, 1, 0xffffffffffffffff, 0x0, 0x0, 0x0⟩,
  /- CELL.LAUNCH_STRIDE -/ ⟨0x60, 0x8, 1, 0xffffffffffffffff, 0x0, 0x0, 0x0⟩,
  /- CELL.PC -/ ⟨0x80, 0x8, 1, 0x0, 0x0, 0x0, 0x0⟩,
  /- CELL.PHASE -/ ⟨0x88, 0x8, 1, 0x0, 0x0, 0x0, 0x0⟩,
  /- CELL.Q_LEVEL -/ ⟨0x90, 0x8, 1, 0x0, 0x0, 0x0, 0x0⟩,
  /- CELL.Q_HWM -/ ⟨0x98, 0x8, 1, 0x0, 0x0, 0xffffffffffffffff, 0x0⟩,
  /- CELL.DISPATCH_STALL -/ ⟨0xa0, 0x8, 1, 0x0, 0x0, 0xffffffffffffffff, 0x0⟩,
  /- CELL.FENCE_WAIT -/ ⟨0xa8, 0x8, 1, 0x0, 0x0, 0xffffffffffffffff, 0x0⟩,
  /- CELL.OPSEQ -/ ⟨0xb0, 0x8, 1, 0x0, 0x0, 0x0, 0x0⟩,
  /- CELL.HOPPER_INDEX -/ ⟨0x200, 0x8, 1, 0xfff, 0x0, 0x0, 0x0⟩,
  /- CELL.HOPPER_DATA_LO -/ ⟨0x208, 0x8, 1, 0xffffffffffffffff, 0x0, 0x0, 0x0⟩,
  /- CELL.HOPPER_DATA_HI -/ ⟨0x210, 0x8, 1, 0xffffffffffffffff, 0x0, 0x0, 0x0⟩,
  /- CELL.SREGn -/ ⟨0x100, 0x8, 32, 0xffffffffffffffff, 0x0, 0x0, 0x0⟩,
  /- CELL.AFLAGS -/ ⟨0x400, 0x8, 1, 0x0, 0x3f3f3f, 0x0, 0x0⟩]

/-- Registers of a cell window (R31; spec/02, 03, 04, 05, 07), part 2. -/
def cellRows1 : List RegRow := [
  /- CELL.NAN_CFG -/ ⟨0x408, 0x8, 1, 0x3, 0x0, 0x0, 0x2⟩,
  /- CELL.NAN_REC_SEQ -/ ⟨0x410, 0x8, 1, 0x0, 0x0, 0x0, 0x0⟩,
  /- CELL.NAN_REC_LOC -/ ⟨0x418, 0x8, 1, 0x0, 0x8000000000000000, 0x0, 0x0⟩,
  /- CELL.NAN_REC_K -/ ⟨0x420, 0x8, 1, 0x0, 0x0, 0x0, 0x0⟩,
  /- CELL.NAN_REC_OPS -/ ⟨0x428, 0x8, 1, 0x0, 0x0, 0x0, 0x0⟩,
  /- CELL.NAN_REC_SCALES -/ ⟨0x430, 0x8, 1, 0x0, 0x0, 0x0, 0x0⟩,
  /- ARR.STATUS -/ ⟨0x800, 0x8, 1, 0x0, 0x8, 0x0, 0x0⟩,
  /- ARR.ERR -/ ⟨0x808, 0x8, 1, 0x0, 0x0, 0x0, 0x0⟩,
  /- ARR.SLICES -/ ⟨0x810, 0x8, 1, 0x0, 0x0, 0xffffffffffffffff, 0x0⟩,
  /- ARR.FEED_STALL -/ ⟨0x818, 0x8, 1, 0x0, 0x0, 0xffffffffffffffff, 0x0⟩,
  /- ARR.SET_WAIT -/ ⟨0x820, 0x8, 1, 0x0, 0x0, 0xffffffffffffffff, 0x0⟩,
  /- TAIL.SR_SEED -/ ⟨0x840, 0x8, 1, 0xffffffff, 0x0, 0x0, 0x0⟩,
  /- TAIL.SR_STATE -/ ⟨0x848, 0x8, 1, 0x0, 0x0, 0x0, 0x1⟩,
  /- MR.NEXT -/ ⟨0x880, 0x8, 1, 0xc001ffff000003ff, 0x0, 0x0, 0x0⟩,
  /- MR.PREV -/ ⟨0x888, 0x8, 1, 0xc001ffff000003ff, 0x0, 0x0, 0x0⟩,
  /- MR.TIMEOUT -/ ⟨0x890, 0x8, 1, 0xfffff, 0x0, 0x0, 0x3e8⟩,
  /- MR.STATUS -/ ⟨0x898, 0x8, 1, 0x0, 0x0, 0xffff, 0x0⟩,
  /- MR.TX_TILES -/ ⟨0x8a0, 0x8, 1, 0x0, 0x0, 0xffffffffffffffff, 0x0⟩,
  /- MR.RX_TILES -/ ⟨0x8a8, 0x8, 1, 0x0, 0x0, 0xffffffffffffffff, 0x0⟩,
  /- ARR.TDn word w -/ ⟨0x900, 0x8, 64, 0x0, 0x0, 0x0, 0x0⟩,
  /- VEC.STATUS -/ ⟨0xc00, 0x8, 1, 0x0, 0x0, 0x0, 0x0⟩,
  /- VEC.ERR -/ ⟨0xc08, 0x8, 1, 0x0, 0x0, 0x0, 0x0⟩,
  /- VEC.GROUPS -/ ⟨0xc10, 0x8, 1, 0x0, 0x0, 0xffffffffffffffff, 0x0⟩,
  /- VEC.STALL -/ ⟨0xc18, 0x8, 1, 0x0, 0x0, 0xffffffffffffffff, 0x0⟩,
  /- VEC.PSLOT -/ ⟨0xc20, 0x8, 1, 0x0, 0x0, 0x0, 0x0⟩]

/-- Registers of a cell window (R31; spec/02, 03, 04, 05, 07), part 3. -/
def cellRows2 : List RegRow := [
  /- VEC.MSEL -/ ⟨0xc28, 0x8, 1, 0x3ff, 0x0, 0x0, 0x0⟩,
  /- VEC.MDATA -/ ⟨0xc30, 0x8, 1, 0xffffffffffffffff, 0x0, 0x0, 0x0⟩,
  /- SYNC.ERR (cell) -/ ⟨0xe00, 0x8, 1, 0x0, 0x0, 0x0, 0x0⟩,
  /- SYNC.CSTATUS (cell) -/ ⟨0xe08, 0x8, 1, 0x0, 0x0, 0x0, 0x0⟩,
  /- SYNC.WAIT_TARGET (cell) -/ ⟨0xe10, 0x8, 1, 0x0, 0x0, 0x0, 0x0⟩,
  /- SYNC.WAIT_EXPECT (cell) -/ ⟨0xe18, 0x8, 1, 0x0, 0x0, 0x0, 0x0⟩]

def cellRows : List RegRow := cellRows0 ++ cellRows1 ++ cellRows2

/-- Registers of a block window, lower half (R31; spec/06, 07), part 1. -/
def blockRows0 : List RegRow := [
  /- SLUICE.CFG -/ ⟨0x0, 0x8, 1, 0x3, 0x0, 0x0, 0x1⟩,
  /- SLUICE.RETRY_MAX -/ ⟨0x8, 0x8, 1, 0x7, 0x0, 0x0, 0x3⟩,
  /- SLUICE.SHARES -/ ⟨0x10, 0x8, 1, 0x0, 0x0, 0x0, 0x0⟩,
  /- SLUICE.STATUS -/ ⟨0x18, 0x8, 1, 0x0, 0x0, 0x0, 0x0⟩,
  /- SLUICE.BUF_LEVEL -/ ⟨0x20, 0x8, 1, 0x0, 0x0, 0x0, 0x0⟩,
  /- SLUICE.BUF_HWM -/ ⟨0x28, 0x8, 1, 0x0, 0x0, 0x3ffff, 0x0⟩,
  /- SLUICE.STALL -/ ⟨0x30, 0x8, 1, 0x0, 0x0, 0xffffffffffffffff, 0x0⟩,
  /- SLUICE.TAGn -/ ⟨0x400, 0x8, 64, 0xffffffffffffffff, 0x0, 0x0, 0x0⟩,
  /- SLUICE.CHn_CTRL -/ ⟨0x1000, 0x100, 16, 0x0, 0x0, 0x0, 0x0⟩,
  /- SLUICE.CHn_STATUS -/ ⟨0x1008, 0x100, 16, 0x0, 0x200, 0x0, 0x0⟩,
  /- SLUICE.CHn_SRC_BASE -/ ⟨0x1010, 0x100, 16, 0x1ffffffffffffff, 0x0, 0x0, 0x0⟩,
  /- SLUICE.CHn_DST_BASE -/ ⟨0x1018, 0x100, 16, 0x1ffffffffffffff, 0x0, 0x0, 0x0⟩,
  /- SLUICE.CHn_PACE -/ ⟨0x1020, 0x100, 16, 0x1f3ffff8, 0x0, 0x0, 0x0⟩,
  /- SLUICE.CHn_WMARK -/ ⟨0x1028, 0x100, 16, 0xffffffffffffffff, 0x0, 0x0, 0x1000000004000⟩,
  /- SLUICE.CHn_FAIL -/ ⟨0x1030, 0x100, 16, 0x0, 0x0, 0x0, 0x0⟩,
  /- SLUICE.CHn_FAIL_SEGMAP -/ ⟨0x1038, 0x100, 16, 0x0, 0x0, 0x0, 0x0⟩,
  /- SLUICE.CHn_FAIL_ADDR -/ ⟨0x1040, 0x100, 16, 0x0, 0x0, 0x0, 0x0⟩,
  /- SLUICE.CHn_FAIL_SEQ -/ ⟨0x1048, 0x100, 16, 0x0, 0x0, 0x0, 0x0⟩,
  /- SLUICE.CHn_BYTES -/ ⟨0x1050, 0x100, 16, 0x0, 0x0, 0xffffffffffffffff, 0x0⟩,
  /- SLUICE.CHn_HWM -/ ⟨0x1058, 0x100, 16, 0x0, 0x0, 0x3f07, 0x0⟩,
  /- SLUICE.CHn_RETRIES -/ ⟨0x1060, 0x100, 16, 0x0, 0x0, 0xffffffff, 0x0⟩,
  /- SLUICE.CHn_FAIL_TAG -/ ⟨0x1068, 0x100, 16, 0x0, 0x0, 0x0, 0x0⟩,
  /- HR.CFGc -/ ⟨0x2000, 0x40, 4, 0x1f1f07, 0x0, 0x0, 0x180800⟩,
  /- HR.STATUSc -/ ⟨0x2008, 0x40, 4, 0x0, 0xc, 0x0, 0x0⟩,
  /- HR.HWMc -/ ⟨0x2010, 0x40, 4, 0x0, 0x0, 0xffff, 0x0⟩]

/-- Registers of a block window, lower half (R31; spec/06, 07), part 2. -/
def blockRows1 : List RegRow := [
  /- HR.BYTESc -/ ⟨0x2018, 0x40, 4, 0x0, 0x0, 0xffffffffffffffff, 0x0⟩,
  /- SYNC.SEL (block unit) -/ ⟨0x3000, 0x8, 1, 0x1fff, 0x0, 0x0, 0x0⟩,
  /- SYNC.CMD (block unit) -/ ⟨0x3008, 0x8, 1, 0x0, 0x0, 0x0, 0x0⟩,
  /- SYNC.DATA (block unit) -/ ⟨0x3010, 0x8, 1, 0xffffffffffffffff, 0x0, 0x0, 0x0⟩,
  /- SYNC.STATUS (block unit) -/ ⟨0x3018, 0x8, 1, 0x0, 0x1, 0x0, 0x0⟩,
  /- SYNC.VALUE (block unit) -/ ⟨0x3020, 0x8, 1, 0x0, 0x0, 0x0, 0x0⟩,
  /- SYNC.PENDING (block unit) -/ ⟨0x3028, 0x8, 1, 0x0, 0x0, 0x0, 0x0⟩,
  /- SYNC.OWNER (block unit) -/ ⟨0x3030, 0x8, 1, 0x0, 0x0, 0x0, 0x0⟩,
  /- SYNC.WCOUNT (block unit) -/ ⟨0x3038, 0x8, 1, 0x0, 0x0, 0x0, 0x0⟩,
  /- SYNC.LAST (block unit) -/ ⟨0x3040, 0x8, 1, 0x0, 0x0, 0x0, 0x0⟩,
  /- SYNC.LAST_SEQ (block unit) -/ ⟨0x3048, 0x8, 1, 0x0, 0x0, 0x0, 0x0⟩,
  /- SYNC.LAST_AMOUNT (block unit) -/ ⟨0x3050, 0x8, 1, 0x0, 0x0, 0x0, 0x0⟩,
  /- SYNC.REFUSED (block unit) -/ ⟨0x3058, 0x8, 1, 0x0, 0x0, 0xffffffff, 0x0⟩,
  /- SYNC.WAITERw_ID (block unit) -/ ⟨0x3080, 0x10, 8, 0x0, 0x0, 0x0, 0x0⟩,
  /- SYNC.WAITERw_EXPECT (block unit) -/ ⟨0x3088, 0x10, 8, 0x0, 0x0, 0x0, 0x0⟩,
  /- SHUT.MASK_LO -/ ⟨0x3200, 0x8, 1, 0xffffffffffffffff, 0x0, 0x0, 0x0⟩,
  /- SHUT.MASK_HI -/ ⟨0x3208, 0x8, 1, 0xffffffffffffffff, 0x0, 0x0, 0x0⟩,
  /- SHUT.READY_LO -/ ⟨0x3210, 0x8, 1, 0x0, 0x0, 0x0, 0x0⟩,
  /- SHUT.READY_HI -/ ⟨0x3218, 0x8, 1, 0x0, 0x0, 0x0, 0x0⟩,
  /- SHUT.BSTATUS -/ ⟨0x3220, 0x8, 1, 0x0, 0x1, 0x0, 0x0⟩]

def blockRows : List RegRow := blockRows0 ++ blockRows1

/-- Registers of a bedstone window (spec/07, 09). -/
def bedRows0 : List RegRow := [
  /- LEAT.STATUS -/ ⟨0x200000, 0x1000, 7, 0x0, 0x10, 0x0, 0x0⟩,
  /- LEAT.CTRL -/ ⟨0x200008, 0x1000, 7, 0x0, 0x0, 0x0, 0x0⟩,
  /- LEAT.REPAIR -/ ⟨0x200010, 0x1000, 7, 0x0, 0x0, 0x0, 0x0⟩,
  /- LEAT.CE_COUNT -/ ⟨0x200018, 0x1000, 7, 0x0, 0x0, 0xffffffff, 0x0⟩,
  /- LEAT.UE_COUNT -/ ⟨0x200020, 0x1000, 7, 0x0, 0x0, 0xffffffffffffffff, 0x0⟩,
  /- LEAT.REPLAYS -/ ⟨0x200028, 0x1000, 7, 0x0, 0x0, 0xffffffffffffffff, 0x0⟩,
  /- LEAT.RETRAINS -/ ⟨0x200030, 0x1000, 7, 0x0, 0x0, 0xffffffff, 0x0⟩,
  /- LEAT.BYTES -/ ⟨0x200038, 0x1000, 7, 0x0, 0x0, 0xffffffffffffffff, 0x0⟩,
  /- SYNC.SEL (region unit) -/ ⟨0x400000, 0x8, 1, 0x1fff, 0x0, 0x0, 0x0⟩,
  /- SYNC.CMD (region unit) -/ ⟨0x400008, 0x8, 1, 0x0, 0x0, 0x0, 0x0⟩,
  /- SYNC.DATA (region unit) -/ ⟨0x400010, 0x8, 1, 0xffffffffffffffff, 0x0, 0x0, 0x0⟩,
  /- SYNC.STATUS (region unit) -/ ⟨0x400018, 0x8, 1, 0x0, 0x1, 0x0, 0x0⟩,
  /- SYNC.VALUE (region unit) -/ ⟨0x400020, 0x8, 1, 0x0, 0x0, 0x0, 0x0⟩,
  /- SYNC.PENDING (region unit) -/ ⟨0x400028, 0x8, 1, 0x0, 0x0, 0x0, 0x0⟩,
  /- SYNC.OWNER (region unit) -/ ⟨0x400030, 0x8, 1, 0x0, 0x0, 0x0, 0x0⟩,
  /- SYNC.WCOUNT (region unit) -/ ⟨0x400038, 0x8, 1, 0x0, 0x0, 0x0, 0x0⟩,
  /- SYNC.LAST (region unit) -/ ⟨0x400040, 0x8, 1, 0x0, 0x0, 0x0, 0x0⟩,
  /- SYNC.LAST_SEQ (region unit) -/ ⟨0x400048, 0x8, 1, 0x0, 0x0, 0x0, 0x0⟩,
  /- SYNC.LAST_AMOUNT (region unit) -/ ⟨0x400050, 0x8, 1, 0x0, 0x0, 0x0, 0x0⟩,
  /- SYNC.REFUSED (region unit) -/ ⟨0x400058, 0x8, 1, 0x0, 0x0, 0xffffffff, 0x0⟩,
  /- SYNC.WAITERw_ID (region unit) -/ ⟨0x400080, 0x10, 8, 0x0, 0x0, 0x0, 0x0⟩,
  /- SYNC.WAITERw_EXPECT (region unit) -/ ⟨0x400088, 0x10, 8, 0x0, 0x0, 0x0, 0x0⟩]

def bedRows : List RegRow := bedRows0

/-- Registers of a region window (spec/08, 09, 12, 13), part 1. -/
def regionRows0 : List RegRow := [
  /- MEM.CFG -/ ⟨0x100000, 0x10000, 2, 0x0, 0x0, 0x0, 0x0⟩,
  /- MEM.STATUS -/ ⟨0x100008, 0x10000, 2, 0x0, 0x0, 0x0, 0x0⟩,
  /- MEM.REPAIR -/ ⟨0x100010, 0x10000, 2, 0x0, 0x0, 0x0, 0x0⟩,
  /- MEM.PRIO_AGE -/ ⟨0x100018, 0x10000, 2, 0xffff, 0x0, 0x0, 0x4⟩,
  /- MEM.SCRUB -/ ⟨0x100020, 0x10000, 2, 0x1ff, 0x0, 0x0, 0x118⟩,
  /- MEM.SCRUB_POS -/ ⟨0x100028, 0x10000, 2, 0x0, 0x0, 0x0, 0x0⟩,
  /- MEM.CE_COUNT -/ ⟨0x100030, 0x10000, 2, 0x0, 0x0, 0xffffffff, 0x0⟩,
  /- MEM.CE_THRESH -/ ⟨0x100038, 0x10000, 2, 0xffffffffffff, 0x0, 0x0, 0x3c00000100⟩,
  /- MEM.UE_COUNT -/ ⟨0x100040, 0x10000, 2, 0x0, 0x0, 0xffffffff, 0x0⟩,
  /- MEM.ERR_LOG -/ ⟨0x100048, 0x10000, 2, 0x0, 0x8000000000000000, 0x0, 0x0⟩,
  /- MEM.ERR_ADDR -/ ⟨0x100050, 0x10000, 2, 0x0, 0x0, 0x0, 0x0⟩,
  /- MEM.GRIST_FLAGS -/ ⟨0x100058, 0x10000, 2, 0x0, 0x3f, 0x0, 0x0⟩,
  /- MEM.GRIST_OPS -/ ⟨0x100060, 0x10000, 2, 0x0, 0x0, 0xffffffffffffffff, 0x0⟩,
  /- MEM.GRIST_POISON -/ ⟨0x100068, 0x10000, 2, 0x0, 0x0, 0xffffffffffffffff, 0x0⟩,
  /- MEM.POISON_KEEP -/ ⟨0x100070, 0x10000, 2, 0x0, 0x0, 0xffffffffffffffff, 0x0⟩,
  /- MEM.INTEG_FAIL -/ ⟨0x100078, 0x10000, 2, 0x0, 0x0, 0xffffffffffffffff, 0x0⟩,
  /- MEM.RD_BYTES -/ ⟨0x100080, 0x10000, 2, 0x0, 0x0, 0xffffffffffffffff, 0x0⟩,
  /- MEM.WR_BYTES -/ ⟨0x100088, 0x10000, 2, 0x0, 0x0, 0xffffffffffffffff, 0x0⟩,
  /- MEM.PRIO_PROMOTED -/ ⟨0x100090, 0x10000, 2, 0x0, 0x0, 0xffffffffffffffff, 0x0⟩,
  /- FL.STATUS -/ ⟨0x200000, 0x1000, 8, 0x0, 0x800, 0x0, 0x0⟩,
  /- FL.CTRL -/ ⟨0x200008, 0x1000, 8, 0x0, 0x0, 0x0, 0x0⟩,
  /- FL.PEER -/ ⟨0x200010, 0x1000, 8, 0x0, 0x0, 0x0, 0x0⟩,
  /- FL.PEER_ID -/ ⟨0x200018, 0x1000, 8, 0x0, 0x0, 0x0, 0x0⟩,
  /- FL.FEC_CORR -/ ⟨0x200020, 0x1000, 8, 0x0, 0x0, 0xffffffffffffffff, 0x0⟩,
  /- FL.FEC_UNCORR -/ ⟨0x200028, 0x1000, 8, 0x0, 0x0, 0xffffffffffffffff, 0x0⟩]

/-- Registers of a region window (spec/08, 09, 12, 13), part 2. -/
def regionRows1 : List RegRow := [
  /- FL.TAG_FAIL -/ ⟨0x200030, 0x1000, 8, 0x0, 0x0, 0xffffffffffffffff, 0x0⟩,
  /- FL.REPLAYS -/ ⟨0x200038, 0x1000, 8, 0x0, 0x0, 0xffffffffffffffff, 0x0⟩,
  /- FL.RETRAINS -/ ⟨0x200040, 0x1000, 8, 0x0, 0x0, 0xffffffff, 0x0⟩,
  /- FL.VIOL_COUNT -/ ⟨0x200048, 0x1000, 8, 0x0, 0x0, 0xffffffff, 0x0⟩,
  /- FL.VIOL_SEL -/ ⟨0x200050, 0x1000, 8, 0xf, 0x0, 0x0, 0x0⟩,
  /- FL.VIOL_LOG -/ ⟨0x200058, 0x1000, 8, 0x0, 0x0, 0x0, 0x0⟩,
  /- FL.EPOCH -/ ⟨0x200060, 0x1000, 8, 0x0, 0x0, 0x0, 0x0⟩,
  /- FL.TX_BYTES -/ ⟨0x200068, 0x1000, 8, 0x0, 0x0, 0xffffffffffffffff, 0x0⟩,
  /- FL.RX_BYTES -/ ⟨0x200070, 0x1000, 8, 0x0, 0x0, 0xffffffffffffffff, 0x0⟩,
  /- GOV.SLOPE -/ ⟨0x300000, 0x8, 1, 0x0, 0x0, 0x0, 0x0⟩,
  /- GOV.STATUS -/ ⟨0x300008, 0x8, 1, 0x0, 0x0, 0x0, 0xff0000000000⟩,
  /- GOV.THROTTLE -/ ⟨0x300010, 0x8, 1, 0x0, 0x0, 0xffffffffffffffff, 0x0⟩,
  /- GOV.BALLAST -/ ⟨0x300018, 0x8, 1, 0x0, 0x0, 0xffffffffffffffff, 0x0⟩,
  /- GOV.OP_CHANGES -/ ⟨0x300020, 0x8, 1, 0x0, 0x0, 0xffffffff, 0x0⟩,
  /- GOV.SLEEP_CFG -/ ⟨0x300028, 0x8, 1, 0xffff, 0x0, 0x0, 0x64⟩,
  /- GOV.SLEEP_STATUS -/ ⟨0x300030, 0x8, 1, 0x0, 0x0, 0x0, 0x30000000⟩,
  /- DROOP.CFG -/ ⟨0x300040, 0x8, 1, 0x0, 0x0, 0x0, 0x0⟩,
  /- DROOP.STATUS -/ ⟨0x300048, 0x8, 1, 0x0, 0x4, 0x0, 0x0⟩,
  /- DROOP.COUNT -/ ⟨0x300050, 0x8, 1, 0x0, 0x0, 0xffffffffffffffff, 0x0⟩,
  /- DROOP.STRETCHED -/ ⟨0x300058, 0x8, 1, 0x0, 0x0, 0xffffffffffffffff, 0x0⟩,
  /- DROOP.HELD -/ ⟨0x300060, 0x8, 1, 0x0, 0x0, 0xffffffffffffffff, 0x0⟩,
  /- THERM.CFG -/ ⟨0x300080, 0x8, 1, 0x0, 0x0, 0x0, 0x6900⟩,
  /- THERM.STATUS -/ ⟨0x300088, 0x8, 1, 0x0, 0x0, 0x0, 0x0⟩,
  /- THERM.SEL -/ ⟨0x300090, 0x8, 1, 0x3f, 0x0, 0x0, 0x0⟩,
  /- THERM.READING -/ ⟨0x300098, 0x8, 1, 0x0, 0x0, 0x0, 0x0⟩]

/-- Registers of a region window (spec/08, 09, 12, 13), part 3. -/
def regionRows2 : List RegRow := [
  /- THERM.THROTTLES -/ ⟨0x3000a0, 0x8, 1, 0x0, 0x0, 0xffffffffffffffff, 0x0⟩,
  /- XCHK.CFG -/ ⟨0x301000, 0x8, 1, 0xff03, 0x0, 0x0, 0x403⟩,
  /- XCHK.SUSPECT -/ ⟨0x301008, 0x8, 1, 0x0, 0x0, 0x0, 0x0⟩,
  /- XCHK.CHECKS -/ ⟨0x301010, 0x8, 1, 0x0, 0x0, 0xffffffffffffffff, 0x0⟩,
  /- XCHK.FAILS -/ ⟨0x301018, 0x8, 1, 0x0, 0x0, 0xffffffffffffffff, 0x0⟩]

def regionRows : List RegRow := regionRows0 ++ regionRows1 ++ regionRows2

/-- Registers of the hurst window (spec/07 to 15), part 1. -/
def hurstRows0 : List RegRow := [
  /- SYNC.SEL (package unit, per partition) -/ ⟨0x2000000, 0x8, 1, 0x1fff, 0x0, 0x0, 0x0⟩,
  /- SYNC.CMD (package unit, per partition) -/ ⟨0x2000008, 0x8, 1, 0x0, 0x0, 0x0, 0x0⟩,
  /- SYNC.DATA (package unit, per partition) -/ ⟨0x2000010, 0x8, 1, 0xffffffffffffffff, 0x0, 0x0, 0x0⟩,
  /- SYNC.STATUS (package unit, per partition) -/ ⟨0x2000018, 0x8, 1, 0x0, 0x1, 0x0, 0x0⟩,
  /- SYNC.VALUE (package unit, per partition) -/ ⟨0x2000020, 0x8, 1, 0x0, 0x0, 0x0, 0x0⟩,
  /- SYNC.PENDING (package unit, per partition) -/ ⟨0x2000028, 0x8, 1, 0x0, 0x0, 0x0, 0x0⟩,
  /- SYNC.OWNER (package unit, per partition) -/ ⟨0x2000030, 0x8, 1, 0x0, 0x0, 0x0, 0x0⟩,
  /- SYNC.WCOUNT (package unit, per partition) -/ ⟨0x2000038, 0x8, 1, 0x0, 0x0, 0x0, 0x0⟩,
  /- SYNC.LAST (package unit, per partition) -/ ⟨0x2000040, 0x8, 1, 0x0, 0x0, 0x0, 0x0⟩,
  /- SYNC.LAST_SEQ (package unit, per partition) -/ ⟨0x2000048, 0x8, 1, 0x0, 0x0, 0x0, 0x0⟩,
  /- SYNC.LAST_AMOUNT (package unit, per partition) -/ ⟨0x2000050, 0x8, 1, 0x0, 0x0, 0x0, 0x0⟩,
  /- SYNC.REFUSED (package unit, per partition) -/ ⟨0x2000058, 0x8, 1, 0x0, 0x0, 0xffffffff, 0x0⟩,
  /- SYNC.WAITERw_ID (package unit, per partition) -/ ⟨0x2000080, 0x10, 8, 0x0, 0x0, 0x0, 0x0⟩,
  /- SYNC.WAITERw_EXPECT (package unit, per partition) -/ ⟨0x2000088, 0x10, 8, 0x0, 0x0, 0x0, 0x0⟩,
  /- SYNC.JOBCMD -/ ⟨0x2000100, 0x8, 1, 0x0, 0x0, 0x0, 0x0⟩,
  /- SYNC.JOBSTAT -/ ⟨0x2000108, 0x8, 1, 0x0, 0x0, 0x0, 0x0⟩,
  /- SHUT.LINEn_CTRL (per partition) -/ ⟨0x2010000, 0x10, 32, 0x1ffff, 0x0, 0x0, 0x0⟩,
  /- SHUT.LINEn_STATUS (per partition) -/ ⟨0x2010008, 0x10, 32, 0x0, 0x0, 0x0, 0x0⟩,
  /- SHUT.STATUS (per partition) -/ ⟨0x2010200, 0x8, 1, 0x0, 0x1, 0x0, 0x0⟩,
  /- LEAT.STATUS (hurst end) -/ ⟨0x3000000, 0x1000, 7, 0x0, 0x10, 0x0, 0x0⟩,
  /- LEAT.CTRL (hurst end) -/ ⟨0x3000008, 0x1000, 7, 0x0, 0x0, 0x0, 0x0⟩,
  /- LEAT.REPAIR (hurst end) -/ ⟨0x3000010, 0x1000, 7, 0x0, 0x0, 0x0, 0x0⟩,
  /- LEAT.CE_COUNT (hurst end) -/ ⟨0x3000018, 0x1000, 7, 0x0, 0x0, 0xffffffff, 0x0⟩,
  /- LEAT.UE_COUNT (hurst end) -/ ⟨0x3000020, 0x1000, 7, 0x0, 0x0, 0xffffffffffffffff, 0x0⟩,
  /- LEAT.REPLAYS (hurst end) -/ ⟨0x3000028, 0x1000, 7, 0x0, 0x0, 0xffffffffffffffff, 0x0⟩]

/-- Registers of the hurst window (spec/07 to 15), part 2. -/
def hurstRows1 : List RegRow := [
  /- LEAT.RETRAINS (hurst end) -/ ⟨0x3000030, 0x1000, 7, 0x0, 0x0, 0xffffffff, 0x0⟩,
  /- LEAT.BYTES (hurst end) -/ ⟨0x3000038, 0x1000, 7, 0x0, 0x0, 0xffffffffffffffff, 0x0⟩,
  /- FAR.MAP -/ ⟨0x4000000, 0x8, 1, 0x0, 0x0, 0x0, 0x0⟩,
  /- FAR.CAPACITY -/ ⟨0x4000008, 0x8, 1, 0x0, 0x0, 0x0, 0x0⟩,
  /- FAR.PORTp_STATUS -/ ⟨0x4010000, 0x10000, 2, 0x0, 0x0, 0x0, 0x0⟩,
  /- FAR.PORTp_CAP -/ ⟨0x4010008, 0x10000, 2, 0x0, 0x0, 0x0, 0x0⟩,
  /- FAR.PORTp_ERR -/ ⟨0x4010010, 0x10000, 2, 0x0, 0x0, 0x0, 0x0⟩,
  /- FAR.PORTp_POISON_RX -/ ⟨0x4010018, 0x10000, 2, 0x0, 0x0, 0xffffffffffffffff, 0x0⟩,
  /- FAR.PORTp_VIOLATIONS -/ ⟨0x4010020, 0x10000, 2, 0x0, 0x0, 0xffffffffffffffff, 0x0⟩,
  /- FAR.PORTp_RETRAINS -/ ⟨0x4010028, 0x10000, 2, 0x0, 0x0, 0xffffffffffffffff, 0x0⟩,
  /- FAR.PORTp_RD_BYTES -/ ⟨0x4010030, 0x10000, 2, 0x0, 0x0, 0xffffffffffffffff, 0x0⟩,
  /- FAR.PORTp_WR_BYTES -/ ⟨0x4010038, 0x10000, 2, 0x0, 0x0, 0xffffffffffffffff, 0x0⟩,
  /- FAR.PORTp_RETRAIN_MAX -/ ⟨0x4010040, 0x10000, 2, 0x7, 0x0, 0x0, 0x3⟩,
  /- WEIR.CTRL -/ ⟨0x5000000, 0x8, 1, 0x0, 0x0, 0x0, 0x0⟩,
  /- WEIR.STATUS -/ ⟨0x5000008, 0x8, 1, 0x0, 0x0, 0x0, 0x0⟩,
  /- WEIR.JOB -/ ⟨0x5000010, 0x8, 1, 0xffff, 0x0, 0x0, 0x0⟩,
  /- WEIR.LIMITS -/ ⟨0x5000018, 0x8, 1, 0x0, 0x0, 0x0, 0x0⟩,
  /- WEIR.VIOL_COUNT -/ ⟨0x5000020, 0x8, 1, 0x0, 0x0, 0xffffffff, 0x0⟩,
  /- WEIR.VIOL_LOG -/ ⟨0x5000028, 0x8, 1, 0x0, 0x0, 0x0, 0x0⟩,
  /- WEIR.VIOL_ADDR -/ ⟨0x5000030, 0x8, 1, 0x0, 0x0, 0x0, 0x0⟩,
  /- WEIR.THROTTLE -/ ⟨0x5000038, 0x8, 1, 0x0, 0x0, 0xffffffffffffffff, 0x0⟩,
  /- WEIR.RD_BYTES -/ ⟨0x5000140, 0x8, 1, 0x0, 0x0, 0xffffffffffffffff, 0x0⟩,
  /- WEIR.WR_BYTES -/ ⟨0x5000148, 0x8, 1, 0x0, 0x0, 0xffffffffffffffff, 0x0⟩,
  /- WEIR.WINw_BASE -/ ⟨0x5000040, 0x10, 16, 0x0, 0x0, 0x0, 0x0⟩,
  /- WEIR.WINw_CFG -/ ⟨0x5000048, 0x10, 16, 0x0, 0x0, 0x0, 0x0⟩]

/-- Registers of the hurst window (spec/07 to 15), part 3. -/
def hurstRows2 : List RegRow := [
  /- FAB.COORD -/ ⟨0x6000000, 0x100000, 6, 0x0, 0x0, 0x0, 0x0⟩,
  /- FAB.STATE -/ ⟨0x6000008, 0x100000, 6, 0x0, 0x0, 0x0, 0x0⟩,
  /- FAB.POLICY -/ ⟨0x6000010, 0x100000, 6, 0x0, 0x0, 0x0, 0x0⟩,
  /- FAB.L2CTRL -/ ⟨0x6000018, 0x100000, 6, 0x0, 0x0, 0x0, 0x0⟩,
  /- FAB.L2STATUS -/ ⟨0x6000020, 0x100000, 6, 0x0, 0x4, 0x0, 0x0⟩,
  /- FAB.RELAYED -/ ⟨0x6000028, 0x100000, 6, 0x0, 0x0, 0xffffffffffffffff, 0x0⟩,
  /- FAB.NO_ROUTE -/ ⟨0x6000030, 0x100000, 6, 0x0, 0x0, 0xffffffffffffffff, 0x0⟩,
  /- FAB.PROBES -/ ⟨0x6000038, 0x100000, 6, 0x0, 0x0, 0xffffffffffffffff, 0x0⟩,
  /- HOST.PORT_STATUS -/ ⟨0x7000000, 0x8, 1, 0x0, 0x0, 0x0, 0x0⟩,
  /- HOST.FEC_CORR -/ ⟨0x7000008, 0x8, 1, 0x0, 0x0, 0xffffffffffffffff, 0x0⟩,
  /- HOST.FEC_UNCORR -/ ⟨0x7000010, 0x8, 1, 0x0, 0x0, 0xffffffffffffffff, 0x0⟩,
  /- HOST.FCS_ERR -/ ⟨0x7000018, 0x8, 1, 0x0, 0x0, 0xffffffffffffffff, 0x0⟩,
  /- HOST.LINK_DOWNS -/ ⟨0x7000020, 0x8, 1, 0x0, 0x0, 0xffffffffffffffff, 0x0⟩,
  /- HOST.RX_BYTES -/ ⟨0x7000028, 0x8, 1, 0x0, 0x0, 0xffffffffffffffff, 0x0⟩,
  /- HOST.TX_BYTES -/ ⟨0x7000030, 0x8, 1, 0x0, 0x0, 0xffffffffffffffff, 0x0⟩,
  /- HOST.EP_STATUS -/ ⟨0x7100000, 0x10000, 6, 0x0, 0x0, 0x0, 0x0⟩,
  /- HOST.EP_CFG -/ ⟨0x7100008, 0x10000, 6, 0x0, 0x0, 0x0, 0x0⟩,
  /- HOST.EP_MAC -/ ⟨0x7100010, 0x10000, 6, 0x0, 0x0, 0x0, 0x0⟩,
  /- HOST.EP_IP_LO -/ ⟨0x7100018, 0x10000, 6, 0x0, 0x0, 0x0, 0x0⟩,
  /- HOST.EP_IP_HI -/ ⟨0x7100020, 0x10000, 6, 0x0, 0x0, 0x0, 0x0⟩,
  /- HOST.JOURNAL_NEXT -/ ⟨0x7100028, 0x10000, 6, 0x0, 0x0, 0x0, 0x0⟩,
  /- HOST.EVENT_NEXT -/ ⟨0x7100030, 0x10000, 6, 0x0, 0x0, 0x0, 0x0⟩,
  /- HOST.DISCARDS -/ ⟨0x7100038, 0x10000, 6, 0x0, 0x0, 0xffffffffffffffff, 0x0⟩,
  /- HOST.VIOL_COUNT -/ ⟨0x7100040, 0x10000, 6, 0x0, 0x0, 0xffffffffffffffff, 0x0⟩,
  /- HOST.VIOL_LOG -/ ⟨0x7100048, 0x10000, 6, 0x0, 0x0, 0x0, 0x0⟩]

/-- Registers of the hurst window (spec/07 to 15), part 4. -/
def hurstRows3 : List RegRow := [
  /- HOST.VIOL_SRC_LO -/ ⟨0x7100050, 0x10000, 6, 0x0, 0x0, 0x0, 0x0⟩,
  /- HOST.VIOL_SRC_HI -/ ⟨0x7100058, 0x10000, 6, 0x0, 0x0, 0x0, 0x0⟩,
  /- HOST.TAG_FAIL -/ ⟨0x7100060, 0x10000, 6, 0x0, 0x0, 0xffffffffffffffff, 0x0⟩,
  /- HOST.STALE -/ ⟨0x7100068, 0x10000, 6, 0x0, 0x0, 0xffffffffffffffff, 0x0⟩,
  /- HOST.RDMA_NAKS -/ ⟨0x7100070, 0x10000, 6, 0x0, 0x0, 0xffffffffffffffff, 0x0⟩,
  /- HOST.EP_RX_BYTES -/ ⟨0x7100078, 0x10000, 6, 0x0, 0x0, 0xffffffffffffffff, 0x0⟩,
  /- HOST.EP_TX_BYTES -/ ⟨0x7100080, 0x10000, 6, 0x0, 0x0, 0xffffffffffffffff, 0x0⟩,
  /- PWR.STATUS -/ ⟨0x8000000, 0x8, 1, 0x0, 0x0, 0x0, 0x0⟩,
  /- PWR.CAP -/ ⟨0x8000008, 0x8, 1, 0x0, 0x0, 0x0, 0x0⟩,
  /- PWR.CORRECTION -/ ⟨0x8000010, 0x8, 1, 0x0, 0x0, 0x0, 0x0⟩,
  /- PWR.CAP_EXCEEDED -/ ⟨0x8000018, 0x8, 1, 0x0, 0x0, 0xffffffffffffffff, 0x0⟩,
  /- PWR.RAIL_SEL -/ ⟨0x8000020, 0x8, 1, 0x1f, 0x0, 0x0, 0x0⟩,
  /- PWR.RAIL -/ ⟨0x8000028, 0x8, 1, 0x0, 0x0, 0x0, 0x0⟩,
  /- PWR.LOSS -/ ⟨0x8000030, 0x8, 1, 0x0, 0x0, 0x0, 0x0⟩,
  /- CLK.STATUS -/ ⟨0x80000c0, 0x8, 1, 0x0, 0x0, 0x0, 0x0⟩,
  /- CLK.HOLDOVERS -/ ⟨0x80000c8, 0x8, 1, 0x0, 0x0, 0xffffffffffffffff, 0x0⟩,
  /- PWR.PART_CAPp -/ ⟨0x8000040, 0x8, 6, 0x0, 0x0, 0x0, 0x0⟩,
  /- PWR.TELEMw -/ ⟨0x8000080, 0x8, 8, 0x0, 0x0, 0x0, 0x0⟩,
  /- FAN.CFG -/ ⟨0x8010000, 0x1000, 6, 0xffff000fffff, 0x0, 0x0, 0xa0002003c⟩,
  /- FAN.CTRL -/ ⟨0x8010008, 0x1000, 6, 0x0, 0x0, 0x0, 0x0⟩,
  /- FAN.BUDGET -/ ⟨0x8010010, 0x1000, 6, 0x0, 0x0, 0x0, 0x0⟩,
  /- FAN.SEL -/ ⟨0x8010018, 0x1000, 6, 0x3ff, 0x0, 0x0, 0x0⟩,
  /- FAN.ENTRY -/ ⟨0x8010020, 0x1000, 6, 0x0, 0x0, 0x0, 0x0⟩,
  /- FAN.ENTRY_DUR -/ ⟨0x8010028, 0x1000, 6, 0x0, 0x0, 0x0, 0x0⟩,
  /- FAN.REALLOCS -/ ⟨0x8010030, 0x1000, 6, 0x0, 0x0, 0xffffffffffffffff, 0x0⟩]

/-- Registers of the hurst window (spec/07 to 15), part 5. -/
def hurstRows4 : List RegRow := [
  /- SEC.ID -/ ⟨0xa000000, 0x8, 1, 0x0, 0x0, 0x0, 0x0⟩,
  /- SEC.VARIANT -/ ⟨0xa000008, 0x8, 1, 0x0, 0x0, 0x0, 0x0⟩,
  /- SEC.SVN -/ ⟨0xa000010, 0x8, 1, 0x0, 0x0, 0x0, 0x0⟩,
  /- SEC.TRNG -/ ⟨0xa000018, 0x8, 1, 0x0, 0x0, 0x0, 0x0⟩,
  /- SEC.LAYOUT -/ ⟨0xa000020, 0x8, 1, 0x0, 0x0, 0x0, 0x0⟩,
  /- SEC.PCTRL -/ ⟨0xa010000, 0x1000, 6, 0x0, 0x0, 0x0, 0x0⟩,
  /- SEC.PSTATUS -/ ⟨0xa010008, 0x1000, 6, 0x0, 0x80, 0x0, 0x0⟩,
  /- SEC.OWNS -/ ⟨0xa010010, 0x1000, 6, 0x0, 0x0, 0x0, 0x0⟩,
  /- SEC.SESSION -/ ⟨0xa010018, 0x1000, 6, 0x0, 0x0, 0x0, 0x0⟩,
  /- SEC.DRESS_COUNT -/ ⟨0xa010020, 0x1000, 6, 0x0, 0x0, 0x0, 0x0⟩,
  /- SEC.DRESS_LAST -/ ⟨0xa010028, 0x1000, 6, 0x0, 0x0, 0x0, 0x0⟩,
  /- BOOT.STATUS -/ ⟨0xb000000, 0x8, 1, 0x0, 0x0, 0x0, 0x90000⟩,
  /- BOOT.CFG_ERR -/ ⟨0xb000008, 0x8, 1, 0x0, 0x0, 0x0, 0x0⟩,
  /- BOOT.START_COUNT -/ ⟨0xb000010, 0x8, 1, 0x0, 0x0, 0x0, 0x0⟩,
  /- BOOT.CAUSE -/ ⟨0xb000018, 0x8, 1, 0x0, 0x0, 0x0, 0x0⟩,
  /- TEST.CTRL -/ ⟨0xc000000, 0x1000, 6, 0xf, 0x0, 0x0, 0x0⟩,
  /- TEST.STATUS -/ ⟨0xc000008, 0x1000, 6, 0x0, 0x80, 0x0, 0x0⟩,
  /- TEST.SEED -/ ⟨0xc000010, 0x1000, 6, 0xffffffff, 0x0, 0x0, 0x0⟩,
  /- TEST.DELAY -/ ⟨0xc000018, 0x1000, 6, 0xffffffffffffffff, 0x0, 0x0, 0x0⟩,
  /- TEST.BP -/ ⟨0xc000020, 0x1000, 6, 0xffff0000ffffffff, 0x0, 0x0, 0x0⟩,
  /- TEST.CLOCK -/ ⟨0xc000028, 0x1000, 6, 0xfff000fffffffff, 0x0, 0x0, 0x0⟩,
  /- TEST.JITTER -/ ⟨0xc000030, 0x1000, 6, 0xfff00000000000f, 0x0, 0x0, 0x0⟩]

def hurstRows : List RegRow := hurstRows0 ++ hurstRows1 ++ hurstRows2 ++ hurstRows3 ++ hurstRows4

/-- Registers of FAB of a partition from offset 0x1000 (R310). -/
def fabRows0 : List RegRow := [
  /- FAB.PLANn -/ ⟨0x1000, 0x10, 96, 0xc0ff00000001ffff, 0x0, 0x0, 0x0⟩,
  /- FAB.LSTATn -/ ⟨0x1008, 0x10, 96, 0x0, 0x0, 0x0, 0x0⟩,
  /- FAB.PEERm -/ ⟨0x2000, 0x8, 16, 0x0, 0x0, 0x0, 0x0⟩,
  /- FAB.L2ROUTEd -/ ⟨0x4000, 0x8, 1024, 0xfffffffffe0fffff, 0x0, 0x0, 0x0⟩]

def fabRows : List RegRow := fabRows0

/-- Registers of FAN.ALLOC of a partition (R365). -/
def fanRows0 : List RegRow := [
  /- FAN.ALLOCr -/ ⟨0x40, 0x8, 12, 0x0, 0x0, 0x0, 0x0⟩]

def fanRows : List RegRow := fanRows0

/-- Registers of RAS, TOLL, POND and DUMP of a partition (R389), part 1. -/
def rasRows0 : List RegRow := [
  /- RAS.PSTATE -/ ⟨0x0, 0x8, 1, 0x0, 0x0, 0x0, 0x1⟩,
  /- RAS.CTRL -/ ⟨0x8, 0x8, 1, 0x0, 0x0, 0x0, 0x0⟩,
  /- RAS.RETIREn -/ ⟨0x100, 0x8, 24, 0x0, 0x0, 0x0, 0x0⟩,
  /- TOLL.CFG -/ ⟨0x1000, 0x8, 1, 0xfff0fe3f0000ffff, 0x0, 0x0, 0x6440000000000000⟩,
  /- TOLL.INBOX -/ ⟨0x1008, 0x8, 1, 0x1fffffffffff000, 0x0, 0x0, 0x0⟩,
  /- TOLL.CTR -/ ⟨0x1010, 0x8, 1, 0x80000000003ffff8, 0x0, 0x0, 0x0⟩,
  /- TOLL.TRIG -/ ⟨0x1018, 0x8, 1, 0x80000000003ffff8, 0x0, 0x0, 0x0⟩,
  /- TOLL.TRIG_EXPECT -/ ⟨0x1020, 0x8, 1, 0xffffffffffffffff, 0x0, 0x0, 0x0⟩,
  /- TOLL.TRIG_STRIDE -/ ⟨0x1028, 0x8, 1, 0xffffffffffffffff, 0x0, 0x0, 0x0⟩,
  /- TOLL.STEP -/ ⟨0x1030, 0x8, 1, 0xffffffffffffffff, 0x0, 0x0, 0x0⟩,
  /- TOLL.STEP_STRIDE -/ ⟨0x1038, 0x8, 1, 0xffffffffffffffff, 0x0, 0x0, 0x0⟩,
  /- TOLL.EXPECT -/ ⟨0x1040, 0x8, 1, 0xffffffffffffffff, 0x0, 0x0, 0x0⟩,
  /- TOLL.CTRL -/ ⟨0x1048, 0x8, 1, 0x0, 0x0, 0x0, 0x0⟩,
  /- TOLL.STATUS -/ ⟨0x1050, 0x8, 1, 0x0, 0x600, 0x0, 0x0⟩,
  /- TOLL.ODD -/ ⟨0x1058, 0x8, 1, 0x0, 0x0, 0x0, 0x0⟩,
  /- TOLL.MISSING -/ ⟨0x1060, 0x8, 1, 0x0, 0x0, 0x0, 0x0⟩,
  /- TOLL.DIGESTw -/ ⟨0x1080, 0x8, 6, 0x0, 0x0, 0x0, 0x0⟩,
  /- TOLL.RANGEn_BASE -/ ⟨0x1100, 0x10, 8, 0x1fffffffffff000, 0x0, 0x0, 0x0⟩,
  /- TOLL.RANGEn_LEN -/ ⟨0x1108, 0x10, 8, 0xffffffffffffffff, 0x0, 0x0, 0x0⟩,
  /- TOLL.REPm -/ ⟨0x1200, 0x8, 64, 0x800000000001ffff, 0x0, 0x0, 0x0⟩,
  /- POND.CFG -/ ⟨0x2000, 0x8, 1, 0x800000000f01ffff, 0x0, 0x0, 0x0⟩,
  /- POND.HOLD -/ ⟨0x2008, 0x8, 1, 0x800000000001ffff, 0x0, 0x0, 0x0⟩,
  /- POND.RELAY_LIST -/ ⟨0x2010, 0x8, 1, 0xfffffffffff, 0x0, 0x0, 0x0⟩,
  /- POND.TRIG -/ ⟨0x2018, 0x8, 1, 0x80000000003ffff8, 0x0, 0x0, 0x0⟩,
  /- POND.TRIG_EXPECT -/ ⟨0x2020, 0x8, 1, 0xffffffffffffffff, 0x0, 0x0, 0x0⟩]

/-- Registers of RAS, TOLL, POND and DUMP of a partition (R389), part 2. -/
def rasRows1 : List RegRow := [
  /- POND.TRIG_STRIDE -/ ⟨0x2028, 0x8, 1, 0xffffffffffffffff, 0x0, 0x0, 0x0⟩,
  /- POND.STEP -/ ⟨0x2030, 0x8, 1, 0xffffffffffffffff, 0x0, 0x0, 0x0⟩,
  /- POND.STEP_STRIDE -/ ⟨0x2038, 0x8, 1, 0xffffffffffffffff, 0x0, 0x0, 0x0⟩,
  /- POND.DONE_CTR -/ ⟨0x2040, 0x8, 1, 0x80000000003ffff8, 0x0, 0x0, 0x0⟩,
  /- POND.CTRL -/ ⟨0x2048, 0x8, 1, 0x0, 0x0, 0x0, 0x0⟩,
  /- POND.STATUS -/ ⟨0x2050, 0x8, 1, 0x0, 0x2000000, 0x0, 0x0⟩,
  /- POND.RET_STEP -/ ⟨0x2058, 0x8, 1, 0xffffffffffffffff, 0x0, 0x0, 0x0⟩,
  /- POND.RET_TO -/ ⟨0x2060, 0x8, 1, 0x800000000001ffff, 0x0, 0x0, 0x0⟩,
  /- POND.ACCEPT_FROM -/ ⟨0x2068, 0x8, 1, 0x800000000001ffff, 0x0, 0x0, 0x0⟩,
  /- POND.FAR -/ ⟨0x2070, 0x8, 1, 0xf1fffffffffff000, 0x0, 0x0, 0x0⟩,
  /- POND.SLOTS -/ ⟨0x2078, 0x8, 1, 0x0, 0x0, 0x0, 0x0⟩,
  /- POND.HELD_STEP -/ ⟨0x2080, 0x8, 1, 0x0, 0x0, 0x0, 0x0⟩,
  /- POND.RANGEn_BASE -/ ⟨0x2100, 0x10, 8, 0x1fffffffffff000, 0x0, 0x0, 0x0⟩,
  /- POND.RANGEn_LEN -/ ⟨0x2108, 0x10, 8, 0xffffffffffffffff, 0x0, 0x0, 0x0⟩,
  /- DUMP.CFG -/ ⟨0x3000, 0x8, 1, 0x7, 0x0, 0x0, 0x2⟩,
  /- DUMP.FAR_BASE -/ ⟨0x3008, 0x8, 1, 0x1fffffffffff000, 0x0, 0x0, 0x0⟩,
  /- DUMP.STATUS -/ ⟨0x3010, 0x8, 1, 0x0, 0x0, 0x0, 0x0⟩]

def rasRows : List RegRow := rasRows0 ++ rasRows1

/-- The row that lists offset `o` of its window. -/
def findRow : List RegRow → Nat → Option RegRow
  | [], _ => none
  | r :: rest, o =>
    if r.off ≤ o && (o - r.off) % r.stride == 0 && decide ((o - r.off) / r.stride < r.count) then some r
    else findRow rest o

/-- The row of a register by its space 5 offset, bank stripped (R31, R215, R293, R310, R365, R389). -/
def regRow (off : Nat) : Option RegRow :=
  let o := off % 2 ^ 40
  if o < 0x1000_0000 then
    if 0x0600_0000 ≤ o && o < 0x0660_0000 && 0x1000 ≤ (o - 0x0600_0000) % 0x10_0000 then
      findRow fabRows ((o - 0x0600_0000) % 0x10_0000)
    else if 0x0801_0000 ≤ o && o < 0x0801_6000 && 0x40 ≤ (o - 0x0801_0000) % 0x1000 then
      findRow fanRows ((o - 0x0801_0000) % 0x1000)
    else if 0x0900_0000 ≤ o && o < 0x0906_0000 then findRow rasRows ((o - 0x0900_0000) % 0x1_0000)
    else findRow hurstRows o
  else if o < 0x2000_0000 then
    if (o - 0x1000_0000) / 0x0100_0000 < 6 then findRow bedRows ((o - 0x1000_0000) % 0x0100_0000) else none
  else if 12 ≤ (o - 0x2000_0000) / 0x0100_0000 then none
  else
    let rel := (o - 0x2000_0000) % 0x0100_0000
    if rel < 0x80_0000 then findRow regionRows rel
    else if 12 ≤ (rel - 0x80_0000) / 0x4_0000 then none
    else if (rel - 0x80_0000) % 0x4_0000 < 0x2_0000 then findRow blockRows ((rel - 0x80_0000) % 0x4_0000)
    else findRow cellRows ((rel - 0x80_0000) % 0x8000)

/-- The reset value of a register with storage of its own (R8); 0 where no table lists the offset. -/
def regReset (off : Nat) : Word64 :=
  match regRow off with
  | some r => BitVec.ofNat 64 r.reset
  | none => 0

/-- The stored value of a register. -/
def State.rd (s : State) (off : Nat) : Word64 := s.regs.get (regReset off) off

/-- Store a whole register. -/
def State.wr (s : State) (off : Nat) (v : Word64) : State := { s with regs := s.regs.put (regReset off) off v }

/-- A field of a register, as a number. -/
def State.rf (s : State) (off hi lo : Nat) : Nat := fld (s.rd off) hi lo

/-- A bit of a register. -/
def State.rb (s : State) (off i : Nat) : Bool := bit (s.rd off) i

/-- Set a field of a register. -/
def State.wf (s : State) (off hi lo x : Nat) : State := s.wr off (setFld (s.rd off) hi lo x)

/-- Set a bit of a register. -/
def State.wb (s : State) (off i : Nat) (b : Bool) : State := s.wr off (setBit (s.rd off) i b)

/-- Add to a counting field of a register, modulo its width. -/
def State.bump (s : State) (off hi lo n : Nat) : State := s.wf off hi lo (s.rf off hi lo + n)

/-- Raise a high-water field to at least `n`. -/
def State.high (s : State) (off hi lo n : Nat) : State := if s.rf off hi lo < n then s.wf off hi lo n else s

/-- What a plain software write stores: RW bits take the written value, W1C bits written 1 clear, every other bit stays (R5, R7). -/
def plainWrite (r : RegRow) (old v : Word64) : Word64 :=
  let rw := BitVec.ofNat 64 r.rw
  let w1c := BitVec.ofNat 64 r.w1c
  ((old &&& ~~~ rw) ||| (v &&& rw)) &&& ~~~ (v &&& w1c)

/-- What is left in a register after a read clears its RC fields (R5). -/
def afterRead (r : RegRow) (old : Word64) : Word64 := old &&& ~~~ (BitVec.ofNat 64 r.rc)

end Sys2Proof.Machine
end

