-- ==== Sys2Proof/Machine/Cfg.lean ====
section
/-! DEFINITION. The configuration body (R418) and what follows from it: partitions, their regions and memory, reserved areas, counter shares. -/

namespace Sys2Proof.Machine

/-- The reference image's configuration body by byte offset (R418). The fields that R418 calls "set per module" or "per site" read 0, but for the spare
blocks, which read 12 (log 7). -/
def cfgRef (o : Nat) : Byte :=
  if o = 0x014 then 2
  else if o = 0x015 then 0xFF
  else if o = 0x016 then 0b101
  else if o = 0x017 then 8
  else if o = 0x018 then 50 else if o = 0x019 then 30 else if o = 0x01A then 20
  else if o = 0x01B then 40 else if o = 0x01C then 10
  else if o = 0x01D then 95 else if o = 0x01E then 92
  else if o = 0x020 then 0x70 else if o = 0x021 then 0x17          -- 6,000
  else if o = 0x022 then 0x29 else if o = 0x023 then 0x04          -- 1,065
  else if o = 0x024 then 16 else if o = 0x025 then 12 else if o = 0x026 then 2 else if o = 0x027 then 10 else if o = 0x028 then 1
  else if 0x030 ≤ o && o < 0x03C then 12
  else if o = 0x0B0 then 1 else if o = 0x0B1 then 1 else if o = 0x0B4 then 0xF
  else if o = 0x0B8 then 1 else if o = 0x0B9 then 2 else if o = 0x0BC then 7
  else if o = 0x0C0 then 1 else if o = 0x0C1 then 1 else if o = 0x0C4 then 3
  else if o = 0x0C9 then 0x10 else if o = 0x0CC then 64 else if o = 0x0CE then 16 else if o = 0x0CF then 16   -- 4,096; 64; 16; 16
  else if o = 0x200 then 0b01001
  else if o = 0x201 then 100 else if o = 0x202 then 16
  else if o = 0x204 then 0 else if o = 0x205 then 2                -- 512
  else if o = 0x207 then 128
  else if o = 0x218 then 0xD1 else if o = 0x219 then 0x12          -- 4817
  else if o = 0x21B then 0x60                                      -- PCP 3
  else if o = 0x21C then 0x08
  else 0

/-- A byte of the configuration in use. -/
def State.cfgB (s : State) (o : Nat) : Nat := (s.cfg.get (cfgRef o) o).toNat

/-- `n` bytes of the configuration in use, little-endian (R2). -/
def State.cfgN (s : State) (o : Nat) : Nat → Nat
  | 0 => 0
  | n + 1 => s.cfgB o + 256 * State.cfgN s (o + 1) n

/-- Offset of partition record p (R418). -/
def cfgPart (p : Nat) : Nat := 0x200 + 0x100 * p

/-- The partition that holds a bedstone (R390, R418 LAYOUT). -/
def State.bedPart (s : State) (b : Nat) : Nat := nbits (s.cfgN 0x010 4) (3 * b + 2) (3 * b)

def State.regionPart (s : State) (r : Nat) : Nat := s.bedPart (r / 2)
def State.cellPart (s : State) (c : Nat) : Nat := s.regionPart (c / 48)
def State.blockPart (s : State) (b : Nat) : Nat := s.regionPart (b / 12)
def State.stackPart (s : State) (k : Nat) : Nat := s.bedPart (k / 4)
def State.linkPart (s : State) (f : Nat) : Nat := s.bedPart (f / 16)

/-- Whether the image forms partition p (VALID, R419). -/
def State.partValid (s : State) (p : Nat) : Bool := s.cfgB (cfgPart p) % 2 == 1 && decide (p < 6)
def State.partSecure (s : State) (p : Nat) : Bool := nbits (s.cfgB (cfgPart p)) 1 1 == 1
def State.partConfidential (s : State) (p : Nat) : Bool := nbits (s.cfgB (cfgPart p)) 2 2 == 1
def State.partInteg (s : State) (p : Nat) : Bool := nbits (s.cfgB (cfgPart p)) 3 3 == 1
def State.partCorrelatedPolicy (s : State) (p : Nat) : Bool := nbits (s.cfgB (cfgPart p)) 4 4 == 1

/-- The bedstones of a partition, ascending. -/
def State.partBeds (s : State) (p : Nat) : List Nat := (upTo 6).filter (fun b => s.bedPart b == p)
def State.partRegions (s : State) (p : Nat) : List Nat := (upTo 12).filter (fun r => s.regionPart r == p)
/-- The stacks of a partition, ascending in S number (R221). -/
def State.partStacks (s : State) (p : Nat) : List Nat := (upTo 24).filter (fun k => s.stackPart k == p)
def State.partLinks (s : State) (p : Nat) : List Nat := (upTo 96).filter (fun f => s.linkPart f == p)
def State.partCells (s : State) (p : Nat) : List Nat := (upTo 576).filter (fun c => s.cellPart c == p)
def State.partBlocks (s : State) (p : Nat) : List Nat := (upTo 144).filter (fun b => s.blockPart b == p)
/-- The partitions that the image forms. -/
def State.validParts (s : State) : List Nat := (upTo 6).filter s.partValid

/-- Bytes of space 0 of a partition: 256 GiB per bedstone (R27). -/
def State.partSize (s : State) (p : Nat) : Nat := (s.partBeds p).length * 2 ^ 38

/-- Size of the pond area (R37). -/
def State.pondSize (s : State) (p : Nat) : Nat := s.cfgN (cfgPart p + 4) 2 * 2 ^ 30
/-- First byte of the dump area, 4 GiB at the top (R37). -/
def State.dumpBase (s : State) (p : Nat) : Nat := s.partSize p - 2 ^ 32
def State.pondBase (s : State) (p : Nat) : Nat := s.dumpBase p - s.pondSize p
/-- Size of the integrity carve-out, 1/32 of the memory when the tag is enabled (R37). -/
def State.carveSize (s : State) (p : Nat) : Nat := if s.partInteg p then s.partSize p / 32 else 0
/-- User memory runs from 0 to just below the lowest reserved area (R37). -/
def State.userTop (s : State) (p : Nat) : Nat := s.pondBase p - s.carveSize p

/-- Package counters of a partition's share (R189, R418). -/
def State.pscShare (s : State) (p : Nat) : Nat := if s.partValid p then s.cfgB (cfgPart p + 2) * 256 else 0
/-- Hurst number of PSC.0 of a partition: shares lie in partition order from 0 (R418). -/
def State.pscBase (s : State) (p : Nat) : Nat := ((upTo p).map s.pscShare).sum

/-- Far-tier range of a partition in bytes: start and size (R248). -/
def State.farStart (s : State) (p : Nat) : Nat := s.cfgB (cfgPart p + 6) * 2 ^ 36
def State.farSize (s : State) (p : Nat) : Nat := s.cfgB (cfgPart p + 7) * 2 ^ 36

/-- The partition that holds the guest site, if any (R269, R418; R419 on -1536M). -/
def State.guestPart (s : State) : Option Nat :=
  if s.module.guestSite && decide (s.cfgB 0x015 < 6) then some (s.cfgB 0x015) else none

/-- Whether the image marks a flume link unused (R298). -/
def State.flumeUnused (s : State) (f : Nat) : Bool := nbits (s.cfgN 0x040 12) f f == 1

def State.imageCap (s : State) : Nat := s.cfgN 0x020 2
/-- Ceff: the lower of the image cap and the board limit, 0 meaning no limit (R340). -/
def State.ceff (s : State) : Nat :=
  if s.power.boardLimit = 0 then s.imageCap else min s.imageCap s.power.boardLimit
/-- Cp = floor((Ceff − 200) × share / 100) (R341). -/
def State.cp (s : State) (p : Nat) : Nat := (s.ceff - 200) * s.cfgB (cfgPart p + 1) / 100

end Sys2Proof.Machine
end

