-- ==== Sys2Proof/Machine/Ops.lean ====
section
/-! DEFINITION. Named operations over the state: one accessor per table, events, alert bits, free values. -/

namespace Sys2Proof.Machine

/-- What a meaning answers. -/
abbrev Out := Host.Outcome State Fault Refusal

/-- A module without power, or held in its reset or input fault state, does nothing (R337, R421, R424): only the always-on domain then acts. -/
def powered (s : State) (o : Out) : Out := if s.module.held || !s.module.powered then .next s else o

/-! ### Tables -/

def State.cell (s : State) (c : Nat) : Cell := s.cells.get {} c
def State.setCell (s : State) (c : Nat) (x : Cell) : State := { s with cells := s.cells.put {} c x }
def State.ctr (s : State) (k : Nat) : Counter := s.counters.get {} k
def State.setCtr (s : State) (k : Nat) (x : Counter) : State := { s with counters := s.counters.put {} k x }
def State.line (s : State) (p n : Nat) : ShutLine := s.lines.get {} (32 * p + n)
def State.setLine (s : State) (p n : Nat) (x : ShutLine) : State := { s with lines := s.lines.put {} (32 * p + n) x }
def State.chan (s : State) (b ch : Nat) : Channel := s.chans.get {} (16 * b + ch)
def State.setChan (s : State) (b ch : Nat) (x : Channel) : State := { s with chans := s.chans.put {} (16 * b + ch) x }
def State.sluice (s : State) (b : Nat) : Sluice := s.sluices.get {} b
def State.setSluice (s : State) (b : Nat) (x : Sluice) : State := { s with sluices := s.sluices.put {} b x }
def State.link (s : State) (f : Nat) : Link := s.links.get {} f
def State.setLink (s : State) (f : Nat) (x : Link) : State := { s with links := s.links.put {} f x }
def State.leat (s : State) (p : Nat) : Leat := s.leats.get {} p
def State.setLeat (s : State) (p : Nat) (x : Leat) : State := { s with leats := s.leats.put {} p x }
def State.fabric (s : State) (p : Nat) : Fabric := s.fabrics.get {} p
def State.setFabric (s : State) (p : Nat) (x : Fabric) : State := { s with fabrics := s.fabrics.put {} p x }
def State.endpoint (s : State) (p : Nat) : Endpoint := s.endpoints.get {} p
def State.setEndpoint (s : State) (p : Nat) (x : Endpoint) : State := { s with endpoints := s.endpoints.put {} p x }
def State.region (s : State) (r : Nat) : RegionPower := s.regions.get {} r
def State.setRegion (s : State) (r : Nat) (x : RegionPower) : State := { s with regions := s.regions.put {} r x }
def State.part (s : State) (p : Nat) : Part := s.parts.get {} p
def State.setPart (s : State) (p : Nat) (x : Part) : State := { s with parts := s.parts.put {} p x }
def State.fanEntry (s : State) (r t : Nat) : FanEntry := s.fan.get {} (64 * r + t)
def State.setFanEntry (s : State) (r t : Nat) (x : FanEntry) : State := { s with fan := s.fan.put {} (64 * r + t) x }
def State.log (s : State) (p : Nat) : List LogRec := s.logs.get [] p
def State.setLog (s : State) (p : Nat) (x : List LogRec) : State := { s with logs := s.logs.put [] p x }

/-! ### Free values (log 2) -/

/-- Draw a free value. -/
def State.fresh (s : State) : Word64 × State := (Config.freeValue s.freeCtr, { s with freeCtr := s.freeCtr + 1 })

/-- Draw a 256-bit key from the generator (R395). -/
def State.freshKey (s : State) : BitVec 256 × State :=
  let (a, s1) := s.fresh
  let (b, s2) := s1.fresh
  let (c, s3) := s2.fresh
  let (d, s4) := s3.fresh
  (a.setWidth 256 ||| (b.setWidth 256 <<< 64) ||| (c.setWidth 256 <<< 128) ||| (d.setWidth 256 <<< 192), s4)

/-- The memory keys of a partition are drawn (R242, R398). -/
def State.drawKeys (s : State) (p : Nat) : State :=
  let (k1, s1) := s.freshKey
  let (k2, s2) := s1.freshKey
  let (kt, s3) := s2.freshKey
  s3.setPart p { s3.part p with keys := true, k1 := k1, k2 := k2, kt := kt }

/-! ### Registers of a cell -/

def rSTATUS : Nat := 0x08
def rJOB : Nat := 0x10
def rPC : Nat := 0x80
def rOPSEQ : Nat := 0xB0

/-- CELL.JOB of a cell (R74). -/
def State.job (s : State) (c : Nat) : Nat := s.rf (cellBase c + rJOB) 15 0
/-- CELL.PC (R45). -/
def State.pc (s : State) (c : Nat) : Nat := s.rf (cellBase c + rPC) 11 0
def State.setPc (s : State) (c n : Nat) : State := s.wf (cellBase c + rPC) 11 0 (n % 4096)
/-- CELL.OPSEQ (R59). -/
def State.opseq (s : State) (c : Nat) : Word64 := s.rd (cellBase c + rOPSEQ)
/-- Scalar register n of a cell: s0 reads zero (R49). -/
def State.sreg (s : State) (c n : Nat) : Word64 := if n = 0 then 0 else s.rd (cellBase c + 0x100 + 8 * n)
/-- Write scalar register n: a write to s0 is discarded (R49). -/
def State.setSreg (s : State) (c n : Nat) (v : Word64) : State := if n = 0 then s else s.wr (cellBase c + 0x100 + 8 * n) v
/-- Set CELL.STATUS.CMD_REJECT (R76). -/
def State.cmdReject (s : State) (c : Nat) : State := s.wb (cellBase c + rSTATUS) 17 true

/-- A counting register that the kill form of cell `c` has frozen does not move (R78, R374). -/
def State.bumpCell (s : State) (c off n : Nat) : State :=
  if (s.cell c).frozenCtrs then s else s.bump (cellBase c + off) 63 0 n

/-! ### Events (R368–R370) -/

/-- The UNIT field of a record (R369). -/
def Event.unit (e : Event) : Nat := e.kind * 4096 + e.index

/-- Which alert bit an event sets (R429). -/
def alertBit (code : Nat) : Option Nat :=
  if code = evStartFailed then some 0 else if code = evPartitionFailed then some 1 else if code = evInputFault then some 3
  else if code = evThermalThrottle then some 5 else if code = evRefLost then some 6 else if code = evCapExceeded then some 7
  else if code = evFatalDumpDone then some 8 else none

/-- Set an alert bit; MGMT_ALERT_N is asserted while any is set (R429). -/
def State.alertSet (s : State) (i : Nat) : State := { s with board := { s.board with alert := setBit s.board.alert i true } }

/-- Raise an event. -/
def State.raise (s : State) (e : Event) : State :=
  let s1 := { s with raised := s.raised ++ [e] }
  match alertBit e.code with
  | some i => s1.alertSet i
  | none => s1

/-- Whether record `a` enters the log before record `b` when both are raised in one cycle: ascending CODE, then ascending UNIT (R370). -/
def eventBefore (a b : Event) : Bool := decide (a.code < b.code) || (a.code == b.code && decide (a.unit ≤ b.unit))

/-- Put an event into a list in the order of R370. -/
def insertEvent (e : Event) : List Event → List Event
  | [] => [e]
  | x :: xs => if eventBefore x e then x :: insertEvent e xs else e :: x :: xs

/-- Events in the order of R370. -/
def sortEvents : List Event → List Event
  | [] => []
  | e :: es => insertEvent e (sortEvents es)

/-- The records that one command raised, in the order of R370, behind those raised before; where the command took the module's power, none is left to be written. -/
def settle (s0 s1 : State) : State :=
  { s1 with raised := if s1.module.held && !s0.module.held then s1.raised else s0.raised ++ sortEvents ((s1.raised.drop s0.raised.length).reverse) }

/-- The next state of a command that may raise several events. -/
def done (s0 s1 : State) : Out := .next (settle s0 s1)

/-- The partition part of an event of a cell. -/
def State.cellEvent (s : State) (c code job a0 a1 a2 : Nat) : Event :=
  { code := code, part := s.cellPart c, job := job, kind := 4, index := c, arg0 := a0, arg1 := a1, arg2 := a2 }

/-- Apply a state change for every element of a list, in order. -/
def forEach {α : Type} (l : List α) (s : State) (f : State → α → State) : State := l.foldl f s

end Sys2Proof.Machine
end

