-- ==== Sys2Proof/Machine/Operands.lean ====
section
/-! DEFINITION. Command words (R53 to R58, R71, R115, R148, R159, R201): the fields of every layout, the dispatch checks of R54, R117, R149, R160 and R204, and the scalar
registers a word reads and writes (R50). -/

namespace Sys2Proof.Machine

/-! ### Header (R53) -/

/-- Class and opcode as one number: class · 0x100 + opcode. -/
def wcode (w : Word128) : Nat := fld w 127 116
def wclass (w : Word128) : Nat := fld w 127 124
def wACQ (w : Word128) : Bool := bit w 115
def wREL (w : Word128) : Bool := bit w 114
def wTRAP (w : Word128) : Bool := bit w 113

def cNOP : Nat := 0x000
def cEND : Nat := 0x001
def cST : Nat := 0x031
def cLD : Nat := 0x030
def cHFETCH : Nat := 0x050
def cHWAIT : Nat := 0x051
def cRDCNT : Nat := 0x058
def cTDLD : Nat := 0x100
def cAFILL : Nat := 0x101
def cASCALE : Nat := 0x102
def cMMA : Nat := 0x108
def cDRAIN : Nat := 0x110
def cMRED : Nat := 0x118
def cVPLD : Nat := 0x200
def cVPROG : Nat := 0x208
def cVCOMP : Nat := 0x210
def cVEXPD : Nat := 0x211
def cVMLD : Nat := 0x218
def cVMST : Nat := 0x219
def cVMOP : Nat := 0x21A
def cVMRANGE : Nat := 0x21B
def cVRED : Nat := 0x220
def cSDESC : Nat := 0x300
def cSARM : Nat := 0x301
def cSSTOP : Nat := 0x302
def cSIG : Nat := 0x400
def cSIGR : Nat := 0x401
def cWAIT : Nat := 0x408
def cSHUT : Nat := 0x410
def cFENCE : Nat := 0x500
def cPHASE : Nat := 0x501
def cTRAP : Nat := 0x502

/-! ### Layouts of class 0x0 (R55, R57) -/

def layA : List (Nat × Nat) := [(111, 107), (106, 102), (101, 97)]
def layI : List (Nat × Nat) := [(111, 107), (106, 102), (101, 38)]
def layM : List (Nat × Nat) := [(111, 107), (106, 102), (101, 38), (37, 35)]
def layB : List (Nat × Nat) := [(111, 107), (106, 102), (101, 90)]
def layF : List (Nat × Nat) := [(111, 107), (101, 90), (89, 78)]

/-- The fields an opcode names, below bit 112; none for an opcode that is not defined (R57, R71, R115, R148, R159, R201). -/
def layoutOf (code : Nat) : Option (List (Nat × Nat)) :=
  if code = cNOP then some []
  else if code = cEND then some [(111, 109)]
  else if code ∈ [0x008, 0x009, 0x00A, 0x00C, 0x00D, 0x00E, 0x010, 0x011, 0x012, 0x014, 0x015, 0x016] then some layA
  else if code ∈ [0x020, 0x024, 0x025, 0x026, 0x028, 0x029, 0x02A, 0x02C, 0x02D, 0x02E] then some layI
  else if code = 0x02F then some [(111, 107), (101, 38)]
  else if code = cLD || code = cST then some layM
  else if code ∈ [0x040, 0x041, 0x042, 0x043, 0x044, 0x045] then some layB
  else if code = 0x046 || code = 0x047 then some [(101, 90)]
  else if code = 0x048 then some []
  else if code = 0x049 then some [(111, 107)]
  else if code = 0x04A then some [(111, 107), (101, 90)]
  else if code = cHFETCH then some layF
  else if code = cHWAIT then some []
  else if code = cRDCNT then some [(111, 107), (106, 103)]
  else if code = cTDLD then some [(111, 108), (107, 86)]
  else if code = cAFILL then some [(111, 110), (109, 105)]
  else if code = cASCALE then some [(111, 110), (109, 88)]
  else if code = cMMA then some [(111, 64)]
  else if code = cDRAIN then some [(111, 85)]
  else if code = cMRED then some [(111, 90)]
  else if code = cVPLD || code = cVMLD || code = cVMST then some [(111, 104)]
  else if code = cVPROG then some [(111, 16)]
  else if code = cVCOMP then some [(111, 82), (80, 76)]
  else if code = cVEXPD then some [(111, 76)]
  else if code = cVMOP then some [(111, 100)]
  else if code = cVMRANGE then some [(111, 99)]
  else if code = cVRED then some [(111, 64)]
  else if code = cSDESC then some [(111, 110), (109, 88), (87, 83), (82, 78)]
  else if code = cSARM then some [(111, 110), (87, 83), (82, 78)]
  else if code = cSSTOP then some [(111, 110)]
  else if code = cSIG then some [(111, 93), (92, 88), (87, 83), (62, 31)]
  else if code = cSIGR then some [(111, 93), (92, 88), (87, 83), (82, 78), (62, 31)]
  else if code = cWAIT then some [(111, 93), (92, 88), (87, 83), (82, 63), (62, 31)]
  else if code = cSHUT then some [(111, 107), (106, 102), (101, 82)]
  else if code = cFENCE then some [(111, 109), (108, 104), (103, 99)]
  else if code = cPHASE then some [(111, 106), (105, 105)]
  else if code = cTRAP then some [(111, 96), (95, 94), (93, 89)]
  else none

/-- Bits [111:0] of a word with the named fields cleared. -/
def clearFields (w : Word128) (fs : List (Nat × Nat)) : Nat :=
  fs.foldl (fun n f => n - nbits n f.1 f.2 * 2 ^ f.2) (fld w 111 0)

/-! ### Operand pairs of the array (R90) -/

/-- W of a permitted operand pair and whether its accumulator is INT32; none for any other pair. -/
def pairW (fa fb : Nat) (ma mb : Bool) : Option (Nat × Bool) :=
  let f8 (f : Nat) (m : Bool) := f == 3 || f == 4 || (f == 8 && m)
  let f6 (f : Nat) := f == 5 || f == 6 || f == 7
  let f16 (f : Nat) := f == 1 || f == 2
  if fa == 0 && fb == 0 && !ma && !mb then some (4, false)
  else if f16 fa && f16 fb && !ma && !mb then some (16, false)
  else if f8 fa ma && f8 fb mb then some (32, false)
  else if fa == 8 && fb == 8 && !ma && !mb then some (32, true)
  else if f6 fa && f6 fb then some (64, false)
  else if fa == 9 && fb == 9 && !ma && !mb then some (64, true)
  else none

/-! ### Dispatch checks -/

/-- Fields of a disabled stream of VPROG that are not zero (R149). -/
def vprogDisabledSet (w : Word128) : Bool :=
  (!bit w 82 && fld w 81 70 != 0) || (!bit w 69 && fld w 68 57 != 0) || (!bit w 56 && fld w 55 44 != 0) || (!bit w 43 && fld w 42 33 != 0)

/-- A format and sign that R149 refuses. -/
def badVecFmt (f : Nat) (sign : Bool) : Bool := decide (12 ≤ f) || (sign && f != 8 && f != 9)

/-- Whether a code is an integer format (R86). -/
def isIntFmt (f : Nat) : Bool := f == 8 || f == 9 || f == 10

/-- A field whose value lies outside its range (R54 item 4, R49, R56, R58, R64, R65, R73, R117, R149, R160). -/
def badOperand (w : Word128) : Bool :=
  let code := wcode w
  if code = cEND then decide (4 < fld w 111 109)
  else if code ∈ [0x028, 0x029, 0x02A] then decide (63 < fld w 101 38)
  else if code = cLD then fld w 37 35 == 7
  else if code = cST then decide (3 < fld w 37 35)
  else if code = cRDCNT then decide (5 < fld w 106 103)
  else if code = cFENCE then decide (4 < fld w 111 109) || fld w 108 104 == 0 || fld w 103 99 == 0
  else if code = cTRAP then decide (1 < fld w 95 94)
  else if code = cMMA then
    let fa := fld w 100 97
    let fb := fld w 96 93
    (pairW fa fb (bit w 90) (bit w 89)).isNone
      || (bit w 92 && fa != 8 && fa != 9) || (bit w 91 && fb != 8 && fb != 9)
      || (fa == 8 && bit w 90 && !bit w 92) || (fb == 8 && bit w 89 && !bit w 91)
  else if code = cDRAIN then
    let fo := fld w 101 98
    let isint := bit w 85
    let param := bit w 86
    let stats := fld w 91 90
    let mx := bit w 96
    let expout := bit w 88
    decide (11 ≤ fo) || (fo == 10 && !isint) || decide (5 ≤ fld w 95 93) || stats == 3 || (stats != 0 && !param)
      || (expout && stats != 2) || (mx && !(fo == 3 || fo == 4 || fo == 5 || fo == 6 || fo == 7 || (fo == 8 && bit w 97)))
      || (isint && fo == 10 && (param || stats != 0 || mx || expout))
  else if code = cMRED then fld w 109 108 == 3 || (bit w 90 && fld w 109 108 == 2)
  else if code = cVPROG then
    (bit w 82 && badVecFmt (fld w 76 73) (bit w 72)) || (bit w 69 && badVecFmt (fld w 63 60) (bit w 59))
      || (bit w 56 && badVecFmt (fld w 50 47) (bit w 46)) || (bit w 43 && badVecFmt (fld w 37 34) (bit w 33))
      || decide (3 < fld w 32 30) || fld w 23 21 == 7
  else if code = cVCOMP || code = cVEXPD then decide (12 ≤ fld w 88 85)
  else if code = cVMOP then decide (5 < fld w 102 100) || (decide (3 < fld w 102 100) && fld w 105 103 != 0)
  else if code = cVRED then
    badVecFmt (fld w 80 77) (bit w 76) || decide (4 < fld w 70 68) || (decide (2 < fld w 70 68) && isIntFmt (fld w 80 77))
  else if code = cSDESC then fld w 109 88 % 64 != 0
  else false

/-- The checks at dispatch, in order (R54); none: the word is taken. -/
def dispatchCheck (w : Word128) : Option HaltReason :=
  if 6 ≤ wclass w then some .illegalClass
  else match layoutOf (wcode w) with
  | none => some .illegalOpcode
  | some fs =>
    if bit w 112 || (wTRAP w && wclass w != 1 && wclass w != 2) || clearFields w fs != 0
        || (wcode w == cFENCE && (wACQ w || wREL w)) || (wcode w == cVPROG && vprogDisabledSet w) then some .reservedSet
    else if badOperand w then some .badOperand
    else none

/-- The unit of a word's class (R54): 0 for the core's classes and for an illegal class. -/
def wordUnit (w : Word128) : Nat := if wclass w ≤ 4 then wclass w else 0

/-! ### Scalar registers (R50) -/

/-- Scalar registers an engine command reads at dispatch, in the order its operands are kept. -/
def opRegs (w : Word128) : List Nat :=
  let code := wcode w
  if code = cAFILL then [fld w 109 105]
  else if code = cMMA then [fld w 68 64]
  else if code = cVPLD || code = cVMLD || code = cVMST then [fld w 108 104]
  else if code = cVPROG then [fld w 81 77, fld w 68 64, fld w 55 51, fld w 42 38]
  else if code = cVCOMP || code = cVEXPD then [fld w 98 94, fld w 93 89]
  else if code = cVMRANGE then [fld w 108 104, fld w 103 99]
  else if code = cVRED then [fld w 85 81, fld w 75 71]
  else if code = cSDESC || code = cSARM then [fld w 87 83, fld w 82 78]
  else if code = cSIG || code = cWAIT then [fld w 92 88]
  else if code = cSIGR then [fld w 92 88, fld w 82 78]
  else []

/-- The scalar register into which an engine command delivers a value at its completion (R143, R147, R205); 0 for none. -/
def delivReg (w : Word128) : Nat :=
  let code := wcode w
  if code = cVPROG then (if fld w 23 21 = 0 then 0 else fld w 20 16)
  else if code = cVCOMP || code = cVEXPD then fld w 80 76
  else if code = cSIG || code = cSIGR || code = cWAIT then fld w 87 83
  else if code = cSHUT then fld w 106 102
  else 0

/-- Scalar registers a word of classes 0x0 and 0x5 reads. -/
def coreReads (w : Word128) : List Nat :=
  let code := wcode w
  if layoutOf code = some layA then [fld w 106 102, fld w 101 97]
  else if layoutOf code = some layI then [fld w 106 102]
  else if code = cLD then [fld w 106 102]
  else if code = cST then [fld w 111 107, fld w 106 102]
  else if layoutOf code = some layB then [fld w 111 107, fld w 106 102]
  else if code = 0x048 then [31]
  else if code = 0x049 || code = 0x04A || code = cHFETCH then [fld w 111 107]
  else if code = cTRAP then [fld w 93 89]
  else []

/-- The scalar register a word of class 0x0 writes, at once or later; 0 for none. -/
def coreWrites (w : Word128) : Nat :=
  let code := wcode w
  if layoutOf code = some layA || layoutOf code = some layI || code = 0x02F || code = cLD || code = cRDCNT || code = 0x04A then fld w 111 107
  else if code = 0x047 then 31
  else 0

/-- Every register a word reads. -/
def wordReads (w : Word128) : List Nat := if wclass w = 0 || wclass w = 5 then coreReads w else opRegs w

/-- The register a word writes. -/
def wordWrites (w : Word128) : Nat := if wclass w = 0 || wclass w = 5 then coreWrites w else delivReg w

/-! ### Fields of class 0x0 words -/

def fRd (w : Word128) : Nat := fld w 111 107
def fRa (w : Word128) : Nat := fld w 106 102
def fRb (w : Word128) : Nat := fld w 101 97
def fImm (w : Word128) : Word64 := BitVec.ofNat 64 (fld w 101 38)
def fTarget (w : Word128) : Nat := fld w 101 90

/-- The result of an extended load: size 0–3 unsigned, 4–6 sign-extended (R56). -/
def extendLoad (size : Nat) (n : Nat) : Word64 :=
  match size with
  | 4 => BitVec.ofInt 64 (sext 8 n)
  | 5 => BitVec.ofInt 64 (sext 16 n)
  | 6 => BitVec.ofInt 64 (sext 32 n)
  | _ => BitVec.ofNat 64 n

/-- Bytes of an access by its size field (R56). -/
def sizeBytes (size : Nat) : Nat := match size with
  | 0 => 1 | 1 => 2 | 2 => 4 | 3 => 8 | 4 => 1 | 5 => 2 | 6 => 4 | _ => 8

end Sys2Proof.Machine
end

