-- ==== Sys2Proof/Machine/Memory.lean ====
section
/-! DEFINITION. Addresses and memory: the address map of R26 to R38, the interleave of R221, reads and writes with poison (R231 to R233), the 288/256 code (R226, R227),
the grist add (R236 to R239) and the far tier (R246 to R251). -/

namespace Sys2Proof.Machine

/-! ### Bytes of spaces 0, 2 and 3 -/

/-- The canonical form of memory: keys strictly rising, and no byte listed that an unlisted key reads as. -/
def Memory.wf (m : List Host.Cell) : Bool := Table.wf m (fun _ => 0)

/-- A byte and whether its 32-byte piece holds poison (R233). -/
abbrev PByte := Byte × Bool

/-- A key of State.mem: space 0 of a partition, space 2, space 3. -/
def memKey0 (p a : Nat) : Nat := p * 2 ^ 44 + a
def memKey2 (a : Nat) : Nat := 6 * 2 ^ 44 + a
def memKey3 (a : Nat) : Nat := 7 * 2 ^ 44 + a
/-- The key of a byte of a cell's window (R28). -/
def cellKey (c a : Nat) : Nat := memKey3 (c * 0x80_0000 + a)

/-- A byte of memory. -/
def State.memB (s : State) (k : Nat) : Byte := Table.get s.mem 0 k
/-- Whether the piece of a key holds poison. -/
def State.poisoned (s : State) (k : Nat) : Bool := s.poison.get false (k / 32)
/-- Write a byte of memory, keeping the canonical form. -/
def State.setMemB (s : State) (k : Nat) (b : Byte) : State := { s with mem := Table.put s.mem 0 k b }
/-- Set or clear the poison of a key's piece. -/
def State.setPoison (s : State) (k : Nat) (b : Bool) : State := { s with poison := s.poison.put false (k / 32) b }

/-- `n` bytes from a key on, with their poison. -/
def State.readPB (s : State) (k n : Nat) : List PByte := (upTo n).map (fun i => (s.memB (k + i), s.poisoned (k + i)))

/-- Bytes only. -/
def State.readB (s : State) (k n : Nat) : List Byte := (upTo n).map (fun i => s.memB (k + i))

/-- The first address of a read whose byte is poisoned. -/
def firstPoison (bs : List PByte) : Option Nat := findIdx (fun x => x.2) bs

/-! ### The interleave (R221) -/

/-- XOR-fold in 8-bit slices. -/
def foldQ : Nat → Nat → Nat
  | 0, _ => 0
  | n + 1, t => (t % 256) ^^^ foldQ n (t / 256)

/-- place (R221): stack index and local offset of a space 0 offset in a partition of `n` stacks. -/
def place (a n : Nat) : Nat × Nat :=
  let g := a / 4096
  let q := g / n
  ((g % n + foldQ 8 q) % n, q * 4096 + a % 4096)

/-- The space 0 offset that R221 places at a local offset of stack index `i`. -/
def unplace (i loc n : Nat) : Nat :=
  let q := loc / 4096
  let f := foldQ 8 q % n
  (n * q + (i + n - f) % n) * 4096 + loc % 4096

/-- The channel of a local granule (R221). -/
def channelOf (q : Nat) : Nat := (q % 32) ^^^ (q / 32 % 32) ^^^ (q / 1024 % 32) ^^^ (q / 32768 % 32) ^^^ (q / 2 ^ 20 % 16)

/-- The S number of the stack that holds a space 0 offset of a partition. -/
def State.stackOf (s : State) (p a : Nat) : Nat :=
  let ks := s.partStacks p
  ks.getD (place a ks.length).1 0

/-- The memory key of a local offset of a stack. -/
def State.stackKey (s : State) (k loc : Nat) : Nat :=
  let p := s.stackPart k
  let ks := s.partStacks p
  memKey0 p (unplace ((findIdx (fun x => x == k) ks).getD 0) loc ks.length)

/-- Count bytes read or written at the controller of a space 0 key (R252). -/
def State.countMem (s : State) (reg k n : Nat) : State :=
  if k < 6 * 2 ^ 44 then s.bump (memBase (s.stackOf (k / 2 ^ 44) (k % 2 ^ 44)) + reg) 63 0 n else s

def mRDBYTES : Nat := 0x80
def mWRBYTES : Nat := 0x88
def mPOISONKEEP : Nat := 0x70

/-! ### Writes by piece (R233, R34) -/

/-- Store bytes from a key on. -/
def State.storeRun (s : State) (k : Nat) : List Byte → State
  | [] => s
  | b :: bs => State.storeRun (s.setMemB k b) (k + 1) bs

/-- Write bytes lying in one piece: a write of the whole piece replaces its poison, a partial write to a poisoned piece is discarded and counted, any other
partial write stores its bytes and carries its poison (R233). -/
def State.writePiece (s : State) (k : Nat) (bs : List PByte) : State :=
  let pz := bs.any (fun x => x.2)
  if bs.length = 32 then (s.storeRun k (bs.map (fun x => x.1))).setPoison k pz
  else if s.poisoned k then s.countMem mPOISONKEEP k 1
  else
    let s1 := s.storeRun k (bs.map (fun x => x.1))
    if pz then s1.setPoison k true else s1

/-- Write a run of bytes piece by piece in ascending order; `fuel` bounds the pieces. -/
def State.writeRun (s : State) : Nat → Nat → List PByte → State
  | 0, _, _ => s
  | fuel + 1, k, bs =>
    match bs with
    | [] => s
    | _ =>
      let n := 32 - k % 32
      State.writeRun (s.writePiece k (bs.take n)) fuel (k + n) (bs.drop n)

/-- Write bytes with their poison from a key on. -/
def State.writePB (s : State) (k : Nat) (bs : List PByte) : State := s.writeRun (bs.length + 1) k bs

/-- Write clean bytes. -/
def State.writeB (s : State) (k : Nat) (bs : List Byte) : State := s.writePB k (bs.map (fun b => (b, false)))

/-- Count the bytes of a run at the controllers that hold them (granules lie wholly in one stack, R221). -/
def State.countRun (s : State) (reg : Nat) : Nat → Nat → Nat → State
  | 0, _, _ => s
  | fuel + 1, k, n =>
    if n = 0 then s
    else
      let m := min n (4096 - k % 4096)
      State.countRun (s.countMem reg k m) reg fuel (k + m) (n - m)

/-- The units first to last that a run of `n` bytes at `off` touches, `size` bytes each. -/
def touched (off n size : Nat) : List Nat :=
  (upTo ((off + n - 1) / size - off / size + 1)).map (fun i => off / size + i)

/-! ### Encryption and the integrity tag (R222, R241–R245) -/

/-- The local offset of a space 0 key in its stack (R221). -/
def State.localOf (s : State) (k : Nat) : Nat := (place (k % 2 ^ 44) (s.partStacks (k / 2 ^ 44)).length).2

/-- The tweak of a piece (R241): (local offset >> 5) + 2^40 × S. -/
def xtsTweak (st loc : Nat) : Nat := loc / 32 + 2 ^ 40 * st

/-- The ciphertext that the stack holds for the piece of a space 0 key (R241): State.mem holds its plaintext. -/
def State.pieceCipher (s : State) (st k : Nat) : List Nat :=
  let q := s.part (k / 2 ^ 44)
  xtsEnc q.k1 q.k2 (xtsTweak st (s.localOf k)) (byteNats (s.readB (k / 32 * 32) 32))

/-- The ciphertext that the expander holds for a far-tier piece (R249): the tweak is (far-tier byte >> 5) + 2^40 × 0xFF. -/
def farCipher (k1 k2 : BitVec 256) (b : Nat) (plain : List Byte) : List Nat := xtsEnc k1 k2 (xtsTweak 0xFF b) (byteNats plain)

/-- The tag formed over the present content of the unit of a key (R243). -/
def State.tagOf (s : State) (st k : Nat) : Word64 :=
  let u := k / 256 * 256
  let kt := keyNats (s.part (k / 2 ^ 44)).kt
  let g := ((upTo 8).map (fun i => s.pieceCipher st (u + 32 * i))).flatten
  let a := leNats 8 (s.localOf u / 256) ++ [st, ofBits ((upTo 8).map (fun i => s.poisoned (u + 32 * i)))] ++ List.replicate 6 0
  BitVec.ofNat 64 (ofBytes (natBytes ((aesEnc kt (beNats 16 (ghash (beVal (aesEnc kt (List.replicate 16 0))) (a ++ g)))).take 8)))

/-- Where the tag of unit `u` of local granule `q` lies in its stack (R222): C is the carve-out's first granule divided by n. -/
def State.tagPlace (s : State) (p q u : Nat) : Nat :=
  (s.userTop p / 4096 / (s.partStacks p).length + q / 32) * 4096 + q % 32 * 128 + u * 8

/-- The memory key of the tag of a unit's key. -/
def State.tagKey (s : State) (k : Nat) : Nat :=
  let l := s.localOf k
  s.stackKey (s.stackOf (k / 2 ^ 44) (k % 2 ^ 44)) (s.tagPlace (k / 2 ^ 44) (l / 4096) (l % 4096 / 256))

/-- Whether a space 0 key lies in its partition's carve-out (R37). -/
def State.inCarve (s : State) (k : Nat) : Bool :=
  decide (k < 6 * 2 ^ 44) && s.userTop (k / 2 ^ 44) ≤ k % 2 ^ 44 && decide (k % 2 ^ 44 < s.pondBase (k / 2 ^ 44))

/-- Whether the unit of a key carries a tag: the tag is enabled and the unit lies outside the carve-out (R222, R243). -/
def State.tagged (s : State) (k : Nat) : Bool :=
  s.partInteg (k / 2 ^ 44) && !s.inCarve k

/-- Record an error in MEM.ERR_LOG and MEM.ERR_ADDR: kind 0 CE, 1 UE, 2 integrity; a later CE keeps what is there, a later UE or integrity failure replaces a CE. -/
def State.memErr (s : State) (st kind sym addr : Nat) : State :=
  let lo := memBase st + 0x48
  if s.rb lo 63 && (kind == 0 || s.rf lo 62 61 != 0) then s
  else (s.wr lo (BitVec.ofNat 64 (2 ^ 63 + kind * 2 ^ 61 + sym * 2 ^ 55))).wr (memBase st + 0x50) (BitVec.ofNat 64 addr)

/-- An event of a stack. -/
def stackEvent (s : State) (code st a0 a1 : Nat) : Event :=
  { code := code, part := s.stackPart st, kind := 5, index := st, arg0 := a0, arg1 := a1 }

/-- The tag held for the unit of a key (R243): the one kept aside where the content has changed since it was formed, else the one formed over the content. -/
def State.heldTag (s : State) (st k : Nat) : Word64 := (s.stale.get none (k / 256)).getD (s.tagOf st k)

/-- A unit has a new tag, formed over its content (R243). -/
def State.newTag (s : State) (k : Nat) : State := { s with stale := s.stale.put none (k / 256) none }

/-- Whether the check of a tagged unit fails (R244): the tag held is not the one formed over the content, or the piece that holds it is poison. -/
def State.tagMiss (s : State) (k : Nat) : Bool :=
  s.tagged k && ((match s.stale.get none (k / 256) with
    | some t => t != s.tagOf (s.stackOf (k / 2 ^ 44) (k % 2 ^ 44)) k
    | none => false) || s.poisoned (s.tagKey k))

/-- The units that a run of bytes touches and whose check fails, by number (key / 256). -/
def State.missedUnits (s : State) (k n : Nat) : List Nat :=
  if n = 0 || 6 * 2 ^ 44 ≤ k || !s.partInteg (k / 2 ^ 44) || (s.stale.isEmpty && !s.poison.any (fun e => s.inCarve (e.1 * 32))) then []
  else (touched k n 256).filter (fun u => s.tagMiss (u * 256))

/-- The outcome of a failed tag check (R244): the unit is poison, MEM.INTEG_FAIL counts, INTEGRITY_FAIL is raised. -/
def State.tagFail (s : State) (st k : Nat) : State :=
  let u := k / 256 * 256
  let s1 := forEach (upTo 8) { s with stale := s.stale.put none (u / 256) none } (fun s i => s.setPoison (u + 32 * i) true)
  let s2 := (s1.bump (memBase st + 0x78) 63 0 1).memErr st 2 0 (u % 2 ^ 44)
  s2.raise (stackEvent s evIntegrityFail st 0 (u % 2 ^ 44))

/-! ### RAS units of a partition (R389) -/

def rasBase (p : Nat) : Nat := 0x0900_0000 + p * 0x1_0000
def tollBase (p : Nat) : Nat := rasBase p + 0x1000

/-- A write of `n` bytes at a space 0 key marks the toll rounds whose ranges it touches DIRTY (R380): STATE is not IDLE once a round has started. -/
def State.tollTouch (s : State) (k n : Nat) : State :=
  let p := k / 2 ^ 44
  let a := k % 2 ^ 44
  if p < 6 && s.rf (tollBase p + 0x50) 2 0 != 0 && (s.part p).toll.ranges.any (fun r => r.1 / 2 ^ 52 == 0 && decide (a < r.1 + r.2) && decide (r.1 < a + n))
    then s.wb (tollBase p + 0x50) 8 true else s

/-- Whether a byte lies in a lost region, whose interface is clamped (R24, R266). -/
def State.keyLost (s : State) (k : Nat) : Bool :=
  !s.lostRegions.isEmpty && s.lostRegions.contains (
    if k < 6 * 2 ^ 44 then stackRegion (s.stackOf (k / 2 ^ 44) (k % 2 ^ 44))
    else if k < 7 * 2 ^ 44 then (k - 6 * 2 ^ 44) / 0x1000_0000
    else cellRegion ((k - 7 * 2 ^ 44) / 0x80_0000))

/-- What a requester sees of `n` bytes: what lies in a lost region is poison (R24). -/
def State.viewPB (s : State) (k n : Nat) : List PByte := (upTo n).map (fun i => (s.memB (k + i), s.poisoned (k + i) || s.keyLost (k + i)))

/-- Units whose tag check fails become poison (R244). -/
def State.failUnits (s : State) (us : List Nat) : State := forEach us s (fun s u => s.tagFail (s.stackOf (u * 256 / 2 ^ 44) (u * 256 % 2 ^ 44)) (u * 256))

/-- Every read of a tagged unit checks its tag (R244). -/
def State.checkPB (s : State) (k n : Nat) : State := s.failUnits (s.missedUnits k n)

/-- Read with the controllers' counters. Errors of the stack itself enter with the stack rows (log 55). -/
def State.loadPB (s : State) (k n : Nat) : List PByte × State :=
  let s0 := s.checkPB k n
  (s0.viewPB k n, s0.countRun mRDBYTES (n / 4096 + 2) k n)

/-- Whether a run of bytes touches a lost region. -/
def State.runLost (s : State) (k n : Nat) : Bool := (upTo n).any (fun i => s.keyLost (k + i))

/-- Write a run with the counters of its controllers. -/
def State.putRun (s : State) (k : Nat) (bs : List PByte) : State :=
  ((s.writePB k bs).countRun mWRBYTES (bs.length / 4096 + 2) k bs.length).tollTouch k bs.length

/-- Write a run unit by unit where tags are out of step (R245): what covers a unit in part reads and checks it first, and is discarded when the check fails; what covers it whole
gives it a new tag. -/
def State.putUnits (s : State) : Nat → Nat → List PByte → State
  | 0, _, _ => s
  | fuel + 1, k, bs =>
    match bs with
    | [] => s
    | _ =>
      let n := 256 - k % 256
      let run := bs.take n
      State.putUnits (if run.length = 256 then (s.newTag k).putRun k run
        else match s.missedUnits k run.length with
          | [] => (s.newTag k).putRun k run
          | us => s.failUnits us) fuel (k + n) (bs.drop n)

/-- Write with the controllers' counters (R245); a lost region takes no write. -/
def State.storePB (s : State) (k : Nat) (bs : List PByte) : State :=
  if s.runLost k bs.length then s
  else if s.stale.isEmpty && (s.missedUnits k bs.length).isEmpty then s.putRun k bs
  else s.putUnits (bs.length / 256 + 2) k bs

/-! ### The far tier (R246–R251) -/

/-- Capacity mapped over both ports, at most 8 TiB (R247). -/
def State.farCapacity (s : State) : Nat := min ((s.rd (farBase 0 + 8)).toNat + (s.rd (farBase 1 + 8)).toNat) (2 ^ 43)

/-- FAR.CAPACITY of a partition: how much of its range is attached (R248, R252). -/
def State.farAvail (s : State) (p : Nat) : Nat := min (s.farSize p) (s.farCapacity - s.farStart p)

/-- Whether both ports interleave (R248). -/
def State.farInterleaved (s : State) : Bool :=
  nbits (s.cfgB 0x016) 0 0 == 1 && s.rd (farBase 0 + 8) == s.rd (farBase 1 + 8) && s.rd (farBase 0 + 8) != 0

/-- The port of a far-tier byte (R248). -/
def State.farPort (s : State) (b : Nat) : Nat :=
  if s.farInterleaved then b / 4096 % 2 else if b < (s.rd (farBase 0 + 8)).toNat then 0 else 1

/-- Device offset of a far-tier byte on its port (R248). -/
def State.farDevOffset (s : State) (b : Nat) : Nat :=
  if s.farInterleaved then (b / 8192) * 4096 + b % 4096
  else if b < (s.rd (farBase 0 + 8)).toNat then b else b - (s.rd (farBase 0 + 8)).toNat

/-- FAR.PORTp_STATUS.STATE. -/
def State.farState (s : State) (q : Nat) : Nat := s.rf (farBase q) 2 0

/-- Whether the ports of a far-tier run are UP. -/
def State.farUp (s : State) (b n : Nat) : Bool :=
  (upTo ((b % 4096 + n) / 4096 + 1)).all (fun i => n == 0 || s.farState (s.farPort (min (b / 4096 * 4096 + i * 4096) (b + n - 1))) == 2)

/-- One far-tier byte as the partition's session reads it: what this session wrote, else a free value (R249, log 2). -/
def State.farByte (s : State) (p b : Nat) : PByte × State :=
  let pz := s.farPoison.get false (b / 32)
  match s.far.get none b with
  | some x => if x.epoch = (s.part p).epoch then ((x.value, pz), s) else
      let (v, s1) := s.fresh
      ((v.setWidth 8, pz), s1)
  | none =>
      let (v, s1) := s.fresh
      ((v.setWidth 8, pz), s1)

/-- Read `n` bytes of the far tier. -/
def State.farRead (s : State) (p : Nat) : Nat → Nat → List PByte × State
  | _, 0 => ([], s)
  | b, n + 1 =>
    let (x, s1) := s.farByte p b
    let (xs, s2) := State.farRead s1 p (b + 1) n
    (x :: xs, s2)

/-- How many poisoned pieces a far read delivers (FAR.PORTp_POISON_RX). -/
def State.farPoisonPieces (s : State) (b n : Nat) : Nat :=
  ((upTo ((b % 32 + n + 31) / 32)).filter (fun i => s.farPoison.get false (b / 32 + i))).length

/-- Write one far-tier byte. -/
def State.setFarByte (s : State) (p b : Nat) (v : Byte) : State :=
  { s with far := s.far.put none b (some { value := v, epoch := (s.part p).epoch }) }

/-- Write bytes to the far tier. -/
def State.farWrite (s : State) (p : Nat) : Nat → List Byte → State
  | _, [] => s
  | b, v :: vs => State.farWrite (s.setFarByte p b v) p (b + 1) vs

/-- Write one piece of the far tier by R233's rule. -/
def State.farWritePiece (s : State) (p b : Nat) (bs : List PByte) : State :=
  let pz := bs.any (fun x => x.2)
  if bs.length = 32 then
    { (s.farWrite p b (bs.map (fun x => x.1))) with farPoison := s.farPoison.put false (b / 32) pz }
  else if s.farPoison.get false (b / 32) then s
  else
    let s1 := s.farWrite p b (bs.map (fun x => x.1))
    if pz then { s1 with farPoison := s1.farPoison.put false (b / 32) true } else s1

def State.farWriteRun (s : State) (p : Nat) : Nat → Nat → List PByte → State
  | 0, _, _ => s
  | fuel + 1, b, bs =>
    match bs with
    | [] => s
    | _ =>
      let n := 32 - b % 32
      State.farWriteRun (s.farWritePiece p b (bs.take n)) p fuel (b + n) (bs.drop n)

/-- Count a far-tier run at the ports that serve its 4 KiB units (R248, R252): bytes in the counter at `o`, and of a read the poisoned pieces that it delivers. -/
def State.countFar (s : State) (o : Nat) (read : Bool) : Nat → Nat → Nat → State
  | 0, _, _ => s
  | fuel + 1, b, n =>
    if n = 0 then s
    else
      let k := min n (4096 - b % 4096)
      let s1 := s.bump (farBase (s.farPort b) + o) 63 0 k
      State.countFar (if read then s1.bump (farBase (s.farPort b) + 0x18) 63 0 (s.farPoisonPieces b k) else s1) o read fuel (b + k) (n - k)

/-- A far-tier read by far-tier byte with the port's counters (R252). -/
def State.farLoad (s : State) (p b n : Nat) : List PByte × State :=
  let (bs, s1) := s.farRead p b n
  (bs, s1.countFar 0x30 true (n / 4096 + 2) b n)

/-- A far-tier write by far-tier byte with the port's counters. -/
def State.farStore (s : State) (p b : Nat) (bs : List PByte) : State :=
  (s.farWriteRun p (bs.length + 1) b bs).countFar 0x38 false (bs.length / 4096 + 2) b bs.length

/-! ### Addresses (R26–R33, R37, R38) -/

/-- Who asks: its partition, the cell whose self alias it may use (R29), and whether it may read the dump area (R38). -/
structure Rq where
  part : Nat
  cell : Option Nat := none
  dump : Bool := false
deriving DecidableEq, Repr

/-- Where an address leads. -/
inductive Loc where
  | mem (k : Nat)
  | far (b : Nat)
  | ctr (off : Nat)
  | reg (off : Nat)
  | fault
deriving DecidableEq, Repr

/-- Whether every byte of a run in one cell window is listed in R28's table, so that a write may reach it. -/
def listedRun (off n : Nat) : Bool :=
  (touched off n 0x80_0000).all (fun w =>
    let last := min (off + n - 1) (w * 0x80_0000 + 0x7F_FFFF)
    decide (last - w * 0x80_0000 < 0x40_4000))

/-- Where a run of `n` bytes (n ≥ 1) at a 57-bit address leads, or an address fault (R26–R29, R32, R38, R248). Spaces 4 and 5 are told apart only. -/
def State.locate (s : State) (rq : Rq) (write : Bool) (addr n : Nat) : Loc :=
  let sp := nbits addr 56 52
  let off := addr % 2 ^ 52
  if 2 ^ 52 < off + n then .fault
  else match sp with
  | 0 =>
    if off + n ≤ s.userTop rq.part then .mem (memKey0 rq.part off)
    else if rq.dump && !write && s.dumpBase rq.part ≤ off && off + n ≤ s.partSize rq.part then .mem (memKey0 rq.part off)
    else .fault
  | 1 => if off + n ≤ s.farAvail rq.part then .far (s.farStart rq.part + off) else .fault
  | 2 =>
    if off + n ≤ 0xC000_0000 && (touched off n 0x1000_0000).all (fun r => s.regionPart r == rq.part) then .mem (memKey2 off) else .fault
  | 3 =>
    if 0x1_FF80_0000 ≤ off && off + n ≤ 0x2_0000_0000 then
      match rq.cell with
      | some c =>
        let o := c * 0x80_0000 + (off - 0x1_FF80_0000)
        if !write || listedRun o n then .mem (memKey3 o) else .fault
      | none => .fault
    else if off + n ≤ 576 * 0x80_0000 && (touched off n 0x80_0000).all (fun c => s.cellPart c == rq.part) then
      (if !write || listedRun off n then .mem (memKey3 off) else .fault)
    else .fault
  | 4 => .ctr off
  | 5 => .reg off
  | _ => .fault

/-- The result of a data access. -/
inductive Acc (α : Type) where
  | ok (x : α) (s : State)
  | addressFault
  | busError

/-- Read `n` bytes of spaces 0 to 3 for a requester. -/
def State.access (s : State) (rq : Rq) (addr n : Nat) : Acc (List PByte) :=
  match s.locate rq false addr n with
  | .mem k => let (bs, s1) := s.loadPB k n; .ok bs s1
  | .far b => if s.farUp b n then (let (bs, s1) := s.farLoad rq.part b n; .ok bs s1) else .busError
  | _ => .addressFault

/-- Write bytes to spaces 0 to 3 for a requester; a write to a lost stack or region ends with an error status (R235). -/
def State.accessW (s : State) (rq : Rq) (addr : Nat) (bs : List PByte) : Acc Unit :=
  match s.locate rq true addr bs.length with
  | .mem k => if s.runLost k bs.length then .busError else .ok () (s.storePB k bs)
  | .far b => if s.farUp b bs.length then .ok () (s.farStore rq.part b bs) else .busError
  | _ => .addressFault

/-- A cell program's or its block's sluice's request on a cell's behalf. -/
def State.cellRq (s : State) (c : Nat) : Rq := { part := s.cellPart c, cell := some c }

/-! ### Busy sets (R35, R112, R113) -/

/-- Whether a begun array command holds a set. -/
def ArrX.holds (y : ArrX) (n : Nat) : Bool := !y.setFree && wcode y.cmd.word != cTDLD && fld y.cmd.word 111 110 == n

def Cell.setBusy (x : Cell) (n : Nat) : Bool := x.xArray.any (fun y => y.holds n)

/-- The set of a cell that a key of space 3 lies in. -/
def keySet (k : Nat) : Option (Nat × Nat) :=
  if k < 7 * 2 ^ 44 then none
  else
    let o := (k - 7 * 2 ^ 44) % 0x80_0000
    if 0x40_0000 ≤ o && o < 0x40_4000 then some ((k - 7 * 2 ^ 44) / 0x80_0000, (o - 0x40_0000) / 0x1000) else none

/-- The busy set that a run of bytes touches first, and its cell. -/
def State.busyAt (s : State) (k n : Nat) : Option (Nat × Nat) :=
  ((touched k n 0x1000).find? (fun g => match keySet (g * 0x1000) with
    | some (c, i) => (s.cell c).setBusy i
    | none => false)).bind (fun g => keySet (g * 0x1000))

/-- The busy set that an access by address must wait for, if any. -/
def State.waitsOn (s : State) (rq : Rq) (write : Bool) (addr n : Nat) : Option (Nat × Nat) :=
  match s.locate rq write addr n with
  | .mem k => if n = 0 then none else s.busyAt k n
  | _ => none

/-- Note an access that is held on a set (R113). -/
def State.hold (s : State) (d : Nat × Nat) (who : HeldBy) : State :=
  if s.held.contains { who := who, cell := d.1, set := d.2 } then s else { s with held := s.held ++ [{ who := who, cell := d.1, set := d.2 }] }

/-- An access is held no longer. -/
def State.unhold (s : State) (who : HeldBy) : State := { s with held := s.held.filter (fun h => h.who != who) }

/-- Whether a cell lies in a lost region (R24). -/
def State.cellLost (s : State) (c : Nat) : Bool := s.lostRegions.contains (cellRegion c)

/-- What leaves a cell of a lost region is poison (R24). -/
def State.fromCell (s : State) (c : Nat) (bs : List PByte) : List PByte := if s.cellLost c then bs.map (fun b => (b.1, true)) else bs

/-! ### Posted stores (R52, R64) -/

/-- A posted ST whose transaction is killed, or whose region is lost, writes poison to its piece (R24, R52, R373). -/
def State.killStore (s : State) (c : Nat) (t : StReq) : State :=
  let a := t.addr.toNat / 32 * 32
  match s.locate (s.cellRq c) true a 32 with
  | .mem k => if s.keyLost k then s else s.setPoison k true
  | .far f => { s with farPoison := s.farPoison.put false (f / 32) true }
  | _ => s

/-- Write a posted store's bytes to memory or the far tier; one that fails is not performed, and one of a lost region completes with poison (R24). -/
def State.storeMem (s : State) (c : Nat) (t : StReq) : State :=
  if s.cellLost c then s.killStore c t
  else match s.accessW (s.cellRq c) t.addr.toNat (t.bytes.map (fun b => (b, false))) with
  | .ok _ s1 => s1
  | _ => s

/-- The cell's stores that have been performed at CELL scope alone, and that no busy set holds, become performed at every scope. R64 lets that happen at any time; the model does
it before the cell's sluice accesses memory for it, so that the sluice observes them (log 52). -/
def State.settleStores (s : State) (c : Nat) : State :=
  let ready (t : StReq) : Bool := t.atCell && (s.waitsOn (s.cellRq c) true t.addr.toNat t.bytes.length).isNone
  let x := s.cell c
  if !x.sts.any ready then s
  else forEach (x.sts.filter ready) (s.setCell c { x with sts := x.sts.filter (fun t => !ready t) }) (fun s t => s.storeMem c t)

/-! ### The 288/256 code (R226, R227, R232) -/

/-- Product in GF(2^8) with x^8 + x^4 + x^3 + x^2 + 1 (R226). -/
def gfMul : Nat → Nat → Nat → Nat
  | 0, _, _ => 0
  | n + 1, a, b =>
    (if b % 2 = 1 then a else 0) ^^^ gfMul n (if a / 128 % 2 = 1 then ((a * 2) % 256) ^^^ 0x1D else a * 2) (b / 2)

/-- α^i. -/
def gfPow : Nat → Nat
  | 0 => 1
  | n + 1 => gfMul 8 (gfPow n) 2

/-- Horner step over the 36 symbols at the root α^j. -/
def synAt (root : Nat) : List Nat → Nat → Nat
  | [], acc => acc
  | x :: xs, acc => synAt root xs (gfMul 8 acc root ^^^ x)

/-- The syndrome of a pattern over the 36 symbols, symbol i being the coefficient of x^(35−i). -/
def syndrome (sym : List Nat) : List Nat := [synAt 1 sym 0, synAt 2 sym 0, synAt 4 sym 0, synAt 8 sym 0]

/-- A pattern from (symbol, error) pairs. -/
def errPattern (err : List (Nat × Byte)) : List Nat :=
  (upTo 36).map (fun i => err.foldl (fun a e => if e.1 = i then a ^^^ e.2.toNat else a) 0)

/-- The poison mask M in the check symbols (R232). -/
def poisonMask : List Nat := List.replicate 32 0 ++ [0x5A, 0xC3, 0x96, 0x3C]

/-- The check bytes of 32 data bytes (R226): the remainder of m(x) modulo g(x). -/
def rsCheck (d : List Nat) : List Nat :=
  -- g(x) = x^4 + 15x^3 + 54x^2 + 120x + 64
  d.foldl (fun r x =>
    let fb := x ^^^ r.getD 0 0
    [r.getD 1 0 ^^^ gfMul 8 fb 15, r.getD 2 0 ^^^ gfMul 8 fb 54, r.getD 3 0 ^^^ gfMul 8 fb 120, gfMul 8 fb 64]) [0, 0, 0, 0]

/-- The single symbol and its value whose error has a syndrome, if any. -/
def singleError (syn : List Nat) : Option (Nat × Nat) :=
  let v := syn.getD 0 0
  if v = 0 then none
  else ((upTo 36).find? (fun i => syndrome ((upTo 36).map (fun j => if j = i then v else 0)) == syn)).map (fun i => (i, v))

def xorList (a b : List Nat) : List Nat := (a.zip b).map (fun (x, y) => x ^^^ y)

/-- What the decoder answers (R227). -/
inductive Decoded where
  | data
  | corrected (sym val : Nat)
  | poison
  | poisonCorrected (sym : Nat)
  | bad
deriving DecidableEq, Repr

/-- Decode a received pattern, as its difference from the codeword of the stored data (R227). -/
def rsDecode (pattern : List Nat) : Decoded :=
  let syn := syndrome pattern
  let ps := xorList syn (syndrome poisonMask)
  if syn == [0, 0, 0, 0] then .data
  else match singleError syn with
    | some (i, v) => .corrected i v
    | none =>
      if ps == [0, 0, 0, 0] then .poison
      else match singleError ps with
        | some (i, _) => .poisonCorrected i
        | none => .bad

/-- Count a correction (R228, R230). -/
def State.countCe (s : State) (st sym addr : Nat) : State :=
  let s1 := (s.bump (memBase st + 0x30) 31 0 1).memErr st 0 sym addr
  { s1 with ceWin := s1.ceWin.put 0 st (s1.ceWin.get 0 st + 1) }

/-- Errors that the code does not see change the ciphertext of a piece (R226, R241): its AES blocks decrypt to other bytes. A piece of the carve-out holds tags (R222); those that lie
in a changed block are free values. -/
def State.scramble (s : State) (st k : Nat) (residual : List Nat) : State :=
  let r := residual.take 32
  if !r.any (fun x => x != 0) then s
  else
    let p := k / 2 ^ 44
    let q := s.part p
    if s.inCarve k then
      let loc := s.localOf k
      let g := loc / 4096 - s.userTop p / 4096 / (s.partStacks p).length
      forEach (upTo 4) s (fun s i =>
        if ((r.drop (i / 2 * 16)).take 16).any (fun x => x != 0) then
          let (v, s1) := s.fresh
          let tag := loc % 4096 / 8 + i
          { s1 with stale := s1.stale.put none (s1.stackKey st ((g * 32 + tag / 16) * 4096 + tag % 16 * 256) / 256) (some v) }
        else s)
    else s.storeRun k (natBytes (xtsDec q.k1 q.k2 (xtsTweak st (s.localOf k)) (xorNats (s.pieceCipher st k) r)))

/-- Read and treat one piece of a stack (R227, R228): the state, and whether the piece's ciphertext or poison state has changed. -/
def State.treatPiece (s : State) (st k : Nat) (err : List (Nat × Byte)) : State × Bool :=
  let pz := s.poisoned k
  let pat := if pz then xorList (errPattern err) poisonMask else errPattern err
  let addr := k % 2 ^ 44
  match rsDecode pat with
  | .data => if pat.any (fun x => x != 0) then ((s.scramble st k pat).setPoison k false, true) else (s, false)
  | .corrected i v =>
    let residual := xorList pat ((upTo 36).map (fun j => if j = i then v else 0))
    (((s.countCe st i addr).scramble st k residual).setPoison k false, residual.any (fun x => x != 0))
  | .poison => (s.setPoison k true, !pz)
  | .poisonCorrected i => ((s.countCe st i addr).setPoison k true, !pz)
  | .bad =>
    let s1 := ((s.bump (memBase st + 0x40) 31 0 1).memErr st 1 0 addr).setPoison k true
    (s1.raise (stackEvent s evUncorrectable st 0 addr), !pz)

/-- Treat one piece with its unit's tag left as it is: what the scrub does, which has no key (R226, R229). -/
def State.treatKept (s : State) (st k : Nat) (err : List (Nat × Byte)) : State :=
  let (s1, changed) := s.treatPiece st k err
  if changed && s.tagged k then { s1 with stale := s1.stale.put none (k / 256) (some (s.heldTag st k)) } else s1

/-- Read pieces of the unit of a key as the controller does (R227, R228, R244), each with its errors: the state, and whether the check of the tag fails; `tagErr` says that the
tag held is found changed. -/
def State.readUnit (s : State) (st k : Nat) (errs : List (Nat × List (Nat × Byte))) (tagErr : Bool) : State × Bool :=
  let u := k / 256 * 256
  let s1 := forEach errs s (fun s e => s.treatKept st (u + e.1 % 8 * 32) e.2)
  if s1.tagged k && (tagErr || s1.tagMiss k) then (s1.tagFail st k, true) else (s1, false)

/-! ### The grist add (R236) -/

/-- Join a function over paired little-endian elements of `w` bytes. -/
def gristMap (w : Nat) (f : Nat → Nat → Fl Nat) : Nat → List Byte → List Byte → Fl (List Byte)
  | 0, _, _ => ([], 0)
  | n + 1, d, t =>
    let (r, fl) := f (ofBytes (d.take w)) (ofBytes (t.take w))
    let (rs, fls) := gristMap w f n (d.drop w) (t.drop w)
    (toBytes w r ++ rs, fl ||| fls)

/-- One 16-bit element: to binary32, added, rounded, then converted (R236). -/
def grist16 (code : Nat) (d t : Nat) : Fl Nat :=
  let (x, f1) := toFp32 (elemVal code false false d)
  let (y, f2) := toFp32 (elemVal code false false t)
  let (z, f3) := add32 x y
  let c := convert code false rne false (val32 z)
  (c.bits, f1 ||| f2 ||| f3 ||| c.flags)

/-- One integer element of `w` bits, modulo 2^w, with IOV when it wraps (R96, R236). -/
def gristInt (w : Nat) (d t : Nat) : Fl Nat :=
  let i := sext w d + sext w t
  ((d + t) % 2 ^ w, if i < -((2 ^ (w - 1) : Nat) : Int) || ((2 ^ (w - 1) : Nat) : Int) ≤ i then flIOV else 0)

/-- grist_add (R236) over 256 bytes. -/
def gristAdd (fmt : Nat) (d t : List Byte) : Fl (List Byte) :=
  match fmt with
  | 0 => gristMap 4 add32 64 d t
  | 1 => gristMap 2 (grist16 1) 128 d t
  | 2 => gristMap 2 (grist16 2) 128 d t
  | 3 => gristMap 4 (gristInt 32) 64 d t
  | _ => gristMap 8 (gristInt 64) 32 d t

/-- Add one source granule into the granule at a space 0 key (R236–R239), with the controller's counters; a destination whose check has failed is poison already. -/
def State.gristGranule (s : State) (k fmt : Nat) (src : List Byte) (srcPoison : Bool) : State :=
  let m := memBase (s.stackOf (k / 2 ^ 44) (k % 2 ^ 44))
  let s0 := (s.checkPB k 256).newTag k
  let s1 := ((s0.bump (m + 0x60) 63 0 1).bump (m + mWRBYTES) 63 0 256).tollTouch k 256
  if srcPoison || (upTo 8).any (fun i => s0.poisoned (k + 32 * i)) then
    (forEach (upTo 8) s1 (fun s i => s.setPoison (k + 32 * i) true)).bump (m + 0x68) 63 0 1
  else
    let (d, fl) := gristAdd fmt (s0.readB k 256) src
    let keep := fl &&& (flOVF ||| flINV ||| flIOV)
    (s1.writeB k d).wr (m + 0x58) (s1.rd (m + 0x58) ||| BitVec.ofNat 64 keep)

end Sys2Proof.Machine
end

