-- ==== Sys2Proof/Machine/CellOps.lean ====
section
/-! DEFINITION. The shared operations of a cell: counters as it waits on them (R30, R41, R193), withdrawal (R207), halts (R78 to R80), launch (R40 to R42), what is
executing (R76), fences, release and acquire (R65 to R68), and how the core takes a word (R54, R59, R60). -/

namespace Sys2Proof.Machine

/-! ### Counters of space 4 (R30, R32, R189) -/

/-- The key of the counter at a space 4 offset that a partition may reach; none: an address fault. -/
def State.ctrKey (s : State) (p off : Nat) : Option Nat :=
  if off < 0x8000 then (if off / 8 < s.pscShare p then some (s.pscBase p + off / 8) else none)
  else if 0x10_0000 ≤ off && off < 0x10_0000 + 12 * 0x2000 then
    (if s.regionPart ((off - 0x10_0000) / 0x2000) = p then some (off / 8) else none)
  else if 0x20_0000 ≤ off && off < 0x20_0000 + 144 * 0x800 then
    (if s.blockPart ((off - 0x20_0000) / 0x800) = p then some (off / 8) else none)
  else none

/-- The space 4 offset of a counter key as partition `p` names it. -/
def State.ctrOffset (s : State) (p k : Nat) : Nat := if k < 4096 then (k - s.pscBase p) * 8 else k * 8

/-- The region that holds a counter; none for a package counter. -/
def ctrRegion (k : Nat) : Option Nat :=
  if k < 4096 then none
  else if k * 8 < 0x20_0000 then some ((k * 8 - 0x10_0000) / 0x2000)
  else some ((k * 8 - 0x20_0000) / 0x800 / 12)

/-- The sync unit of a counter, numbered as R369 kind 13 numbers it. -/
def ctrUnit (k : Nat) : Nat :=
  if k < 4096 then 0
  else if k * 8 < 0x20_0000 then 1 + (k * 8 - 0x10_0000) / 0x2000 / 2
  else 16 + (k * 8 - 0x20_0000) / 0x800

/-- SYNC.SEL.INDEX of a counter at its unit (R215). -/
def State.ctrIndex (s : State) (p k : Nat) : Nat :=
  if k < 4096 then k - s.pscBase p
  else if k * 8 < 0x20_0000 then ((k * 8 - 0x10_0000) / 0x2000 % 2) * 1024 + (k * 8 - 0x10_0000) % 0x2000 / 8
  else (k * 8 - 0x20_0000) % 0x800 / 8

/-- Whether a counter's region is lost. -/
def State.ctrLost (s : State) (k : Nat) : Bool :=
  match ctrRegion k with
  | some r => s.lostRegions.contains r
  | none => false

/-- The value a load returns (R192): for a FROZEN counter it excludes what is pending. -/
def State.ctrVisible (s : State) (k : Nat) : Word64 := (s.ctr k).value

/-- Remove a cell from a counter's waiter list. -/
def State.unwait (s : State) (k c : Nat) : State :=
  let x := s.ctr k
  s.setCtr k { x with waiters := x.waiters.filter (fun w => w.cell != c) }

/-- How a wait begins (R193, R197, R199). -/
inductive WaitRes where
  | pass
  | refused (st : SyncStatus)
  | registered (s : State)

/-- Judge a wait of a job against a counter, and register it if its test fails (R193, R197 to R199). -/
def State.waitBegin (s : State) (k job : Nat) (w : Waiter) : WaitRes :=
  let x := s.ctr k
  if s.ctrLost k then .refused .lost
  else match x.st with
  | .free => .refused .owner
  | .abandoned => .refused .abandoned
  | _ =>
    if x.job ≠ job then .refused .owner
    else if w.expect.toNat ≤ x.value.toNat then .pass
    else .registered (s.setCtr k { x with waiters := x.waiters ++ [w] })

/-! ### Class 0x4 fields (R201) -/

def syOffset (w : Word128) : Nat := fld w 111 93 * 8
def syImm (w : Word128) : Word64 := BitVec.ofNat 64 (fld w 62 31)
/-- AREG + IMM, or EREG + IMM. -/
def syAmount (q : QCmd) : Word64 := q.ops.getD 0 0 + syImm q.word
def syLine (w : Word128) : Nat := fld w 111 107
def syTimeout (w : Word128) : Nat := if wcode w = cSHUT then fld w 101 82 else fld w 82 63

def rSYNCERR : Nat := 0xE00
def rWAITTARGET : Nat := 0xE10
def rWAITEXPECT : Nat := 0xE18

/-- Clear a cell's ready bit for a line (R206, R207). -/
def State.unready (s : State) (c n : Nat) : State :=
  let p := s.cellPart c
  s.setLine p n { s.line p n with waiting := (s.line p n).waiting.filter (fun x => x != c) }

/-- The cell's command of an op sequence number stands in no list any longer. -/
def State.unlist (s : State) (c : Nat) (seq : Word64) : State :=
  let x := s.cell c
  s.setCell c { x with xSync := x.xSync.map (fun y => if y.cmd.seq == seq then { y with listed := false } else y) }

/-- Take a WAIT or SHUT of the cell off the counter or line where it stands, if it does. -/
def State.unpark (s : State) (c : Nat) (x : SyncX) : State :=
  if !x.listed then s
  else if wcode x.cmd.word = cSHUT then (s.unready c (syLine x.cmd.word)).unlist c x.cmd.seq
  else match s.ctrKey (s.cellPart c) (syOffset x.cmd.word) with
    | some k => (s.unwait k c).unlist c x.cmd.seq
    | none => s

/-- Whether a begun sync command waits on a counter or a line. -/
def SyncX.parked (x : SyncX) : Bool := match x.ph with
  | .waiting => true
  | .shutWait => true
  | _ => false

/-- Withdraw the cell's registered WAIT or waiting SHUT, which ends with `st` (R207). -/
def State.withdrawSync (s : State) (c : Nat) (st : SyncStatus) : State :=
  let s1 := forEach ((s.cell c).xSync.filter SyncX.parked) s (fun s y => s.unpark c y)
  s1.setCell c { s1.cell c with xSync := (s1.cell c).xSync.map (fun y => if y.parked then { y with ph := .done st } else y) }

/-! ### Persistent streams of a cell's channels (R169) -/

/-- The descriptor of a channel slot or stream has PERSIST set (R161). -/
def Desc.persist (d : Desc) : Bool := bit d.raw 5

/-- Disarm the persistent streams of a cell's channels after their current runs (R169). -/
def State.disarmStreams (s : State) (c : Nat) : State :=
  forEach [0, 1, 2, 3] s (fun s j =>
    let ch := 4 * cellPos c + j
    let x := s.chan (cellBlock c) ch
    match x.armed with
    | none => s
    | some _ =>
      if x.slots.any Desc.persist then s.setChan (cellBlock c) ch { x with disarming := true }
      else s.setChan (cellBlock c) ch { x with armed := none, disarming := false })

/-! ### What leaves a headrace buffer (R185, R187) -/

/-- The headrace register base of a cell (R188). -/
def hrBase (c : Nat) : Nat := blockBase (cellBlock c) + 0x2000 + 0x40 * cellPos c

def State.setHr (s : State) (c : Nat) (h : Headrace) : State := s.setCell c { s.cell c with headrace := h }

/-- HR.CFGc.FWD (R188). -/
def State.hrFwd (s : State) (c : Nat) : Bool := s.rb (hrBase c) 2

/-- A cell that forwards the stream and consumes none of it (R187). -/
def Cell.hrBypass (x : Cell) : Bool := x.st == .halted || x.st == .killing || x.st == .killed

/-- Let what has been consumed and forwarded leave the buffer (R185); a cell that consumes nothing, or that forwards nothing, does not hold the bytes back (R187). -/
def State.hrTrim (s : State) (c : Nat) : State :=
  let x := s.cell c
  let h := x.headrace
  let len := h.items.length
  let eaten := if x.hrBypass then max h.consumed (if s.hrFwd c then h.forwarded else len) else h.consumed
  let sent := if s.hrFwd c then h.forwarded else eaten
  let n := min eaten sent
  s.setHr c { h with items := h.items.drop n, consumed := eaten - n, forwarded := if s.hrFwd c then h.forwarded - n else 0 }

/-! ### Halts (R78–R80) -/

def rHALT : Nat := 0x18
def rFAULTSEQ : Nat := 0x20
def rFAULTLO : Nat := 0x28
def rFAULTHI : Nat := 0x30
def rFAULTADDR : Nat := 0x38
def rNANSEQ : Nat := 0x410
def rNANLOC : Nat := 0x418
def rNANK : Nat := 0x420

/-- One cause of a halt: the reason, the unit, and the command it names. -/
structure Cause where
  reason : HaltReason
  unit : Nat
  pc : Nat
  seq : Word64
  word : Word128 := 0
  addr : Word64 := 0
deriving DecidableEq, Repr

/-- CELL.FAULT_ADDR of a cause: the address for ADDRESS_FAULT, POISON and FETCH_ERROR, else 0 (R79's register table). -/
def Cause.faultAddr (k : Cause) : Word64 := match k.reason with
  | .addressFault => k.addr
  | .poison => k.addr
  | .fetchError => k.addr
  | _ => 0

/-- The event of a cause (R79, R370); a TRAP has raised its own. -/
def State.causeEvent (s : State) (c : Nat) (k : Cause) : State :=
  let base := cellBase c
  match k.reason with
  | .userTrap => s
  | .nanTrap => s.raise (s.cellEvent c evNanTrap (s.job c) (fld (s.rd (base + rNANSEQ)) 31 0) (s.rd (base + rNANLOC)).toNat (s.rd (base + rNANK)).toNat)
  | .poison => s.raise (s.cellEvent c evPoisonConsumed (s.job c) (fld k.seq 31 0) k.faultAddr.toNat 0)
  | r => s.raise (s.cellEvent c evCellFault (s.job c) (r.code + k.pc * 2 ^ 8 + k.unit * 2 ^ 20) k.seq.toNat k.faultAddr.toNat)

/-- Fill the halt record (R79). -/
def State.haltRecord (s : State) (c : Nat) (k : Cause) : State :=
  let base := cellBase c
  ((((s.wr (base + rHALT) (BitVec.ofNat 64 (k.reason.code + k.unit * 2 ^ 9 + k.pc * 2 ^ 12))).wr (base + rFAULTSEQ) k.seq).wr
    (base + rFAULTLO) (BitVec.ofNat 64 (fld k.word 63 0))).wr (base + rFAULTHI) (BitVec.ofNat 64 (fld k.word 127 64))).wr
    (base + rFAULTADDR) k.faultAddr

/-- A halt cause meets a cell (R76, R78, R80), whose headrace buffer then holds back only what it has still to forward (R187), before the statuses of withdrawn commands are delivered. -/
def State.haltRaw (s : State) (c : Nat) (k : Cause) : State :=
  let x := s.cell c
  match x.st with
  | .halted => (s.wb (cellBase c + rHALT) 8 true).causeEvent c k
  | .fetching | .running | .freezing | .draining =>
    (((((s.haltRecord c k).setCell c { x with st := .halted }).causeEvent c k).withdrawSync c .discarded).disarmStreams c).hrTrim c
  | _ => s

/-! ### Completion of class 0x4 commands, in the order they began (R202, R205) -/

/-- Whether the status of a completed WAIT or SHUT is held back by a freeze (R207). -/
def heldByFreeze (x : Cell) (y : SyncX) : Bool :=
  (x.st == .freezing || x.st == .frozen) && (wcode y.cmd.word == cWAIT || wcode y.cmd.word == cSHUT)

/-- Record a failed class 0x4 command (R205). -/
def State.syncErr (s : State) (c : Nat) (w : Word128) (st : SyncStatus) : State :=
  let off := if wcode w = cSHUT then 0 else fld w 111 93
  let line := if wcode w = cSHUT then syLine w else 0
  s.wr (cellBase c + rSYNCERR) (BitVec.ofNat 64 (st.code + fld w 123 116 * 2 ^ 8 + line * 2 ^ 16 + off * 2 ^ 21))

/-- Deliver one ended class 0x4 command: its status to SREG, or the halt of R205. -/
def State.syncDeliver (s : State) (c : Nat) (q : QCmd) (st : SyncStatus) : State :=
  let r := delivReg q.word
  if r ≠ 0 then s.setSreg c r (BitVec.ofNat 64 st.code)
  else if st = .ok || st = .discarded then s
  else (s.syncErr c q.word st).haltRaw c { reason := .engineError, unit := 4, pc := q.pc, seq := q.seq, word := q.word }

/-- Report ended class 0x4 commands from the front, in the order they began (R202). -/
def State.syncRetire (s : State) (c : Nat) : Nat → State
  | 0 => s
  | fuel + 1 =>
    let x := s.cell c
    match x.xSync with
    | y :: rest =>
      match y.ph with
      | .done st =>
        if heldByFreeze x y then s
        else
          State.syncRetire (((s.setCell c { x with xSync := rest }).unpark c y).syncDeliver c y.cmd st) c fuel
      | _ => s
    | [] => s

/-- Report what has ended. -/
def State.syncReport (s : State) (c : Nat) : State := s.syncRetire c ((s.cell c).xSync.length + 1)

/-- End the cell's parked or flying class 0x4 command that satisfies a test, with a status. A frozen cell's WAIT that is still listed stays so (R78, R207). -/
def State.syncEnd (s : State) (c : Nat) (p : SyncX → Bool) (st : SyncStatus) : State :=
  let x := s.cell c
  (s.setCell c { x with xSync := x.xSync.map (fun y =>
    if p y then { y with ph := .done st, listed := y.listed && wcode y.cmd.word == cWAIT && (x.st == .freezing || x.st == .frozen) } else y) }).syncReport c

/-- A halt cause meets a cell; commands that it withdraws deliver DISCARDED (R78, R207). -/
def State.halt (s : State) (c : Nat) (k : Cause) : State := (s.haltRaw c k).syncReport c

/-! ### Launch (R40–R42) -/

/-- The hopper with every valid bit clear, the words' bits as held (R42, R81). -/
def clearValid (h : Table HWord) : Table HWord :=
  (h.map (fun e => (e.1, { e.2 with status := .unloaded }))).filter (fun e => e.2 != {})

/-- Leave ARMED (R42): the run begins at word 0 by a launch fetch, or with the hopper kept. Stores of an earlier run that are performed at CELL scope alone become performed. -/
def State.leaveArmed (s : State) (c : Nat) : State :=
  let s0 := s.settleStores c
  let x := s0.cell c
  let s1 := (s0.setPc c 0).wr (cellBase c + rOPSEQ) 0
  if x.rearmed && bit x.lCfg 13 then s1.setCell c { x with st := .running }
  else s1.setCell c { x with
    st := .fetching, hopper := clearValid x.hopper,
    fetches := [{ launch := true, addr := x.lAddr, first := 0, count := fld x.lCfg 11 0 + 1, arrived := 0 }] }

/-- Test the launch counter (R41): at the entry to ARMED, and when a freeze of an ARMED cell ends. R41 names no outcome for a re-arm whose rewritten LAUNCH_CTR.OFFSET names no
counter that the partition reaches: the model refuses the launch as R41 refuses one on a FREE counter (log 53, DESIGN CHOICE). -/
def State.armTest (s : State) (c : Nat) : State :=
  let s1 := s.wb (cellBase c + rSTATUS) 13 false
  let x := s1.cell c
  if bit x.lCtr 63 then s1.leaveArmed c
  else match s1.ctrKey (s1.cellPart c) (fld x.lCtr 21 3 * 8) with
    | none => s1.wb (cellBase c + rSTATUS) 13 true
    | some k =>
      match (s1.unwait k c).waitBegin k (s1.job c) { cell := c, launch := true, expect := x.lExpect, timed := false } with
      | .pass => (s1.unwait k c).leaveArmed c
      | .refused _ => (s1.unwait k c).wb (cellBase c + rSTATUS) 13 true
      | .registered s2 => s2

/-- Take the cell's launch wait off its counter. -/
def State.dropLaunchWait (s : State) (c : Nat) : State :=
  match s.ctrKey (s.cellPart c) (fld (s.cell c).lCtr 21 3 * 8) with
  | some k => s.unwait k c
  | none => s

/-- Latch the launch registers (R41). -/
def State.latchLaunch (s : State) (c : Nat) (rearm : Bool) : State :=
  let b := cellBase c
  s.setCell c { s.cell c with
    rearmed := rearm, lAddr := s.rd (b + 0x40), lCfg := s.rd (b + 0x48), lCtr := s.rd (b + 0x50), lExpect := s.rd (b + 0x58) }

/-- Enter ARMED (R41): latch the launch registers and test the counter. -/
def State.enterArmed (s : State) (c : Nat) (rearm : Bool) : State :=
  let s1 := s.latchLaunch c rearm
  (s1.setCell c { s1.cell c with st := .armed }).armTest c

/-! ### What is executing (R76, R78) -/

/-- The cell's posted stores that are not performed at CELL scope: the outstanding ones of R52. -/
def Cell.posted (x : Cell) : List StReq := x.sts.filter (fun t => !t.atCell)

/-- The core executes: a load awaits its data, a posted store is not performed, or a hopper fetch is outstanding. A NOTIFY, which the path accepts at once, never shows. -/
def Cell.coreBusy (x : Cell) : Bool := x.ld.isSome || !x.posted.isEmpty || !x.fetches.isEmpty
def Cell.arrayBusy (x : Cell) : Bool := !x.xArray.isEmpty
def Cell.vectorBusy (x : Cell) : Bool := !x.xVector.isEmpty
/-- A registered WAIT or waiting SHUT counts as not executing (R207). -/
def Cell.syncBusy (x : Cell) : Bool :=
  x.xSync.any (fun y => match y.ph with
    | .begun | .flying | .ackWait => true
    | _ => false)

/-- Positions that stand for a descriptor's header and for its RCTR signal among its requests. -/
def posHeader : Nat := 2 ^ 80
def posRctr : Nat := 2 ^ 81

/-- A request that no link has begun to send: it waits for the link's credits (R278). -/
def State.unsent (s : State) (r : Req) : Bool := match r.via with
  | .flume f => (s.link f).txMsgs.any (fun m => m.vc == 0 && m.txid == r.txid)
  | _ => false

/-- A descriptor waits on a remote credit (R174): none of the requests that it awaits has left. -/
def State.creditWait (s : State) (b ch : Nat) (d : Desc) : Bool :=
  let rs := s.reqs.filter (fun r => r.src == .chan b ch d.seq)
  !rs.isEmpty && rs.all (fun r => !r.retry && decide (r.pos < posRctr) && s.unsent r)

/-- A descriptor of one of the cell's channels is executing: one that waits on pacing, a grant, headrace space or a remote credit counts as not executing (R174). -/
def State.sluiceBusy (s : State) (c : Nat) : Bool :=
  [0, 1, 2, 3].any (fun j =>
    let ch := 4 * cellPos c + j
    let x := s.chan (cellBlock c) ch
    !x.wanting && x.slots.any (fun d => d.cell == c && ((d.ph != .paced && fld d.raw 3 0 != 6 && !s.creditWait (cellBlock c) ch d) || !d.late.isEmpty)))

/-- A descriptor that waits on a remote credit is suspended (R174): its requests that have not left are taken back, and are made again once the freeze has ended. -/
def State.suspendDesc (s : State) (b ch i : Nat) (d : Desc) : State :=
  if !s.creditWait b ch d then s
  else
    let rs := s.reqs.filter (fun r => r.src == .chan b ch d.seq)
    let s1 := forEach rs { s with reqs := s.reqs.filter (fun r => r.src != .chan b ch d.seq) } (fun s r => match r.via with
      | .flume f => s.setLink f { s.link f with txMsgs := (s.link f).txMsgs.filter (fun m => !(m.vc == 0 && m.txid == r.txid)) }
      | _ => s)
    let data := rs.filter (fun r => decide (r.pos < posHeader))
    let ph : DescPh := if data.isEmpty && rs.any (fun r => r.kind != 0x03) then .stamping else .moving
    s1.setChan b ch { s1.chan b ch with
      slots := setAt (s1.chan b ch).slots i { d with ph := ph, again := d.again ++ data.map (fun r => (r.pos, r.pos + r.amount)), hdr := [] } }

/-- A cell becomes FROZEN (R76, R174). -/
def State.suspendSends (s : State) (c : Nat) : State :=
  forEach [0, 1, 2, 3] s (fun s j =>
    let b := cellBlock c
    let ch := 4 * cellPos c + j
    forEach ((upTo (s.chan b ch).slots.length).zip (s.chan b ch).slots) s (fun s (i, d) => s.suspendDesc b ch i d))

/-- Whether any command of a cell is executing (R76). -/
def State.executing (s : State) (c : Nat) : Bool :=
  let x := s.cell c
  x.coreBusy || x.arrayBusy || x.vectorBusy || x.syncBusy || s.sluiceBusy c

/-- Op sequence numbers of everything dispatched that has not completed (R65, R67), by unit. -/
def Cell.openSeqs (x : Cell) (u : CUnit) : List Word64 :=
  match u with
  | .core => (x.ld.toList.map LdReq.seq) ++ (x.fetches.filter (fun f => !f.launch)).map Fetch.seq
  | .array => x.qArray.map QCmd.seq ++ x.xArray.map (fun y => y.cmd.seq)
  | .vector => x.qVector.map QCmd.seq ++ x.xVector.map (fun y => y.cmd.seq)
  | .sluice => x.qSluice.map QCmd.seq ++ x.xSluice.map (fun y => y.1.seq)
  | .sync => x.qSync.map QCmd.seq ++ x.xSync.map (fun y => y.cmd.seq)

def allUnits : List CUnit := [.core, .array, .vector, .sluice, .sync]

/-- Whether every command of the units of a mask with a lower op sequence number has completed, and its writes are performed at a scope (R64, R65): CELL is 0. An engine's writes
are performed at every scope when its command completes, so that only posted stores tell the scopes apart (log 52). -/
def Cell.earlierDone (x : Cell) (mask scope : Nat) (seq : Word64) : Bool :=
  allUnits.all (fun u => !(nbits mask u.idx u.idx == 1) || (x.openSeqs u).all (fun q => decide (seq.toNat ≤ q.toNat)))
    && (!(mask % 2 == 1) || x.sts.all (fun t => decide (seq.toNat ≤ t.seq.toNat) || (t.atCell && scope == 0)))

/-- Whether a pending fence holds a command dispatched into a unit (R65). -/
def Cell.fenceHolds (x : Cell) (u : CUnit) (seq : Word64) : Bool :=
  x.fences.any (fun f => decide (f.seq.toNat < seq.toNat) && nbits f.hold u.idx u.idx == 1)

/-- Whether a command with acquire has not completed (R68): it holds the core, so that nothing is dispatched behind it. -/
def Cell.acquireHolds (x : Cell) : Bool :=
  (x.qArray ++ x.xArray.map ArrX.cmd ++ x.qVector ++ x.xVector.map VecX.cmd ++ x.qSluice ++ x.xSluice.map (fun y => y.1)
    ++ x.qSync ++ x.xSync.map SyncX.cmd).any (fun q => wACQ q.word)
  || x.fetches.any Fetch.acq || x.posted.any (fun t => wACQ t.word)

/-- Whether a scalar register is pending (R50): an LD's target, or a delivery of a queued or begun vector or sync command. -/
def Cell.regPending (x : Cell) (r : Nat) : Bool :=
  r != 0 && ((x.ld.toList.any (fun l => l.rt == r))
    || (x.qVector ++ x.xVector.map VecX.cmd ++ x.qSync ++ x.xSync.map SyncX.cmd).any (fun q => delivReg q.word == r))

/-- Whether a register is pending on something else than vector deliveries, which land in queue order (R50). -/
def Cell.regPendingNonVector (x : Cell) (r : Nat) : Bool :=
  r != 0 && ((x.ld.toList.any (fun l => l.rt == r)) || (x.qSync ++ x.xSync.map SyncX.cmd).any (fun q => delivReg q.word == r))

/-- Whether a pending register stalls a word (R50). -/
def Cell.stallsOnReg (x : Cell) (w : Word128) : Bool :=
  (wordReads w).any x.regPending
    || (if wclass w = 2 then x.regPendingNonVector (wordWrites w) else x.regPending (wordWrites w))

/-- Queue depths (R60). -/
def queueDepth : CUnit → Nat
  | .sluice => 32
  | _ => 16

def Cell.queue (x : Cell) : CUnit → List QCmd
  | .array => x.qArray
  | .vector => x.qVector
  | .sluice => x.qSluice
  | .sync => x.qSync
  | .core => []

def Cell.setQueue (x : Cell) (u : CUnit) (q : List QCmd) : Cell :=
  match u with
  | .array => { x with qArray := q }
  | .vector => { x with qVector := q }
  | .sluice => { x with qSluice := q }
  | .sync => { x with qSync := q }
  | .core => x

/-- The unit of an engine class. -/
def classUnit (cl : Nat) : CUnit := match cl with
  | 1 => .array | 2 => .vector | 3 => .sluice | 4 => .sync | _ => .core

/-- Bit offset of a queue's field in Q_LEVEL and Q_HWM. -/
def qField : CUnit → Nat
  | .array => 0 | .vector => 8 | .sluice => 16 | .sync => 24 | .core => 32

/-! ### How the core takes a word (R54, R59, R60) -/

/-- What the core finds at its program counter. -/
inductive Taken where
  /-- No word is taken; the state as it stands, but for a counted stall. -/
  | stall (s : State)
  /-- The cell halts. -/
  | halt (s : State)
  /-- The word is taken: its hopper index, its op sequence number, and the state with CELL.PC and CELL.OPSEQ advanced. -/
  | word (w : Word128) (pc : Nat) (seq : Word64) (s : State)

/-- Whether a hopper word is still to be brought by the launch fetch (R42). -/
def Cell.launchPending (x : Cell) (i : Nat) : Bool :=
  x.fetches.any (fun f => f.launch && decide (f.arrived ≤ i) && decide (i < f.count))

/-- FAILING becomes DUMPING when no cell of the partition is still stopping (R371, R372); the dump begins. -/
def State.failSettle (s : State) (p : Nat) : State :=
  if (s.part p).st == .failing && (s.partCells p).all (fun c => (s.cell c).st != .freezing && (s.cell c).st != .killing) then
    s.setPart p { s.part p with st := .dumping }
  else s

/-- Whether the runner clocks a cell: it is awake, its region is not lost, and no cycle is withheld (R24, R350, R353). -/
def State.clocked (s : State) (c : Nat) : Bool :=
  (s.cell c).sleep == .awake && !(s.region (cellRegion c)).withheld && !s.lostRegions.contains (cellRegion c)

/-- The class and opcode at the program counter, of a valid word. -/
def State.wordAt (s : State) (c : Nat) : Option Word128 :=
  let h := (s.cell c).hopper.get {} (s.pc c)
  if h.status = .valid then some h.bits else none

/-- The checks before a word is taken (R46, R50, R54, R60, R65, R67, R68). -/
def State.take (s : State) (c : Nat) : Taken :=
  let x := s.cell c
  let pc := s.pc c
  let seq := s.opseq c
  if x.st ≠ .running || !s.clocked c || x.ld.isSome || x.endReq.isSome || x.fenceHolds .core seq || x.acquireHolds then .stall s
  else
    let h := x.hopper.get {} pc
    match h.status with
    | .unloaded =>
      if x.launchPending pc then .stall s
      else .halt (s.halt c { reason := .hopperUnloaded, unit := 0, pc := pc, seq := seq })
    | .pending => .stall s
    | .failed .addressFault a => .halt (s.halt c { reason := .addressFault, unit := 0, pc := pc, seq := seq, addr := a })
    | .failed .fetchError a => .halt (s.halt c { reason := .fetchError, unit := 0, pc := pc, seq := seq, addr := a })
    | .failed .poison a => .halt (s.halt c { reason := .poison, unit := 0, pc := pc, seq := seq, addr := a })
    | .valid =>
      let w := h.bits
      let s1 := (s.setPc c (pc + 1)).wr (cellBase c + rOPSEQ) (seq + 1)
      match dispatchCheck w with
      | some r => .halt (s1.halt c { reason := r, unit := wordUnit w, pc := pc, seq := seq, word := w })
      | none =>
        if x.stallsOnReg w then .stall s
        else if (wclass w == 0 || wclass w == 5) && wREL w && !x.earlierDone 31 0 seq then .stall s
        else .word w pc seq s1

/-- Take a word of a row's opcode and give it its effect; a stalled core, or another word at the program counter, leaves the state. -/
def State.core (s : State) (c code : Nat) (f : Word128 → Nat → Word64 → State → State) : State :=
  match s.wordAt c with
  | none => s
  | some w0 =>
    if wcode w0 ≠ code then s
    else match s.take c with
      | .stall s1 => s1
      | .halt s1 => s1
      | .word w pc seq s1 => f w pc seq s1

/-- Append a taken word to its engine's queue with its operands read (R50, R60); a full queue stalls the core. -/
def State.dispatch (s : State) (c code : Nat) : State :=
  let u := classUnit (code / 256)
  s.core c code (fun w pc seq s1 =>
    let x := s1.cell c
    if queueDepth u ≤ (x.queue u).length then s
    else
      let q := x.queue u ++ [{ word := w, seq := seq, pc := pc, ops := (opRegs w).map (s1.sreg c) }]
      (s1.setCell c (x.setQueue u q)).high (cellBase c + 0x98) (qField u + 7) (qField u) q.length)

end Sys2Proof.Machine
end

