-- ==== Sys2Proof/Machine/Fantail.lean ====
section
/-! DEFINITION. Phase tags and what the fantail learns (R72, R356), and the engine points of a region (R352). -/

namespace Sys2Proof.Machine

def fanBase (p : Nat) : Nat := 0x0801_0000 + p * 0x1000
/-- FAN.CFG.ALPHA; values above 8 read as 8 (R367). -/
def State.fanAlpha (s : State) (p : Nat) : Nat := min 8 (s.rf (fanBase p) 19 16)

/-- Points of the engines of a cell's region (R352). -/
def State.countPoints (s : State) (c n : Nat) : State :=
  let x := s.region (cellRegion c)
  s.setRegion (cellRegion c) { x with points := x.points + n, slotPoints := x.slotPoints + n }

/-- One step of an exponential average; the quotient is rounded down (R339, R356). -/
def expAvg (old new alpha : Nat) : Nat := ((old : Int) + ((new : Int) - (old : Int)) / ((2 ^ alpha : Nat) : Int)).toNat

/-- The power factors of the operating points in 1/256, and their clocks in units of 100 MHz (R347). -/
def opFactor (k : Nat) : Nat := [256, 184, 126, 82, 32].getD k 32
def opClock (k : Nat) : Nat := [12, 10, 8, 6, 3].getD k 3

/-- A sample of 10 µs of the occurrence in progress: runner power and withheld microseconds (R356). -/
def RegionPower.sample (x : RegionPower) (watts withheld : Nat) : RegionPower :=
  if withheld < 9 then { x with
    occN := x.occN + 1, occP := x.occP + watts, occDn := x.occDn + 1,
    occD := x.occD + watts * 10 / (10 - withheld) * 256 / opFactor x.op }
  else { x with occN := x.occN + 1, occP := x.occP + watts }

/-- The occurrence of a region's tag ends (R356): it is learned if it lasted 10 µs or more. A demand with no sample that counts is a free value (log 2). -/
def State.learnTag (s : State) (r : Nat) : State :=
  let x := s.region r
  match x.tag with
  | none => s
  | some t =>
    if x.occN = 0 then s
    else
      let pa := x.occP / x.occN
      let (v, s1) := if x.occDn = 0 then s.fresh else (BitVec.ofNat 64 (x.occD / x.occDn), s)
      let pd := v.toNat % 65536
      let dur := 10 * x.occN
      let e := s1.fanEntry r t
      let a := s1.fanAlpha (s1.regionPart r)
      s1.setFanEntry r t (
        if e.valid && e.job == x.tagJob then
          { e with count := min 32767 (e.count + 1), demand := expAvg e.demand pd a, power := expAvg e.power pa a, duration := expAvg e.duration dur a }
        else { valid := true, count := 1, job := x.tagJob, demand := pd, power := pa, duration := dur })

/-- A LEAD PHASE sets the region's tag (R72, R356); the same tag of the same job again changes nothing. -/
def State.setTag (s : State) (r tag job : Nat) : State :=
  if (s.region r).tag == some tag && (s.region r).tagJob == job then s
  else
  let s1 := s.learnTag r
  s1.setRegion r { s1.region r with tag := some tag, tagJob := job, occN := 0, occP := 0, occDn := 0, occD := 0 }

/-- The tag of a cell's region is invalid from the moment every cell of the region is IDLE (R356). -/
def State.idleTag (s : State) (c : Nat) : State :=
  let r := cellRegion c
  if (s.region r).tag.isSome && (upTo 48).all (fun i => (s.cell (48 * r + i)).st == .idle) then
    let s1 := s.learnTag r
    s1.setRegion r { s1.region r with tag := none, occN := 0, occP := 0, occDn := 0, occD := 0 }
  else s

/-- PHASE (R72). -/
def execPhase (c : CellId) (s : State) : Out := powered s <|
  done s (s.core c cPHASE (fun w _ _ s1 =>
    let tag := fld w 111 106
    let s2 := s1.wr (cellBase c + 0x88) (BitVec.ofNat 64 (tag + 256 * b2n (bit w 105)))
    if bit w 105 then s2.setTag (cellRegion c) tag (s2.job c) else s2))

end Sys2Proof.Machine
end

