-- ==== Sys2Proof/Machine/Flags.lean ====
section
/-! DEFINITION. Sticky flags (R96) and the NaN trap (R102 to R104). -/

namespace Sys2Proof.Machine

def rAFLAGS : Nat := 0x400
def rNANCFG : Nat := 0x408
/-- The fields of CELL.AFLAGS (R96). -/
def afARRAY : Nat := 0
def afTAIL : Nat := 8
def afVECTOR : Nat := 16

/-- OR flags into a field of CELL.AFLAGS (R96). -/
def State.orFlags (s : State) (c field fl : Nat) : State :=
  if fl % 64 = 0 then s else s.wr (cellBase c + rAFLAGS) (s.rd (cellBase c + rAFLAGS) ||| BitVec.ofNat 64 (fl % 64 * 2 ^ field))

/-- CELL.NAN_CFG: bit 0 MODE, bit 1 INPUT. -/
def State.nanCfg (s : State) (c : Nat) : Nat := s.rf (cellBase c + rNANCFG) 1 0

/-- NAN_REC_LOC of an origin. -/
def NanOrigin.loc (o : NanOrigin) (c : Nat) : Nat :=
  2 ^ 63 + o.unit * 2 ^ 59 + o.stage * 2 ^ 55 + o.fmtA * 2 ^ 51 + o.fmtB * 2 ^ 47 + o.row * 2 ^ 42 + o.col * 2 ^ 37 + c

/-- Fill the NaN trap record (R104). -/
def State.nanFill (s : State) (c : Nat) (seq : Word64) (o : NanOrigin) : State :=
  let b := cellBase c
  ((((s.wr (b + rNANSEQ) seq).wr (b + rNANLOC) (BitVec.ofNat 64 (o.loc c))).wr (b + rNANK) (BitVec.ofNat 64 o.k)).wr
    (b + 0x428) (BitVec.ofNat 64 (o.aBits * 2 ^ 32 + o.bBits))).wr
    (b + 0x430) (BitVec.ofNat 64 (b2n o.scaledB * 2 ^ 17 + b2n o.scaledA * 2 ^ 16 + o.scaleA * 2 ^ 8 + o.scaleB))

/-- Clear the whole record, which re-arms it (R104). -/
def State.nanClear (s : State) (c : Nat) : State :=
  let b := cellBase c
  ((((s.wr (b + rNANSEQ) 0).wr (b + rNANLOC) 0).wr (b + rNANK) 0).wr (b + 0x428) 0).wr (b + 0x430) 0

/-- What one command's first origin does (R104): the record is filled, or MULTI is set; under RECORD, NAN_TRAP is raised when VALID goes from 0 to 1. -/
def State.nanReport (s : State) (c : Nat) (seq : Word64) (cfg : Nat) (o : NanOrigin) : State :=
  let b := cellBase c
  if s.rb (b + rNANLOC) 63 then s.wb (b + rNANLOC) 62 true
  else
    let s1 := s.nanFill c seq o
    if cfg % 2 = 1 then s1
    else s1.raise (s1.cellEvent c evNanTrap (s1.job c) (fld seq 31 0) (o.loc c) o.k)

/-- A command's first origin is found (R104): the record takes it in that cycle. A command without trap-enable has none to report; nothing is recorded while the cell is
killed (R80). -/
def State.nanSee (s : State) (c : Nat) (q : QCmd) (cfg : Nat) (old new : Option NanOrigin) : State :=
  match old, new with
  | none, some o => if !wTRAP q.word || (s.cell c).st == .killing || (s.cell c).st == .killed then s else s.nanReport c q.seq cfg o
  | _, _ => s

/-- A command that has an origin halts the cell as it completes, under HALT (R104). -/
def State.nanHalt (s : State) (c : Nat) (q : QCmd) (unit cfg : Nat) (o : Option NanOrigin) : State :=
  if o.isSome && wTRAP q.word && cfg % 2 == 1 && (s.cell c).st != .killing && (s.cell c).st != .killed then
    s.halt c { reason := .nanTrap, unit := unit, pc := q.pc, seq := q.seq, word := q.word }
  else s

/-- The earlier of two origins of one command, the first one kept (R103). -/
def firstOrigin (a b : Option NanOrigin) : Option NanOrigin := match a with
  | some x => some x
  | none => b

end Sys2Proof.Machine
end

