-- ==== Sys2Proof/Machine/Control.lean ====
section
/-! DEFINITION. The cell's control register and life cycle (R40 to R48, R74 to R81), and the control core's own opcodes, classes 0x0 and 0x5 (R57, R58, R65, R73), but for
LD and ST (LoadStore), PHASE (Fantail) and CELL.CTRL.KILL (Kill). -/

namespace Sys2Proof.Machine

/-! ### CELL.CTRL (R76, R77, R80) -/

/-- The channel register base of channel `ch` of a block (R188). -/
def chBase (b ch : Nat) : Nat := blockBase b + 0x1000 + 0x100 * ch
/-- Channel j of a cell. -/
def cellChan (c j : Nat) : Nat := 4 * cellPos c + j

/-- The registers of a cell that an accepted ARM clears (R40, R79, R104, R130, R154, R207). -/
def armCleared : List Nat :=
  [0xB0, rHALT, rFAULTSEQ, rFAULTLO, rFAULTHI, rFAULTADDR, rAFLAGS, rNANSEQ, rNANLOC, rNANK, 0x428, 0x430, 0x808, 0xC08, rSYNCERR, 0xE08, rWAITTARGET, rWAITEXPECT]
    ++ (upTo 64).map (fun i => 0x900 + 8 * i)

/-- Load TAIL.SR_STATE from a seed: zero loads 1 (R101, R124). -/
def State.loadSeed (s : State) (c : Nat) (seed : Nat) : State :=
  s.wr (cellBase c + 0x848) (BitVec.ofNat 64 (if seed % 2 ^ 32 = 0 then 1 else seed % 2 ^ 32))

/-- What accepting ARM from IDLE does besides the state change: s1–s31 and the registers of `armCleared` are zeroed, the generator, masks, program slots and channels
are set as R124, R154 and R174 give. -/
def State.armAccept (s : State) (c : Nat) : State :=
  let b := cellBase c
  let s1 := forEach ((upTo 31).map (fun i => 0x108 + 8 * i) ++ armCleared) s (fun s o => s.wr (b + o) 0)
  let s2 := s1.loadSeed c (s1.rf (b + 0x840) 31 0)
  let s3 := s2.setCell c { s2.cell c with masks := [], slots := [], fences := [], endReq := none }
  forEach [0, 1, 2, 3] s3 (fun s j =>
    let k := chBase (cellBlock c) (cellChan c j)
    let s := (s.wb (k + 8) 0 false).wb (k + 8) 8 false
    forEach [0x30, 0x38, 0x40, 0x48, 0x68] s (fun s o => s.wr (k + o) 0))

/-- Whether ARM is accepted (R40). -/
def State.armOk (s : State) (c : Nat) : Bool :=
  let b := cellBase c
  (s.cell c).st == .idle && s.job c != 0 && !(s.rb (b + 0x48) 12 && s.rd (b + 0x60) == 0)
    && (s.rb (b + 0x50) 63 || (s.ctrKey (s.cellPart c) (s.rf (b + 0x50) 21 3 * 8)).isSome)

/-- A write of CELL.CTRL.ARM (R40, R41). -/
def execCellArm (c : CellId) (s : State) : Out := powered s <|
  done s (if s.armOk c then (s.armAccept c).enterArmed c false else s.cmdReject c)

/-- A write of CELL.CTRL.DISARM (R76): the cell enters IDLE, which disarms its streams (R169). -/
def execCellDisarm (c : CellId) (s : State) : Out := powered s <|
  done s (if (s.cell c).st = .armed then
    let s1 := s.dropLaunchWait c
    ((s1.setCell c { s1.cell c with st := .idle }).disarmStreams c).idleTag c
  else s.cmdReject c)

/-- A write of CELL.CTRL.DRAIN (R76, R78): the core takes no further word, and waits are discarded. An END whose fence is not satisfied yet is dropped: the spec is silent on it,
so the model does not advance LAUNCH_EXPECT, and the cell goes to IDLE even with REARM (log 53, DESIGN CHOICE). -/
def execCellDrain (c : CellId) (s : State) : Out := powered s <|
  done s (match (s.cell c).st with
  | .running | .freezing | .frozen =>
    let s1 := s.dropLaunchWait c
    ((((s1.setCell c { s1.cell c with st := .draining, endReq := none }).withdrawSync c .discarded).syncReport c).disarmStreams c)
  | _ => s.cmdReject c)

/-- The registers that the kill form of a cell freezes and CLEAR zeroes (R78, R374). -/
def frozenRegs (c : Nat) : List Nat :=
  [0xA0, 0xA8, 0xB0, 0x98, 0x810, 0x818, 0x820, 0x8A0, 0x8A8, 0xC10, 0xC18].map (fun o => cellBase c + o)
    ++ [hrBase c + 0x18]
    ++ ([0, 1, 2, 3].map (fun j => [0x50, 0x58, 0x60].map (fun o => chBase (cellBlock c) (cellChan c j) + o))).flatten

/-- A write of CELL.CTRL.CLEAR (R76, R374): the frozen registers are zeroed and the freeze ends. -/
def execCellClear (c : CellId) (s : State) : Out := powered s <|
  .next (if (s.cell c).st = .killed then
    let s1 := forEach (frozenRegs c) s (fun s o => s.wr o 0)
    let s2 := forEach [0, 1, 2, 3] s1 (fun s j => s.wb (chBase (cellBlock c) (cellChan c j) + 8) 8 false)
    (s2.setCell c { s2.cell c with st := .idle, frozenCtrs := false }).idleTag c
  else s.cmdReject c)

/-- A write of CELL.CTRL.RESUME (R76): the program counter already names the word after the TRAP. -/
def execCellResume (c : CellId) (s : State) : Out := powered s <|
  .next (if (s.cell c).st = .halted && s.rf (cellBase c + rHALT) 7 0 == 0x0A then s.setCell c { s.cell c with st := .running }
  else s.cmdReject c)

/-- A CELL.CTRL write that changes FREEZE to 1 (R76, R77). -/
def execFreezeSet (c : CellId) (s : State) : Out := powered s <|
  .next (match (s.cell c).st with
  | .armed | .fetching | .running => s.setCell c { s.cell c with st := .freezing, prior := (s.cell c).st }
  | .freezing | .frozen => s
  | _ => s.cmdReject c)

/-- The end of a freeze (R76, R78, R207): what was held back is delivered, and an ARMED cell tests its launch counter again. -/
def State.freezeEnd (s : State) (c : Nat) : State :=
  let x := s.cell c
  let s1 := (s.setCell c { x with st := x.prior }).syncReport c
  if (s1.cell c).st = .armed then s1.armTest c else s1.idleTag c

/-- A CELL.CTRL write that changes FREEZE to 0 (R76, R77). -/
def execFreezeClear (c : CellId) (s : State) : Out := powered s <|
  done s (match (s.cell c).st with
  | .freezing | .frozen => s.freezeEnd c
  | _ => s)

/-- FREEZING becomes FROZEN when nothing executes (R76). -/
def execFreezeComplete (c : CellId) (s : State) : Out := powered s <|
  .next (if (s.cell c).st = .freezing && !s.executing c then
    let s1 := s.suspendSends c
    (s1.setCell c { s1.cell c with st := .frozen }).failSettle (s.cellPart c)
  else s)

/-- Enter IDLE. -/
def State.enterIdle (s : State) (c : Nat) : State :=
  ((s.setCell c { s.cell c with st := .idle, fetches := [], fences := [], endReq := none }).disarmStreams c).idleTag c

/-- DRAINING becomes IDLE when every queue is empty and nothing executes (R76). -/
def execCellDrainComplete (c : CellId) (s : State) : Out := powered s <|
  let x := s.cell c
  .next (if x.st = .draining && !s.executing c && x.qArray.isEmpty && x.qVector.isEmpty && x.qSluice.isEmpty && x.qSync.isEmpty
      && x.xSluice.isEmpty && x.xSync.isEmpty then s.enterIdle c else s)

/-- A write of CELL.JOB (R74). -/
def execCellJobWrite (c : CellId) (v : Word64) (s : State) : Out := powered s <|
  .next (if (s.cell c).st = .idle then s.wf (cellBase c + rJOB) 15 0 (fld v 15 0) else s.cmdReject c)

/-- Whether the debug registers may be written (R81). -/
def Cell.debuggable (x : Cell) : Bool := x.st == .idle || x.st == .frozen || x.st == .halted

/-- A write of CELL.SREGn (R81). -/
def execSregWrite (c : CellId) (n : Fin 32) (v : Word64) (s : State) : Out := powered s <|
  .next (if (s.cell c).debuggable then s.setSreg c n v else s.cmdReject c)

def rHINDEX : Nat := 0x200

/-- A write of HOPPER_DATA_LO (R81). -/
def execHopperDataLoWrite (c : CellId) (v : Word64) (s : State) : Out := powered s <|
  .next (if (s.cell c).debuggable then s.setCell c { s.cell c with holding := v } else s.cmdReject c)

/-- A write of HOPPER_DATA_HI (R81). -/
def execHopperDataHiWrite (c : CellId) (v : Word64) (s : State) : Out := powered s <|
  let x := s.cell c
  let i := s.rf (cellBase c + rHINDEX) 11 0
  .next (if x.debuggable then
    (s.setCell c { x with hopper := x.hopper.put {} i { bits := v ++ x.holding, status := .valid } }).wf (cellBase c + rHINDEX) 11 0 (i + 1)
  else s.cmdReject c)

/-- A read of HOPPER_DATA_HI, in any state, advances HOPPER_INDEX (R81). -/
def execHopperDataHiRead (c : CellId) (s : State) : Out := powered s <|
  .next (s.bump (cellBase c + rHINDEX) 11 0 1)

/-- A write of 1 to NAN_REC_LOC.VALID (R104). -/
def execNanRecClear (c : CellId) (s : State) : Out := powered s <| .next (s.nanClear c)

/-! ### Hopper fetches (R42, R44, R47, R48) -/

/-- The address of word `j` of a fetch. -/
def Fetch.wordAddr (f : Fetch) (j : Nat) : Word64 := f.addr + BitVec.ofNat 64 (16 * j)

/-- Where word `j` of a fetch lies in memory, if the fetch may read it (R44, R47). The rights of an HFETCH are judged over its whole range: one that faults reads nothing. -/
def State.fetchKey (s : State) (c : Nat) (f : Fetch) (j : Nat) : Option Nat :=
  let sp := fld f.addr 56 52
  let whole := f.launch || (fld f.addr 3 0 == 0 && fld f.addr 63 57 == 0
    && (match s.locate (s.cellRq c) false (fld f.addr 56 0) (16 * f.count) with | .mem _ => true | _ => false))
  match s.locate (s.cellRq c) false (fld (f.wordAddr j) 56 0) 16 with
  | .mem k => if (sp == 0 || sp == 2 || sp == 3) && whole then some k else none
  | _ => none

/-- What word `j` of a fetch brings into a hopper word: its bits, or why it did not arrive (R44, R47). R81 does not say what bits a word that did not arrive holds: the model leaves
those it held (log 53, DESIGN CHOICE). -/
def State.fetchWord (s : State) (c : Nat) (f : Fetch) (j : Nat) (res : AccessResult) (old : HWord) : HWord :=
  match s.fetchKey c f j with
  | none => { old with status := .failed .addressFault (f.wordAddr j) }
  | some k =>
    if res = .error then { old with status := .failed .fetchError (f.wordAddr j) }
    else
      let bs := s.viewPB k 16
      if res = .poison || bs.any (fun x => x.2) then { old with status := .failed .poison (f.wordAddr j) }
      else { bits := BitVec.ofNat 128 (ofBytes (bs.map (fun x => x.1))), status := .valid }

/-- The next word of the oldest fetch arrives; a word that a later outstanding HFETCH covers stays pending for it (R47). -/
def State.fetchArrive (s : State) (c : Nat) (res : AccessResult) : State :=
  let x := s.cell c
  match x.fetches with
  | [] => s
  | f :: rest =>
    let j := f.arrived
    let s := match s.fetchKey c f j with
      | some k => s.checkPB k 16
      | none => s
    let i := (f.first + j) % 4096
    let h := s.fetchWord c f j res (x.hopper.get {} i)
    let covered := rest.any (fun g => decide ((i + 4096 - g.first) % 4096 < g.count))
    let hop := if covered then x.hopper else x.hopper.put {} i h
    let fs := if j + 1 < f.count then { f with arrived := j + 1 } :: rest else rest
    let s1 := (s.setCell c { x with hopper := hop, fetches := fs }).unhold (.fetch c)
    match s.fetchKey c f j with
    | some k => s1.countMem mRDBYTES k 16
    | none => s1

/-- The busy set that the next word of a fetch waits for, if any (R35). -/
def State.fetchHeld (s : State) (c : Nat) (f : Fetch) : Option (Nat × Nat) := (s.fetchKey c f f.arrived).bind (fun k => s.busyAt k 16)

/-- A launch-fetched word arrives (R42); word 0 moves the cell to RUNNING, or halts it if it did not arrive (R44). -/
def execLaunchFetchWord (c : CellId) (res : AccessResult) (s : State) : Out := powered s <|
  let x := s.cell c
  match x.fetches with
  | f :: _ =>
    if f.launch && (x.st == .fetching || x.st == .running || x.st == .freezing || x.st == .halted || x.st == .draining) then
      match s.fetchHeld c f with
      | some d => .next (s.hold d (.fetch c))
      | none =>
      let first := f.arrived == 0
      let s1 := s.fetchArrive c res
      let y := s1.cell c
      if first && y.st == .fetching then
        match (y.hopper.get {} 0).status with
        | .failed .addressFault a => done s (s1.halt c { reason := .addressFault, unit := 0, pc := 0, seq := s1.opseq c, addr := a })
        | .failed .fetchError a => done s (s1.halt c { reason := .fetchError, unit := 0, pc := 0, seq := s1.opseq c, addr := a })
        | .failed .poison a => done s (s1.halt c { reason := .poison, unit := 0, pc := 0, seq := s1.opseq c, addr := a })
        | _ => .next (s1.setCell c { y with st := .running })
      else if first && y.st == .freezing && y.prior == .fetching then .next (s1.setCell c { y with prior := .running })
      else .next s1
    else .next s
  | [] => .next s

/-- A word of the oldest outstanding HFETCH arrives, or fails (R47, R48). -/
def execHfetchWordArrive (c : CellId) (res : AccessResult) (s : State) : Out := powered s <|
  let x := s.cell c
  match x.fetches with
  | f :: _ => .next (if f.launch || x.st == .killing || x.st == .killed then s else match s.fetchHeld c f with
    | some d => s.hold d (.fetch c)
    | none => s.fetchArrive c res)
  | [] => .next s

/-! ### Class 0x0 (R57) -/

/-- NOP (R57). The row also stands for the words that no opcode's row can name: an illegal class or opcode, and a hopper word that is not loaded or did not
arrive (R46, R54, R59). -/
def execNop (c : CellId) (s : State) : Out := powered s <|
  done s (match s.wordAt c with
  | none => (match s.take c with
    | .halt s1 => s1
    | _ => s)
  | some w =>
    if (layoutOf (wcode w)).isNone then (match s.take c with
      | .halt s1 => s1
      | _ => s)
    else s.core c cNOP (fun _ _ _ s1 => s1))

/-- A three-register operation (layout A). -/
def State.aluA (s : State) (c code : Nat) (f : Word64 → Word64 → Word64) : State :=
  s.core c code (fun w _ _ s1 => s1.setSreg c (fRd w) (f (s1.sreg c (fRa w)) (s1.sreg c (fRb w))))

/-- An operation with an immediate (layout I). -/
def State.aluI (s : State) (c code : Nat) (f : Word64 → Word64 → Word64) : State :=
  s.core c code (fun w _ _ s1 => s1.setSreg c (fRd w) (f (s1.sreg c (fRa w)) (fImm w)))

def ofBool64 (b : Bool) : Word64 := if b then 1 else 0
def shl64 (a b : Word64) : Word64 := a <<< (fld b 5 0)
def shr64 (a b : Word64) : Word64 := a >>> (fld b 5 0)
def sra64 (a b : Word64) : Word64 := a.sshiftRight (fld b 5 0)

def execAdd (c : CellId) (s : State) : Out := powered s <| done s (s.aluA c 0x008 (fun a b => a + b))
def execSub (c : CellId) (s : State) : Out := powered s <| done s (s.aluA c 0x009 (fun a b => a - b))
/-- MUL: the value lands within the three cycles that the model leaves out (R50, R57). -/
def execMul (c : CellId) (s : State) : Out := powered s <| done s (s.aluA c 0x00A (fun a b => a * b))
def execAndW (c : CellId) (s : State) : Out := powered s <| done s (s.aluA c 0x00C (fun a b => a &&& b))
def execOrW (c : CellId) (s : State) : Out := powered s <| done s (s.aluA c 0x00D (fun a b => a ||| b))
def execXorW (c : CellId) (s : State) : Out := powered s <| done s (s.aluA c 0x00E (fun a b => a ^^^ b))
def execShl (c : CellId) (s : State) : Out := powered s <| done s (s.aluA c 0x010 shl64)
def execShr (c : CellId) (s : State) : Out := powered s <| done s (s.aluA c 0x011 shr64)
def execSra (c : CellId) (s : State) : Out := powered s <| done s (s.aluA c 0x012 sra64)
def execSlt (c : CellId) (s : State) : Out := powered s <| done s (s.aluA c 0x014 (fun a b => ofBool64 (BitVec.slt a b)))
def execSltu (c : CellId) (s : State) : Out := powered s <| done s (s.aluA c 0x015 (fun a b => ofBool64 (BitVec.ult a b)))
def execSeq (c : CellId) (s : State) : Out := powered s <| done s (s.aluA c 0x016 (fun a b => ofBool64 (a == b)))
def execAddi (c : CellId) (s : State) : Out := powered s <| done s (s.aluI c 0x020 (fun a b => a + b))
def execAndi (c : CellId) (s : State) : Out := powered s <| done s (s.aluI c 0x024 (fun a b => a &&& b))
def execOri (c : CellId) (s : State) : Out := powered s <| done s (s.aluI c 0x025 (fun a b => a ||| b))
def execXori (c : CellId) (s : State) : Out := powered s <| done s (s.aluI c 0x026 (fun a b => a ^^^ b))
def execShli (c : CellId) (s : State) : Out := powered s <| done s (s.aluI c 0x028 shl64)
def execShri (c : CellId) (s : State) : Out := powered s <| done s (s.aluI c 0x029 shr64)
def execSrai (c : CellId) (s : State) : Out := powered s <| done s (s.aluI c 0x02A sra64)
def execSlti (c : CellId) (s : State) : Out := powered s <| done s (s.aluI c 0x02C (fun a b => ofBool64 (BitVec.slt a b)))
def execSltiu (c : CellId) (s : State) : Out := powered s <| done s (s.aluI c 0x02D (fun a b => ofBool64 (BitVec.ult a b)))
def execSeqi (c : CellId) (s : State) : Out := powered s <| done s (s.aluI c 0x02E (fun a b => ofBool64 (a == b)))
def execMovi (c : CellId) (s : State) : Out := powered s <| done s (s.core c 0x02F (fun w _ _ s1 => s1.setSreg c (fRd w) (fImm w)))

/-- A conditional branch (layout B): ra is bits [111:107], rb bits [106:102]. -/
def State.branch (s : State) (c code : Nat) (p : Word64 → Word64 → Bool) : State :=
  s.core c code (fun w _ _ s1 =>
    if p (s1.sreg c (fld w 111 107)) (s1.sreg c (fld w 106 102)) then s1.setPc c (fTarget w) else s1)

def execBeq (c : CellId) (s : State) : Out := powered s <| done s (s.branch c 0x040 (fun a b => a == b))
def execBne (c : CellId) (s : State) : Out := powered s <| done s (s.branch c 0x041 (fun a b => a != b))
def execBlt (c : CellId) (s : State) : Out := powered s <| done s (s.branch c 0x042 BitVec.slt)
def execBge (c : CellId) (s : State) : Out := powered s <| done s (s.branch c 0x043 (fun a b => !BitVec.slt a b))
def execBltu (c : CellId) (s : State) : Out := powered s <| done s (s.branch c 0x044 BitVec.ult)
def execBgeu (c : CellId) (s : State) : Out := powered s <| done s (s.branch c 0x045 (fun a b => !BitVec.ult a b))
def execJmp (c : CellId) (s : State) : Out := powered s <| done s (s.core c 0x046 (fun w _ _ s1 => s1.setPc c (fTarget w)))
def execCall (c : CellId) (s : State) : Out := powered s <|
  done s (s.core c 0x047 (fun w pc _ s1 => (s1.setSreg c 31 (BitVec.ofNat 64 ((pc + 1) % 4096))).setPc c (fTarget w)))
def execRet (c : CellId) (s : State) : Out := powered s <| done s (s.core c 0x048 (fun _ _ _ s1 => s1.setPc c (fld (s1.sreg c 31) 11 0)))
def execJr (c : CellId) (s : State) : Out := powered s <| done s (s.core c 0x049 (fun w _ _ s1 => s1.setPc c (fld (s1.sreg c (fld w 111 107)) 11 0)))
/-- DBNZ: the register is decremented, then tested as it reads. -/
def execDbnz (c : CellId) (s : State) : Out := powered s <|
  done s (s.core c 0x04A (fun w _ _ s1 =>
    let r := fld w 111 107
    let s2 := s1.setSreg c r (s1.sreg c r - 1)
    if s2.sreg c r != 0 then s2.setPc c (fTarget w) else s2))

/-- Outstanding HFETCHes (R47). -/
def Cell.hfetches (x : Cell) : Nat := (x.fetches.filter (fun f => !f.launch)).length

/-- Mark `n` hopper words from `i` on pending (R47). -/
def markPending (h : Table HWord) (i n : Nat) : Table HWord :=
  (upTo n).foldl (fun h j => h.put {} ((i + j) % 4096) { (h.get {} ((i + j) % 4096)) with status := .pending }) h

/-- HFETCH (R47): the destination words become pending; a fifth outstanding HFETCH stalls. -/
def execHfetch (c : CellId) (s : State) : Out := powered s <|
  done s (s.core c cHFETCH (fun w _ seq s1 =>
    let x := s1.cell c
    if 4 ≤ x.hfetches then s
    else
      let first := fld w 101 90
      let n := fld w 89 78 + 1
      s1.setCell c { x with
        hopper := markPending x.hopper first n,
        fetches := x.fetches ++ [{ launch := false, addr := s1.sreg c (fld w 111 107), first := first, count := n, arrived := 0, acq := wACQ w, seq := seq }] }))

/-- HWAIT (R47). -/
def execHwait (c : CellId) (s : State) : Out := powered s <|
  done s (s.core c cHWAIT (fun _ _ _ s1 => if (s1.cell c).hfetches ≠ 0 then s else s1))

/-- The package coordinate of a partition, packed (R58); zeros while none is held. -/
def State.coordOf (s : State) (p : Nat) : Nat :=
  match s.module.coord with
  | some (pl, g, m) => p + m * 2 ^ 3 + g * 2 ^ 7 + pl * 2 ^ 13
  | none => p

/-- RDCNT (R58). The clock readings of selectors 0 and 5 are free values; selector 5 is a multiple of the 40 ns resolution, of 1,000 ns in secure mode. -/
def execRdcnt (c : CellId) (s : State) : Out := powered s <|
  done s (s.core c cRDCNT (fun w _ seq s1 =>
    let rd := fRd w
    match fld w 106 103 with
    | 0 => let (v, s2) := s1.fresh; s2.setSreg c rd v
    | 1 => s1.setSreg c rd seq
    | 2 => s1.setSreg c rd (BitVec.ofNat 64 c)
    | 3 => s1.setSreg c rd (BitVec.ofNat 64 (s1.job c))
    | 4 => s1.setSreg c rd (BitVec.ofNat 64 (s1.coordOf (s1.cellPart c)))
    | _ =>
      let (v, s2) := s1.fresh
      let u := if s1.partSecure (s1.cellPart c) then 1000 else 40
      s2.setSreg c rd (BitVec.ofNat 64 (v.toNat / u * u))))

/-! ### END and class 0x5 (R43, R65, R73) -/

/-- END (R43): an implicit fence at its scope. -/
def execEndRun (c : CellId) (s : State) : Out := powered s <|
  done s (s.core c cEND (fun w pc seq s1 =>
    s1.setCell c { s1.cell c with endReq := some { seq := seq, scope := fld w 111 109, pc := pc, word := w } }))

/-- The end of a run (R43): IDLE, or a re-arm with LAUNCH_EXPECT advanced by LAUNCH_STRIDE. Under a freeze the new state is taken when the freeze ends. The spec is silent on words of
the launch fetch that are still in flight: they are dropped, so that a re-arm with KEEP finds them unloaded (log 53, DESIGN CHOICE). -/
def State.endOfRun (s : State) (c : Nat) : State :=
  let b := cellBase c
  let s0 := s.setCell c { s.cell c with endReq := none, fetches := [], fences := [] }
  let frozen := (s0.cell c).st != .running
  if s0.rb (b + 0x48) 12 then
    let s1 := (s0.wr (b + 0x58) (s0.rd (b + 0x58) + s0.rd (b + 0x60))).wr (b + rOPSEQ) 0
    if frozen then
      let s2 := s1.latchLaunch c true
      s2.setCell c { s2.cell c with prior := .armed }
    else s1.enterArmed c true
  else if frozen then (s0.setCell c { s0.cell c with prior := .idle }).disarmStreams c
  else s0.enterIdle c

/-- END's fence is satisfied (R43). -/
def execEndComplete (c : CellId) (s : State) : Out := powered s <|
  let x := s.cell c
  match x.endReq with
  | none => .next s
  | some e => done s (if (x.st == .running || x.st == .freezing) && x.earlierDone 31 e.scope e.seq then s.endOfRun c else s)

/-- FENCE (R65). -/
def execFence (c : CellId) (s : State) : Out := powered s <|
  done s (s.core c cFENCE (fun w _ seq s1 =>
    s1.setCell c { s1.cell c with
      fences := (s1.cell c).fences ++ [{ seq := seq, scope := fld w 111 109, wait := fld w 108 104, hold := fld w 103 99 }] }))

/-- Pending fence `i` is satisfied when everything it waits for has completed and is performed (R65). -/
def execFenceSatisfied (c : CellId) (i : Nat) (s : State) : Out := powered s <|
  let x := s.cell c
  match x.fences[i]? with
  | none => .next s
  | some f => .next (if x.earlierDone f.wait f.scope f.seq then s.setCell c { x with fences := dropAt x.fences i } else s)

/-- TRAP (R73): USER_TRAP is raised; mode 1 halts the cell. -/
def execTrap (c : CellId) (s : State) : Out := powered s <|
  done s (s.core c cTRAP (fun w pc seq s1 =>
    let s2 := s1.raise (s1.cellEvent c evUserTrap (s1.job c) (fld w 111 96) seq.toNat (s1.sreg c (fld w 93 89)).toNat)
    if fld w 95 94 = 1 then s2.halt c { reason := .userTrap, unit := 0, pc := pc, seq := seq, word := w } else s2))

end Sys2Proof.Machine
end

