-- ==== Sys2Proof/Machine/Headrace.lean ====
section
/-! DEFINITION. The headrace input buffer of a cell (R183 to R187): what its own array takes, what leaves, and what it may accept. -/

namespace Sys2Proof.Machine

/-- HR.CFGc: ROLE, FWD, LOW and HIGH in KiB (R188). -/
def State.hrRole (s : State) (c : Nat) : Nat := s.rf (hrBase c) 1 0
def State.hrLow (s : State) (c : Nat) : Nat := s.rf (hrBase c) 12 8
def State.hrHigh (s : State) (c : Nat) : Nat := s.rf (hrBase c) 20 16

def hrSTATUS : Nat := 8
def hrHWM : Nat := 0x10
def hrBYTES : Nat := 0x18

/-- HR.STATUS.LEVEL: bytes in the buffer. -/
def Headrace.level (h : Headrace) : Nat := (h.items.filter (fun i => i.byte.isSome)).length

/-- HR.STATUS.OPEN: the last item that the cell accepted was no marker. -/
def Headrace.isOpen (h : Headrace) : Bool := h.opened

/-- What the array finds at the front of the unconsumed stream when it needs `n` bytes. -/
inductive HrTake where
  | bytes (bs : List PByte)
  | wait
  /-- The marker lies `before` bytes on, short of what is needed (R186). -/
  | short (before : Nat)
deriving DecidableEq, Repr

def HrTake.ofList : Nat → List HrItem → Nat → List PByte → HrTake
  | 0, _, _, acc => .bytes acc.reverse
  | _ + 1, [], _, _ => .wait
  | n + 1, i :: is, k, acc => match i.byte with
    | some b => HrTake.ofList n is (k + 1) (b :: acc)
    | none => .short k

/-- The next `n` bytes of the cell's stream (R110, R186). -/
def State.hrPeek (s : State) (c n : Nat) : HrTake :=
  let h := (s.cell c).headrace
  HrTake.ofList n (h.items.drop h.consumed) 0 []

/-- Consume `n` items (R185). -/
def State.hrConsume (s : State) (c n : Nat) : State :=
  let h := (s.cell c).headrace
  (s.setHr c { h with consumed := h.consumed + n }).hrTrim c

/-- A headrace command begins: a marker at the head is removed (R186). -/
def State.hrBegin (s : State) (c : Nat) : State :=
  let h := (s.cell c).headrace
  match (h.items.drop h.consumed).head? with
  | some i => if i.byte.isNone then s.hrConsume c 1 else s
  | none => s

/-- The buffer of 32 KiB may take `n` more bytes. -/
def Headrace.room (h : Headrace) (n : Nat) : Bool := decide (h.level + n ≤ 32768)

/-- Accept items into a cell's buffer, with HR.BYTES and HR.HWM (R188). A marker is an item of no length. -/
def State.hrAccept (s : State) (c : Nat) (is : List HrItem) : State :=
  let x := s.cell c
  let h := { x.headrace with
    items := x.headrace.items ++ is,
    opened := match is.getLast? with
      | some i => i.byte.isSome
      | none => x.headrace.opened }
  let n := (is.filter (fun i => i.byte.isSome)).length
  let s1 := (s.setHr c h).high (hrBase c + hrHWM) 15 0 h.level
  let s2 := if x.frozenCtrs then s1 else s1.bump (hrBase c + hrBYTES) 63 0 n
  if x.hrBypass then s2.hrTrim c else s2

end Sys2Proof.Machine
end

