-- ==== Sys2Proof/Machine/Array.lean ====
section
/-! DEFINITION. The matrix array (R105 to R119, R435): descriptors and their checks, TDLD, AFILL, MMA and its slices, and the completion of array commands. -/

namespace Sys2Proof.Machine

/-! ### Sets and descriptors -/

/-- Offset of a set's window in its cell (R28, R111). -/
def setOff (n : Nat) : Nat := 0x40_0000 + 0x1000 * n

/-- The space 3 address of a byte of a cell in the form of its own window (R28). -/
def ownAddr (c off : Nat) : Word64 := BitVec.ofNat 64 (3 * 2 ^ 52 + c * 0x80_0000 + off)

/-- The first poisoned piece of runs of bytes read in order: its offset in the cell. -/
def State.poisonIn (s : State) (c : Nat) : List (Nat × Nat) → Option Nat
  | [] => none
  | (off, n) :: rest =>
    match (touched off n 32).find? (fun i => s.poisoned (cellKey c (32 * i))) with
    | some i => if n = 0 then State.poisonIn s c rest else some (32 * i)
    | none => State.poisonIn s c rest

/-- The address CELL.FAULT_ADDR takes for the first poisoned piece read (R435, R436). -/
def State.poisonAddr (s : State) (c : Nat) (runs : List (Nat × Nat)) : Option Word64 := (s.poisonIn c runs).map (ownAddr c)

/-- The earlier of two poison finds. -/
def firstAddr (a b : Option Word64) : Option Word64 := match a with
  | some x => some x
  | none => b

/-- Register offset of word `w` of descriptor register `n` (R130). -/
def rTD (n w : Nat) : Nat := 0x900 + 32 * n + 8 * w

/-- A descriptor register as a number of 256 bits. -/
def State.td (s : State) (c n : Nat) : Nat :=
  (upTo 4).foldl (fun a w => a + (s.rd (cellBase c + rTD n w)).toNat * 2 ^ (64 * w)) 0

def dADDR (d : Nat) : Nat := nbits d 21 0
def dLAYOUT (d : Nat) : Nat := nbits d 22 22
def dSRC (d : Nat) : Nat := nbits d 24 23
def dSTRIDE (d : Nat) : Nat := nbits d 85 64
def dSCALE (d : Nat) : Nat := nbits d 149 128
def dSSTRIDE (d : Nat) : Nat := nbits d 213 192

/-- Reserved bits of an operand or output descriptor (R107). -/
def dReserved (d : Nat) : Bool := nbits d 255 214 != 0 || nbits d 191 150 != 0 || nbits d 127 86 != 0 || nbits d 63 25 != 0

/-- One array check that failed: its code and descriptor register (R118). -/
abbrev ArrFail := Nat × Nat

/-- The failure that ARR.ERR records: the lowest code, and the first descriptor in field order (R118). -/
def lowestFail (fs : List ArrFail) : Option ArrFail :=
  fs.foldl (fun a f => match a with
    | none => some f
    | some b => if f.1 < b.1 then some f else some b) none

/-- The failures whose condition holds. -/
def failsOf (l : List (Bool × ArrFail)) : List ArrFail := (l.filter (fun x => x.1)).map (fun x => x.2)

def rARRERR : Nat := 0x808

/-- Record an error in ARR.ERR and halt (R118). -/
def State.arrErr (s : State) (c : Nat) (q : QCmd) (code td tag : Nat) : State :=
  let set := if wcode q.word = cTDLD then 0 else fld q.word 111 110
  (s.wr (cellBase c + rARRERR) (BitVec.ofNat 64 (code + wcode q.word % 256 * 2 ^ 10 + set * 2 ^ 18 + td * 2 ^ 20 + tag * 2 ^ 32))).halt c
    { reason := .engineError, unit := 1, pc := q.pc, seq := q.seq, word := q.word }

/-- A begun array command runs: the oldest one not yet started, if it has the row's opcode (R119). -/
def State.arrExec (s : State) (c code : Nat) (f : ArrX → State → State × ArrX) (check : ArrX → List ArrFail) : State :=
  let x := s.cell c
  match findIdx (fun y => !y.started) x.xArray with
  | none => s
  | some i =>
    match x.xArray[i]? with
    | none => s
    | some y =>
      if wcode y.cmd.word ≠ code then s
      else match lowestFail (check y) with
        | some (e, td) => (s.setCell c { x with xArray := dropAt x.xArray i }).arrErr c y.cmd e td 0
        | none =>
          let (s1, y1) := f y s
          (s1.setCell c { s1.cell c with xArray := setAt (s1.cell c).xArray i { y1 with started := true } }).nanSee c y.cmd y.nanCfg y.origin y1.origin

/-- Report the command at the front when it has finished: the halt for its NaN origin, its error, its poison (R104, R118, R119, R435). -/
def State.arrReport (s : State) (c : Nat) : State :=
  let x := s.cell c
  match x.xArray with
  | [] => s
  | y :: rest =>
    if !y.finished then s
    else
      let s1 := (s.setCell c { x with xArray := rest }).nanHalt c y.cmd 1 y.nanCfg y.origin
      let s2 := match y.err with
        | some (code, td, tag) => s1.arrErr c y.cmd code td tag
        | none => s1
      match y.poisonAt with
      | some a => s2.halt c { reason := .poison, unit := 1, pc := y.cmd.pc, seq := y.cmd.seq, word := y.cmd.word, addr := a }
      | none => s2

/-- The command at the front completes (R61, R119). -/
def execArrayCommandComplete (c : CellId) (s : State) : Out := powered s <| done s (s.arrReport c)

/-- A command's work is over: it is finished, its set released. -/
def ArrX.end (y : ArrX) : ArrX := { y with finished := true, setFree := true }

/-! ### TDLD, AFILL -/

/-- TDLD (R115, R436). -/
def execTdld (c : CellId) (ph : Phase) (s : State) : Out := powered s <|
  match ph with
  | .dispatch => done s (s.dispatch c cTDLD)
  | .execute => done s (s.arrExec c cTDLD
      (fun y s =>
        let a := fld y.cmd.word 107 86
        match s.poisonAddr c [(a, 32)] with
        | some p => (s, { y.end with poisonAt := some p })
        | none =>
          let n := fld y.cmd.word 111 108
          (forEach (upTo 4) s (fun s w => s.wr (cellBase c + rTD n w) (BitVec.ofNat 64 (ofBytes (s.readB (cellKey c (a + 8 * w)) 8)))), y.end))
      (fun y =>
        let a := fld y.cmd.word 107 86
        failsOf [(a % 16 != 0, (2, fld y.cmd.word 111 108)), (decide (0x40_0000 < a + 32), (3, fld y.cmd.word 111 108))]))

/-- Write a whole set: the elements and which of them carry poison. -/
def State.writeSet (s : State) (c n : Nat) (es : List (Nat × Bool)) : State :=
  s.writePB (cellKey c (setOff n)) (es.flatMap (fun e => (toBytes 4 e.1).map (fun b => (b, e.2))))

/-- Every element of a set with whether its piece holds poison. -/
def State.readSet (s : State) (c n : Nat) : List (Nat × Bool) :=
  (upTo 1024).map (fun i => (ofBytes (s.readB (cellKey c (setOff n + 4 * i)) 4), s.poisoned (cellKey c (setOff n + 4 * i))))

/-- AFILL (R115). -/
def execAfill (c : CellId) (ph : Phase) (s : State) : Out := powered s <|
  match ph with
  | .dispatch => done s (s.dispatch c cAFILL)
  | .execute => done s (s.arrExec c cAFILL
      (fun y s => (s.writeSet c (fld y.cmd.word 111 110) (List.replicate 1024 (fld (y.cmd.ops.getD 0 0) 31 0, false)), y.end))
      (fun _ => []))

/-! ### MMA: what a command is -/

/-- One operand of an MMA: its descriptor register and the fields of the word (R115). -/
structure MOp where
  td : Nat
  d : Nat
  fmt : Nat
  signed : Bool
  mx : Bool
deriving DecidableEq, Repr

/-- An MMA's fields. -/
structure Mma where
  set : Nat
  a : MOp
  b : MOp
  zero : Bool
  k : Nat
  koff : Nat
  w : Nat
  int : Bool
deriving DecidableEq, Repr

def State.mmaOf (s : State) (c : Nat) (q : QCmd) : Mma :=
  let w := q.word
  let ta := fld w 109 106
  let tb := fld w 105 102
  let p := (pairW (fld w 100 97) (fld w 96 93) (bit w 90) (bit w 89)).getD (4, false)
  { set := fld w 111 110, zero := bit w 101, k := fld w 88 69 + 1, koff := (q.ops.getD 0 0).toNat, w := p.1, int := p.2,
    a := { td := ta, d := s.td c ta, fmt := fld w 100 97, signed := bit w 92, mx := bit w 90 },
    b := { td := tb, d := s.td c tb, fmt := fld w 96 93, signed := bit w 91, mx := bit w 89 } }

/-- Slices of an MMA (R92). -/
def Mma.slices (m : Mma) : Nat := (m.k + m.w - 1) / m.w

/-- The first byte past what an operand in the store reads over K indices koff to koff + k − 1 (R108). -/
def MOp.endByte (o : MOp) (koff k : Nat) : Nat :=
  let w := fmtBits o.fmt
  if dLAYOUT o.d = 0 then dADDR o.d + 31 * dSTRIDE o.d + (w * (koff + k) + 7) / 8
  else dADDR o.d + (koff + k - 1) * dSTRIDE o.d + 4 * w

/-- The first byte past the scales an MX operand in the store reads (R109). -/
def MOp.scaleEnd (o : MOp) (koff k : Nat) : Nat :=
  let nb := (k + 31) / 32
  if dLAYOUT o.d = 0 then dSCALE o.d + 31 * dSSTRIDE o.d + koff / 32 + nb else dSCALE o.d + (koff / 32 + nb - 1) * dSSTRIDE o.d + 32

/-- Whether koff breaks R108's alignment for an operand. -/
def MOp.koffBad (o : MOp) (koff : Nat) : Bool :=
  ((o.fmt == 7 || o.fmt == 9) && koff % 2 != 0) || ((o.fmt == 5 || o.fmt == 6) && koff % 4 != 0) || (o.mx && koff % 32 != 0)

/-- The checks on one operand (R118). -/
def Mma.opFails (m : Mma) (o : MOp) (isB : Bool) : List ArrFail :=
  let store := dSRC o.d == 0
  let stream := isB && dSRC o.d == 1
  failsOf [
    (dReserved o.d, (1, o.td)),
    (dADDR o.d % 16 != 0 || dSTRIDE o.d % 16 != 0, (2, o.td)),
    (store && (decide (0x40_0000 < o.endByte m.koff m.k) || (o.mx && decide (0x40_0000 < o.scaleEnd m.koff m.k))), (3, o.td)),
    (!stream && o.koffBad m.koff, (4, o.td)),
    (decide (2 ≤ dSRC o.d) || (!isB && dSRC o.d == 1) || (stream && (dADDR o.d != 0 || dSTRIDE o.d != 0 || dLAYOUT o.d != 0)), (5, o.td)),
    (stream && m.k % m.w != 0, (6, o.td))]

/-! ### MMA: one slice (R91 to R93, R105, R108 to R110) -/

/-- `n` elements of `w` bits from a byte offset on, each with whether it draws on poison. -/
def elemsOf (w n : Nat) (bs : List PByte) : List (Nat × Bool) :=
  let raw := bs.map (fun x => x.1)
  (upTo n).map (fun i =>
    (elemOfBytes w raw i, ((bs.drop (w * i / 8)).take ((w * i + w - 1) / 8 + 1 - w * i / 8)).any (fun x => x.2)))

/-- Element lists of the 32 rows or columns of a slice, K indices k0 to k0 + n − 1 (R108); an element draws on the pieces its bytes lie in. -/
def State.operandRows (s : State) (c : Nat) (o : MOp) (koff k0 n : Nat) : List (List (Nat × Bool)) :=
  let w := fmtBits o.fmt
  if dLAYOUT o.d = 0 then
    (upTo 32).map (fun i => elemsOf w n (s.readPB (cellKey c (dADDR o.d + i * dSTRIDE o.d + w * (koff + k0) / 8)) ((w * n + 7) / 8)))
  else
    let runs := (upTo n).map (fun j => elemsOf w 32 (s.readPB (cellKey c (dADDR o.d + (koff + k0 + j) * dSTRIDE o.d)) (4 * w)))
    (upTo 32).map (fun i => runs.map (fun r => r.getD i (0, false)))

/-- The bytes that `operandRows` reads, in the order of rows, or of K where the operand is K-strided. -/
def MOp.sliceRuns (o : MOp) (koff k0 n : Nat) : List (Nat × Nat) :=
  let w := fmtBits o.fmt
  if dLAYOUT o.d = 0 then (upTo 32).map (fun i => (dADDR o.d + i * dSTRIDE o.d + w * (koff + k0) / 8, (w * n + 7) / 8))
  else (upTo n).map (fun j => (dADDR o.d + (koff + k0 + j) * dSTRIDE o.d, 4 * w))

/-- Offset of the scale of row or column i, block j (R109). -/
def MOp.scaleOff (o : MOp) (koff i j : Nat) : Nat :=
  if dLAYOUT o.d = 0 then dSCALE o.d + i * dSSTRIDE o.d + koff / 32 + j else dSCALE o.d + (koff / 32 + j) * dSSTRIDE o.d + i

/-- The scales of the blocks that a slice's K indices lie in, one list per row or column. -/
def State.operandScales (s : State) (c : Nat) (o : MOp) (koff k0 n : Nat) : List (List (Nat × Bool)) :=
  if o.mx then
    (upTo 32).map (fun i => (upTo ((k0 + n - 1) / 32 - k0 / 32 + 1)).map (fun j =>
      let off := o.scaleOff koff i (k0 / 32 + j)
      ((s.memB (cellKey c off)).toNat, s.poisoned (cellKey c off))))
  else List.replicate 32 []

/-- The scale bytes that `operandScales` reads. -/
def MOp.scaleRuns (o : MOp) (koff k0 n : Nat) : List (Nat × Nat) :=
  if o.mx then ((upTo 32).map (fun i => (upTo ((k0 + n - 1) / 32 - k0 / 32 + 1)).map (fun j => (o.scaleOff koff i (k0 / 32 + j), 1)))).flatten
  else []

/-- Bytes of headrace payload per slice with its scales (R110). -/
def Mma.streamBytes (m : Mma) : Nat := 4 * m.w * fmtBits m.b.fmt + (if m.b.mx then 32 * (m.w / 32) else 0)

/-- The columns of a slice payload from the headrace, and their scales (R110). -/
def Mma.streamRows (m : Mma) (bs : List PByte) : List (List (Nat × Bool)) × List (List (Nat × Bool)) :=
  let w := fmtBits m.b.fmt
  let run := m.w * w / 8
  let cols := (upTo 32).map (fun j => elemsOf w m.w ((bs.drop (j * run)).take run))
  let sc := bs.drop (32 * run)
  (cols, if m.b.mx then (upTo 32).map (fun j => (upTo (m.w / 32)).map (fun q =>
      match sc[32 * q + j]? with
      | some x => (x.1.toNat, x.2)
      | none => (127, false)))
    else List.replicate 32 [])

/-- One row or column of a slice, ready: exact element values, raw encodings, scales, and whether anything it draws on is poison. -/
structure Lane where
  vals : List FpVal
  ints : List Int
  raw : List Nat
  scales : List Nat
  pz : Bool
deriving DecidableEq, Repr

/-- Make lanes of an operand's rows and scales. -/
def lanesOf (o : MOp) (rows scales : List (List (Nat × Bool))) : List Lane :=
  (rows.zip scales).map (fun (r, sc) =>
    { vals := r.map (fun e => elemVal o.fmt o.signed o.mx e.1), ints := if isIntFmt o.fmt then r.map (fun e => elemInt o.fmt o.signed e.1) else [],
      raw := r.map (fun e => e.1), scales := sc.map (fun e => e.1), pz := r.any (fun e => e.2) || sc.any (fun e => e.2) })

/-- A NaN origin inside one unit: stage, K index, and what the record holds of it. The scales are those of a product's elements (stages 0 and 8); R104 names no scale for the addends
of stages 1 to 7, and the model records 0 there (log 36, DESIGN CHOICE). -/
structure UnitOrigin where
  stage : Nat
  k : Nat
  a : Nat
  b : Nat
  sa : Nat := 0
  sb : Nat := 0
deriving DecidableEq, Repr

/-- The origin that comes first within a unit: lower stage, then lower K (R103). -/
def minOrigin (x y : Option UnitOrigin) : Option UnitOrigin :=
  match x, y with
  | none, y => y
  | x, none => x
  | some a, some b => if b.stage < a.stage || (b.stage == a.stage && decide (b.k < a.k)) then some b else some a

/-- A product with its scales (R91), and its origin (R102): an invalid operation, or with INPUT a consumed NaN element (stage 0) or scale 0xFF (stage 8). -/
def product (input : Bool) (k : Nat) (a b : FpVal) (ra rb sa sb : Nat) (ma mb : Bool) : Nat × Nat × Option UnitOrigin :=
  let o (stage : Nat) : Option UnitOrigin :=
    some { stage := stage, k := k, a := ra, b := rb, sa := if ma then sa else 0, sb := if mb then sb else 0 }
  if a.isNan || b.isNan then (nan32, flINV, if input then o 0 else none)
  else if sa = 0xFF || sb = 0xFF then (nan32, flINV, if input then o 8 else none)
  else
    match mulVal a b with
    | (.nan, f) => (nan32, f, o 0)
    | (.fin s m e, _) =>
      let (r, f) := enc32 (.fin s m (e + ((sa + sb : Nat) : Int) - 254))
      (r, f, none)
    | (v, _) => ((enc32 v).1, 0, none)

/-- The products of a unit's slice, K indices from k on: result, K index, joined flags, first origin. -/
def products (input : Bool) (k0 : Nat) (ma mb : Bool) (la lb : Lane) : Nat → List FpVal → List FpVal → List Nat → List Nat → List (Nat × Nat) × Nat × Option UnitOrigin
  | k, a :: as, b :: bs, ra :: ras, rb :: rbs =>
    let j := k / 32 - k0 / 32
    let (r, f, o) := product input k a b ra rb (if ma then la.scales.getD j 127 else 127) (if mb then lb.scales.getD j 127 else 127) ma mb
    let (rs, fs, os) := products input k0 ma mb la lb (k + 1) as bs ras rbs
    ((r, k) :: rs, f ||| fs, minOrigin o os)
  | _, _, _, _, _ => ([], 0, none)

/-- One level of the tree (R92): neighbours added; an origin is a NaN from operands that are none. -/
def treeLevel (stage : Nat) : List (Nat × Nat) → List (Nat × Nat) × Nat × Option UnitOrigin
  | (x, k) :: (y, _) :: rest =>
    let (z, f) := add32 x y
    let o : Option UnitOrigin := if isNan32 z && !isNan32 x && !isNan32 y then some { stage := stage, k := k, a := x, b := y } else none
    let (rs, fs, os) := treeLevel stage rest
    ((z, k) :: rs, f ||| fs, minOrigin o os)
  | l => (l, 0, none)

/-- The levels of the tree from a stage on; `fuel` bounds them. -/
def treeSum : Nat → Nat → List (Nat × Nat) → Nat × Nat × Option UnitOrigin
  | 0, _, l => ((l.getD 0 (0, 0)).1, 0, none)
  | fuel + 1, stage, l =>
    match l with
    | _ :: _ :: _ =>
      let (l1, f1, o1) := treeLevel stage l
      let (r, f2, o2) := treeSum fuel (stage + 1) l1
      (r, f1 ||| f2, minOrigin o1 o2)
    | l => ((l.getD 0 (0, 0)).1, 0, none)

/-- One unit's slice in floating point (R92): the new accumulator, the flags and the first origin. `first` tells slice 0, whose accumulator is the command's input. -/
def unitFp (input first : Bool) (m : Mma) (k0 : Nat) (acc : Nat) (la lb : Lane) : Nat × Nat × Option UnitOrigin :=
  let (ps, f1, o1) := products input k0 m.a.mx m.b.mx la lb k0 la.vals lb.vals la.raw lb.raw
  let pad := (upTo (m.w - ps.length)).map (fun j => (0, k0 + ps.length + j))
  let (sum, f2, o2) := treeSum 7 1 (ps ++ pad)
  let (r, f3) := add32 acc sum
  let o3 : Option UnitOrigin :=
    if isNan32 r && ((!isNan32 acc && !isNan32 sum) || (isNan32 acc && first && input)) then some { stage := 7, k := k0, a := acc, b := sum } else none
  (r, f1 ||| f2 ||| f3, minOrigin o1 (minOrigin o2 o3))

/-- One unit's slice in integers (R93). -/
def unitInt (acc : Nat) (la lb : Lane) : Nat × Nat × Option UnitOrigin :=
  let sum := ((la.ints.zip lb.ints).map (fun (x, y) => x * y)).sum
  let t := sext 32 acc + sum
  (intBits 32 t, if t < -(2 ^ 31 : Int) || (2 ^ 31 : Int) ≤ t then flIOV else 0, none)

/-- Every unit of the grid: elements (with poison), flags, and the first origin in row, then column order (R103, R105, R435). -/
def gridSlice (input first : Bool) (m : Mma) (k0 : Nat) (as bs : List Lane) (acc : List (Nat × Bool)) : List (Nat × Bool) × Nat × Option NanOrigin :=
  let empty : Lane := { vals := [], ints := [], raw := [], scales := [], pz := false }
  let cell (i : Nat) : (Nat × Bool) × Nat × Option NanOrigin :=
    let la := as.getD (i / 32) empty
    let lb := bs.getD (i % 32) empty
    let (v, pz) := acc.getD i (0, false)
    if la.pz || lb.pz || pz then ((v, true), 0, none)
    else
      let (r, f, o) := if m.int then unitInt v la lb else unitFp input first m k0 v la lb
      ((r, false), f, o.map (fun u => {
        unit := 1, stage := u.stage, fmtA := m.a.fmt, fmtB := m.b.fmt, row := i / 32, col := i % 32, k := u.k, aBits := u.a, bBits := u.b,
        scaledA := m.a.mx, scaledB := m.b.mx, scaleA := u.sa, scaleB := u.sb }))
  let rs := (upTo 1024).map cell
  (rs.map (fun x => x.1), rs.foldl (fun f x => f ||| x.2.1) 0, rs.foldl (fun o x => firstOrigin o x.2.2) none)

/-- MMA (R115): the checks of R118, the zeroing of the set, and the count of slices. -/
def execMma (c : CellId) (ph : Phase) (s : State) : Out := powered s <|
  match ph with
  | .dispatch => done s (s.dispatch c cMMA)
  | .execute => done s (s.arrExec c cMMA
      (fun y s =>
        let m := s.mmaOf c y.cmd
        let s1 := if m.zero then s.writeSet c m.set (List.replicate 1024 (0, false)) else s
        let s2 := if dSRC m.b.d = 1 then s1.hrBegin c else s1
        (s2, { y with total := m.slices }))
      (fun y =>
        let m := s.mmaOf c y.cmd
        m.opFails m.a false ++ m.opFails m.b true))

/-- The elements of an MMA's set with whether they draw on poison (R435): before the first slice, every element of a poisoned piece; later, those that a slice fed with poison, and
those of a piece that is poisoned although no slice poisoned it. A slice writes its whole piece as poison, and an unfed element of it is computed as without poison. -/
def State.mmaAcc (s : State) (c : Nat) (m : Mma) (y : ArrX) : List (Nat × Bool) :=
  let fed (i : Nat) : Bool := y.fed.getLsbD i
  ((upTo 1024).zip (s.readSet c m.set)).map (fun (i, e) => (e.1, fed i || (e.2 && (upTo 8).all (fun j => !fed (i / 8 * 8 + j)))))

/-- Run slice `i` of the command at place `j` of the begun ones, column data and its poison given. -/
def State.mmaSlice (s : State) (c j : Nat) (y : ArrX) (m : Mma) (cols scales : List (List (Nat × Bool))) (bPoison : Option Word64) : State :=
  let k0 := y.slices * m.w
  let n := min m.w (m.k - k0)
  let first := y.slices == 0
  let as := lanesOf m.a (s.operandRows c m.a m.koff k0 n) (s.operandScales c m.a m.koff k0 n)
  let bs := lanesOf m.b cols scales
  let input := nbits y.nanCfg 1 1 == 1
  let (es, fl, o) := gridSlice input first m k0 as bs (s.mmaAcc c m y)
  let pz := firstAddr y.poisonAt (firstAddr (s.poisonAddr c (m.a.sliceRuns m.koff k0 n)) (firstAddr bPoison (firstAddr (s.poisonAddr c (m.a.scaleRuns m.koff k0 n))
    (firstAddr (if dSRC m.b.d = 0 then s.poisonAddr c (m.b.scaleRuns m.koff k0 n) else none) (s.poisonAddr c [(setOff m.set, 4096)])))))
  let s1 := ((s.writeSet c m.set es).orFlags c afARRAY fl).bumpCell c 0x810 1
  let last := y.slices + 1 == y.total
  let fed := if es.any (fun e => e.2) then BitVec.ofNat 1024 (((upTo 1024).zip es).foldl (fun a x => if x.2.2 then a + 2 ^ x.1 else a) 0) else 0
  let y1 := { y with slices := y.slices + 1, poisonAt := pz, origin := firstOrigin y.origin o, finished := last, setFree := last, fed := fed }
  (s1.setCell c { s1.cell c with xArray := setAt (s1.cell c).xArray j y1 }).nanSee c y.cmd y.nanCfg y.origin y1.origin

/-- The grid issues slice `i` of the MMA it works on, when that is its next slice and its bytes are there (R105, R106); an array fed by the headrace waits while the
cell is frozen or halted (R187). -/
def execMmaSliceIssue (c : CellId) (i : Nat) (s : State) : Out := powered s <|
  let x := s.cell c
  match findIdx (fun y => y.started && !y.finished && wcode y.cmd.word == cMMA) x.xArray with
  | none => .next s
  | some j =>
    match x.xArray[j]? with
    | none => .next s
    | some y =>
      let m := s.mmaOf c y.cmd
      if y.slices ≠ i || y.total ≤ y.slices || !s.clocked c then .next s
      else if dSRC m.b.d = 1 then
        if x.hrBypass || x.st == .frozen then .next s
        else match s.hrPeek c m.streamBytes with
          | .bytes bs =>
            let (cols, scales) := m.streamRows bs
            let s1 := s.hrConsume c m.streamBytes
            done s ((s1.mmaSlice c j y m cols scales (if bs.any (fun b => b.2) then some 0 else none)).countPoints c 3)
          | _ => .next s
      else
        let k0 := y.slices * m.w
        let n := min m.w (m.k - k0)
        done s ((s.mmaSlice c j y m (s.operandRows c m.b m.koff k0 n) (s.operandScales c m.b m.koff k0 n) (s.poisonAddr c (m.b.sliceRuns m.koff k0 n))).countPoints c 3)

/-- The marker stands before the bytes that the executing headrace command still needs: it ends with HEADRACE_SHORT, and the bytes before the marker count as
consumed (R118, R186). -/
def State.hrShort (s : State) (c : Nat) : State :=
  let x := s.cell c
  match findIdx (fun y => y.started && !y.finished && wcode y.cmd.word == cMMA) x.xArray with
  | none => s
  | some j =>
    match x.xArray[j]? with
    | none => s
    | some y =>
      let m := s.mmaOf c y.cmd
      if dSRC m.b.d ≠ 1 || x.hrBypass || x.st == .frozen then s
      else match s.hrPeek c m.streamBytes with
        | .short k =>
          let s1 := s.hrConsume c k
          let y1 := { y.end with err := some (7, m.b.td, 0) }
          let s2 := s1.setCell c { s1.cell c with xArray := setAt (s1.cell c).xArray j y1 }
          if j = 0 then s2.arrReport c else s2
        | _ => s

/-- The marker reaches the executing headrace command (R186). -/
def execHeadraceMarker (c : CellId) (s : State) : Out := powered s <| done s (s.hrShort c)

end Sys2Proof.Machine
end

