-- ==== Sys2Proof/Machine/MathFn.lean ====
section
/-! DEFINITION. The function steps DIV, RCP, SQRT, RSQRT, EXP, EXP2, LOG, LOG2 and TANH (R138): the binary32 value nearest to the exact result. The quotients and
roots are exact; the transcendental ones are computed in fixed point with 200 fraction bits, far below the distance at which a binary32 operand's result can lie from a
rounding boundary. -/

namespace Sys2Proof.Machine

/-! ### Fixed point with 200 fraction bits -/

def fxOne : Nat := 2 ^ 200
/-- floor(ln 2 · 2^200). -/
def fxLn2 : Nat := 0xb17217f7d1cf79abc9e3b39803f2f6af40f343267298b62d8a

/-- Σ r^n / n! from a term on, `fuel` terms. -/
def fxExpSum (r : Nat) : Nat → Nat → Nat → Nat
  | 0, _, _ => 0
  | fuel + 1, n, term => term + fxExpSum r fuel (n + 1) (term * r / fxOne / (n + 1))

/-- e^r for 0 ≤ r < ln 2. -/
def fxExp (r : Nat) : Nat := fxExpSum r 48 0 fxOne

/-- Σ z^(2n+1) / (2n+1) from a power on, `fuel` terms. -/
def fxAtanhSum (z2 : Nat) : Nat → Nat → Nat → Nat
  | 0, _, _ => 0
  | fuel + 1, n, pow => pow / (2 * n + 1) + fxAtanhSum z2 fuel (n + 1) (pow * z2 / fxOne)

/-- ln of M, 2/3 ≤ M ≤ 4/3, in fixed point. -/
def fxLnNear (m : Nat) : Int :=
  let neg := decide (m < fxOne)
  let d := if neg then fxOne - m else m - fxOne
  let z := d * fxOne / (m + fxOne)
  let a := 2 * fxAtanhSum (z * z / fxOne) 48 0 z
  if neg then -(a : Int) else (a : Int)

/-- ln of m·2^e, m > 0, in fixed point. -/
def fxLn (m : Nat) (e : Int) : Int :=
  let l := Nat.log2 m
  let x := m * 2 ^ (200 - l)
  if 3 * x ≤ 4 * fxOne then fxLnNear x + (e + l) * fxLn2
  else fxLnNear (x / 2) + (e + l + 1) * fxLn2

/-- A fixed-point value that is not exact, rounded to binary32: one bit below marks what was cut off. -/
def fxRound (neg : Bool) (x : Nat) (e : Int) : Fl Nat := rne32 neg (2 * x + 1) (e - 201)

/-- floor(√n) for n < 2^(2b). -/
def isqrtGo (n : Nat) : Nat → Nat → Nat
  | 0, r => r
  | b + 1, r => isqrtGo n b (if (r + 2 ^ b) * (r + 2 ^ b) ≤ n then r + 2 ^ b else r)

def isqrt (n : Nat) : Nat := isqrtGo n 64 0

/-! ### The steps -/

def inf32 (neg : Bool) : Nat := fp32.sign neg + fp32.infMag
def zero32 (neg : Bool) : Nat := fp32.sign neg
def one32 (neg : Bool) : Nat := fp32.sign neg + 0x3F80_0000

/-- The quotient of two finite non-zero values, rounded once. -/
def quot32 (neg : Bool) (m1 : Nat) (e1 : Int) (m2 : Nat) (e2 : Int) : Fl Nat :=
  let n := m1 * 2 ^ 64
  rne32 neg (2 * (n / m2) + b2n (n % m2 != 0)) (e1 - e2 - 65)

/-- DIV (R138). -/
def fnDiv (a b : Nat) : Fl Nat :=
  match val32 a, val32 b with
  | .nan, _ => (nan32, flINV)
  | _, .nan => (nan32, flINV)
  | .inf _, .inf _ => (nan32, flINV)
  | .inf s, .fin t _ _ => (inf32 (s != t), 0)
  | .fin s _ _, .inf t => (zero32 (s != t), 0)
  | .fin s m1 e1, .fin t m2 e2 =>
    if m2 = 0 then (if m1 = 0 then (nan32, flINV) else (inf32 (s != t), flDZ))
    else if m1 = 0 then (zero32 (s != t), 0)
    else quot32 (s != t) m1 e1 m2 e2

/-- RCP (R138). -/
def fnRcp (a : Nat) : Fl Nat := fnDiv (one32 false) a

/-- SQRT (R138). -/
def fnSqrt (a : Nat) : Fl Nat :=
  match val32 a with
  | .nan => (nan32, flINV)
  | .inf s => if s then (nan32, flINV) else (inf32 false, 0)
  | .fin s m e =>
    if m = 0 then (zero32 s, 0)
    else if s then (nan32, flINV)
    else
      let sh : Nat := if (e % 2) = 0 then 60 else 61
      let n := m * 2 ^ sh
      let r := isqrt n
      rne32 false (2 * r + b2n (r * r != n)) ((e - (sh : Int)) / 2 - 1)

/-- RSQRT (R138). -/
def fnRsqrt (a : Nat) : Fl Nat :=
  match val32 a with
  | .nan => (nan32, flINV)
  | .inf s => if s then (nan32, flINV) else (zero32 false, 0)
  | .fin s m e =>
    if m = 0 then (inf32 s, flDZ)
    else if s then (nan32, flINV)
    else
      let t : Nat := if (e % 2) = 0 then 100 else 101
      let r := isqrt (2 ^ t / m)
      rne32 false (2 * r + b2n (r * r * m != 2 ^ t)) ((-e - (t : Int)) / 2 - 1)

/-- e^x or 2^x of a fixed-point exponent x·2^200 to the base whose logarithm is `lnb`: k = floor(x·lnb / ln 2), e^r·2^k. -/
def fxPow (x : Int) : Fl Nat :=
  let k := x / (fxLn2 : Int)
  fxRound false (fxExp (x - k * (fxLn2 : Int)).toNat) k

/-- A finite value with exponent −200 or more in fixed point. -/
def fxOf (neg : Bool) (m : Nat) (e : Int) : Int :=
  let x : Int := ((m * 2 ^ (e + 200).toNat : Nat) : Int)
  if neg then -x else x

/-- Whether m·2^e ≥ n, for e ≥ −200. -/
def geNat (m : Nat) (e : Int) (n : Nat) : Bool := decide (n * fxOne ≤ m * 2 ^ (e + 200).toNat)

/-- EXP (R138). -/
def fnExp (a : Nat) : Fl Nat :=
  match val32 a with
  | .nan => (nan32, flINV)
  | .inf s => (if s then zero32 false else inf32 false, 0)
  | .fin s m e =>
    if m = 0 then (one32 false, 0)
    else if !s && geNat m e 89 then (inf32 false, flOVF + flINX)
    else if s && geNat m e 104 then (zero32 false, flUNF + flINX)
    else fxPow (fxOf s m e)

/-- EXP2 (R138): an integer operand is exact where binary32 holds the power. -/
def fnExp2 (a : Nat) : Fl Nat :=
  match val32 a with
  | .nan => (nan32, flINV)
  | .inf s => (if s then zero32 false else inf32 false, 0)
  | .fin s m e =>
    if m = 0 then (one32 false, 0)
    else if !s && geNat m e 128 then (inf32 false, flOVF + flINX)
    else if s && geNat m e 151 then (zero32 false, flUNF + flINX)
    else
      let x := fxOf s m e
      let k := x / (fxOne : Int)
      let f := (x - k * (fxOne : Int)).toNat
      if f = 0 then rne32 false 1 k
      else fxRound false (fxExp (f * fxLn2 / fxOne)) k

/-- Whether m·2^e is 2^k, and k. -/
def powerOfTwo (m : Nat) (e : Int) : Option Int := if m = 2 ^ Nat.log2 m then some ((Nat.log2 m : Int) + e) else none

/-- LOG and LOG2 outside the finite positive operands (R138). -/
def logSpecial (a : Nat) (f : Nat → Int → Fl Nat) : Fl Nat :=
  match val32 a with
  | .nan => (nan32, flINV)
  | .inf s => if s then (nan32, flINV) else (inf32 false, 0)
  | .fin s m e =>
    if m = 0 then (inf32 true, flDZ)
    else if s then (nan32, flINV)
    else if powerOfTwo m e = some 0 then (0, 0)
    else f m e

/-- LOG (R138). -/
def fnLog (a : Nat) : Fl Nat := logSpecial a (fun m e =>
  let x := fxLn m e
  fxRound (decide (x < 0)) x.natAbs 0)

/-- LOG2 (R138). -/
def fnLog2 (a : Nat) : Fl Nat := logSpecial a (fun m e =>
  match powerOfTwo m e with
  | some k => rne32 (decide (k < 0)) k.natAbs 0
  | none =>
    let x := fxLn m e
    fxRound (decide (x < 0)) (x.natAbs * fxOne / fxLn2) 0)

/-- TANH (R138): (1 − q)/(1 + q) with q = e^(−2|x|); beside 0 and beside ±1 the result lies just inside x and ±1. -/
def fnTanh (a : Nat) : Fl Nat :=
  match val32 a with
  | .nan => (nan32, flINV)
  | .inf s => (one32 s, 0)
  | .fin s m e =>
    if m = 0 then (zero32 s, 0)
    else if m * 2 ^ (e + 200).toNat < 2 ^ 180 then rne32 s (m * 2 ^ 64 - 1) (e - 64)
    else if geNat m e 16 then rne32 s (2 ^ 64 - 1) (-64)
    else
      let x : Int := -(2 * fxOf false m e)
      let k := x / (fxLn2 : Int)
      let q := fxExp (x - k * (fxLn2 : Int)).toNat / 2 ^ (-k).toNat
      fxRound s ((fxOne - q) * fxOne / (fxOne + q)) 0

end Sys2Proof.Machine
end

