-- ==== Sys2Proof/Machine/Tailrace.lean ====
section
/-! DEFINITION. The tailrace (R120 to R125, R435): DRAIN with parameters, statistics and MX output, ASCALE, and the seed of the stochastic generator. -/

namespace Sys2Proof.Machine

/-! ### Values in the tailrace -/

/-- A binary32 value on its way through the tailrace: whether its NaN, if it is one, has been an origin or been made within the command, and whether it draws on
poison. -/
structure TV where
  bits : Nat
  own : Bool := false
  pz : Bool := false
deriving DecidableEq, Repr

/-- An origin at an operation: row, column and its two operands (R125). -/
structure TOrigin where
  row : Nat
  col : Nat
  a : Nat
  b : Nat
deriving DecidableEq, Repr

/-- What evaluating a part of the tailrace gives. -/
structure TRes (α : Type) where
  val : α
  flags : Nat := 0
  origins : List TOrigin := []

/-- Whether an operand's NaN counts as consumed here for the first time (R102). -/
def TV.freshNan (input : Bool) (v : TV) : Bool := input && isNan32 v.bits && !v.own

/-- One two-operand operation of the tailrace: its flags, and its origin at (row, col): a NaN from operands that are none, or with INPUT a NaN first consumed. -/
def tOp (input : Bool) (op : Nat → Nat → Fl Nat) (row col : Nat) (x y : TV) : TRes TV :=
  let pz := x.pz || y.pz
  if pz then { val := { bits := 0, own := true, pz := true } }
  else
    let (r, f) := op x.bits y.bits
    let o := x.freshNan input || y.freshNan input || (isNan32 r && !isNan32 x.bits && !isNan32 y.bits)
    { val := { bits := r, own := isNan32 r }, flags := f, origins := if o then [{ row := row, col := col, a := x.bits, b := y.bits }] else [] }

/-- A one-operand operation (the exp step); B_BITS is zero. -/
def tOp1 (input : Bool) (op : Nat → Fl Nat) (row col : Nat) (x : TV) : TRes TV :=
  if x.pz then { val := { bits := 0, own := true, pz := true } }
  else
    let (r, f) := op x.bits
    let o := x.freshNan input || (isNan32 r && !isNan32 x.bits)
    { val := { bits := r, own := isNan32 r }, flags := f, origins := if o then [{ row := row, col := col, a := x.bits, b := 0 }] else [] }

/-- The maximum of R122, or the minimum: NaN with INV if an operand is NaN; of the two zeros, max takes +0 and min −0. -/
def pick32 (wantMax : Bool) (a b : Nat) : Fl Nat :=
  if isNan32 a || isNan32 b then (nan32, flINV)
  else
    let key (x : Nat) : Int := if x / 2 ^ 31 = 1 then -((x % 2 ^ 31 : Nat) : Int) - 1 else ((x : Nat) : Int)
    let aLess := decide (key a < key b)
    (if wantMax then (if aLess then b else a) else (if aLess then a else b), 0)

def max32 (a b : Nat) : Fl Nat := pick32 true a b
def min32 (a b : Nat) : Fl Nat := pick32 false a b

/-- One level of a tree over a row's values (R122): pairs (2i, 2i + 1), COL the lowest column of the two subtrees. -/
def tLevel (input : Bool) (op : Nat → Nat → Fl Nat) (row : Nat) : List (Nat × TV) → TRes (List (Nat × TV))
  | (k, x) :: (_, y) :: rest =>
    let z := tOp input op row k x y
    let r := tLevel input op row rest
    { val := (k, z.val) :: r.val, flags := z.flags ||| r.flags, origins := z.origins ++ r.origins }
  | l => { val := l }

/-- The pairwise tree of R92 over a row. -/
def tTree (input : Bool) (op : Nat → Nat → Fl Nat) (row : Nat) : Nat → List (Nat × TV) → TRes TV
  | 0, l => { val := (l.getD 0 (0, { bits := 0 })).2 }
  | fuel + 1, l =>
    let r := tLevel input op row l
    let q := tTree input op row fuel r.val
    { val := q.val, flags := r.flags ||| q.flags, origins := r.origins ++ q.origins }

/-! ### DRAIN's fields and checks -/

structure Drain where
  set : Nat
  tdo : Nat
  d : Nat
  tdp : Nat
  p : Nat
  fmt : Nat
  signed : Bool
  mx : Bool
  rm : Nat
  sat : Bool
  stats : Nat
  init : Bool
  expout : Bool
  zeroAfter : Bool
  param : Bool
  int : Bool
deriving DecidableEq, Repr

def State.drainOf (s : State) (c : Nat) (w : Word128) : Drain :=
  { set := fld w 111 110, tdo := fld w 109 106, d := s.td c (fld w 109 106), tdp := fld w 105 102, p := s.td c (fld w 105 102), fmt := fld w 101 98,
    signed := bit w 97, mx := bit w 96, rm := fld w 95 93, sat := bit w 92, stats := fld w 91 90, init := bit w 89, expout := bit w 88,
    zeroAfter := bit w 87, param := bit w 86, int := bit w 85 }

/-- Fields of a parameter descriptor (R120). -/
def pTRI (p : Nat) : Bool := nbits p 255 255 == 1
def pDIAG (p : Nat) : Int := sext 16 (nbits p 207 192)
def pBIASV (p : Nat) : Nat := nbits p 191 160
def pSTATS (p : Nat) : Nat := nbits p 149 128
def pSCALEV (p : Nat) : Nat := nbits p 127 96
def pBIASA (p : Nat) : Nat := nbits p 85 64
def pSMODE (p : Nat) : Nat := nbits p 63 62
def pBMODE (p : Nat) : Nat := nbits p 61 60
def pSCALEA (p : Nat) : Nat := nbits p 21 0
def pReserved (p : Nat) : Bool := nbits p 254 208 != 0 || nbits p 159 150 != 0 || nbits p 95 86 != 0 || nbits p 59 22 != 0

/-- Bytes of the statistics record that a DRAIN writes (R122). -/
def Drain.recordBytes (g : Drain) : Nat := if g.stats = 2 then 0x180 else 0x100

/-- Bytes from STATS_ADDR on that a DRAIN reads or writes: the whole record is read unless STATS_INIT is set, and CORR is written with STATS = 2 alone (R122). -/
def Drain.recordSpan (g : Drain) : Nat := if g.init then g.recordBytes else 0x180

/-- The checks of R118 on a DRAIN. -/
def Drain.fails (g : Drain) : List ArrFail :=
  let w := fmtBits g.fmt
  failsOf [
    (dReserved g.d, (1, g.tdo)),
    (g.param && pReserved g.p, (1, g.tdp)),
    (dADDR g.d % 16 != 0 || dSTRIDE g.d % 16 != 0, (2, g.tdo)),
    (g.stats != 0 && pSTATS g.p % 128 != 0, (2, g.tdp)),
    (decide (0x40_0000 < dADDR g.d + 31 * dSTRIDE g.d + 4 * w) || (g.mx && decide (0x40_0000 < dSCALE g.d + 31 * dSSTRIDE g.d + 1)), (3, g.tdo)),
    (g.param && ((decide (2 ≤ pSMODE g.p) && decide (0x40_0000 < pSCALEA g.p + 128)) || (decide (2 ≤ pBMODE g.p) && decide (0x40_0000 < pBIASA g.p + 128))
      || (g.stats != 0 && decide (0x40_0000 < pSTATS g.p + g.recordSpan))), (3, g.tdp)),
    (dSRC g.d != 0, (5, g.tdo)),
    (g.param && ((decide (2 ≤ pSMODE g.p) && pSCALEA g.p % 128 != 0) || (decide (2 ≤ pBMODE g.p) && pBIASA g.p % 128 != 0)), (8, g.tdp))]

/-! ### DRAIN's data -/

/-- 32 fp32 values from a cell-store offset on. -/
def State.vec32 (s : State) (c off : Nat) : List TV :=
  (upTo 32).map (fun i => { bits := ofBytes (s.readB (cellKey c (off + 4 * i)) 4), pz := s.poisoned (cellKey c (off + 4 * i)) })

/-- A scale or bias vector as a mode names it: 1 the scalar, else the vector. -/
def State.paramVec (s : State) (c mode scalar addr : Nat) : List TV :=
  if mode = 1 then List.replicate 32 { bits := scalar } else if mode = 0 then [] else s.vec32 c addr

def TV.zero : TV := { bits := 0 }

/-- tail_value (R121) of one element. -/
def Drain.value (g : Drain) (input : Bool) (scales biases : List TV) (r col : Nat) (e : Nat × Bool) : TRes TV :=
  let raw : TRes TV :=
    if g.int then
      let i := sext 32 e.1
      let (b, f) := enc32 (.fin (decide (i < 0)) i.natAbs 0)
      { val := { bits := b, pz := e.2 }, flags := if e.2 then 0 else f }
    else { val := { bits := e.1, pz := e.2 } }
  let v1 : TRes TV :=
    if g.param && pSMODE g.p != 0 then tOp input mul32 r col raw.val (scales.getD (if pSMODE g.p = 3 then r else col) .zero) else { val := raw.val }
  let v2 : TRes TV :=
    if g.param && pBMODE g.p != 0 then tOp input add32 r col v1.val (biases.getD (if pBMODE g.p = 3 then r else col) .zero) else { val := v1.val }
  let masked := g.param && pTRI g.p && decide (pDIAG g.p < (col : Int) - (r : Int))
  { val := if masked then { v2.val with bits := inf32 true } else v2.val
    flags := raw.flags ||| v1.flags ||| v2.flags, origins := v1.origins ++ v2.origins }

/-- A row of the statistics record. -/
structure StatRow where
  max : TV
  sum : TV
  corr : TV
deriving DecidableEq, Repr

/-- The statistics of one row and, with STATS = 2, its exponentials (R122). -/
def Drain.rowStats (g : Drain) (input : Bool) (r : Nat) (maxOld sumOld : TV) (vs : List TV) : TRes (StatRow × List TV) :=
  let cols := (upTo 32).zip vs
  let mt := tTree input max32 r 5 cols
  let mn := tOp input max32 r 0 maxOld mt.val
  if g.stats = 1 then
    let st := tTree input add32 r 5 cols
    let sn := tOp input add32 r 0 sumOld st.val
    let rowPz := mn.val.pz || sn.val.pz
    { val := ({ max := { mn.val with pz := rowPz }, sum := { sn.val with pz := rowPz }, corr := .zero }, vs), flags := mt.flags ||| mn.flags ||| st.flags ||| sn.flags
      origins := mt.origins ++ mn.origins ++ st.origins ++ sn.origins }
  else
    let pz := mn.val.pz
    let (corr, es, tile) : TRes TV × List (TRes TV) × TRes TV :=
      if mn.val.bits = inf32 true && !pz then
        ({ val := { bits := one32 false } }, List.replicate 32 { val := .zero }, { val := .zero })
      else
        let d := tOp input sub32 r 0 maxOld mn.val
        let co := tOp1 input fnExp r 0 d.val
        let es := cols.map (fun (i, v) =>
          let x := tOp input sub32 r i v mn.val
          let y := tOp1 input fnExp r i x.val
          { val := y.val, flags := x.flags ||| y.flags, origins := x.origins ++ y.origins : TRes TV })
        let tile := tTree input add32 r 5 ((upTo 32).zip (es.map TRes.val))
        ({ val := co.val, flags := d.flags ||| co.flags, origins := d.origins ++ co.origins }, es, tile)
    let sc := tOp input mul32 r 0 sumOld corr.val
    let sn := tOp input add32 r 0 sc.val tile.val
    let rowPz := pz || sn.val.pz
    { val := ({ max := { mn.val with pz := rowPz }, sum := { sn.val with pz := rowPz }, corr := { corr.val with pz := rowPz } }, es.map TRes.val)
      flags := mt.flags ||| mn.flags ||| corr.flags ||| es.foldl (fun f e => f ||| e.flags) 0 ||| tile.flags ||| sc.flags ||| sn.flags
      origins := mt.origins ++ mn.origins ++ corr.origins ++ (es.map TRes.origins).flatten ++ tile.origins ++ sc.origins ++ sn.origins }

/-- The first `n` states of the stochastic generator after a state (R101), and the last. -/
def srStates : Nat → Nat → List Nat × Nat
  | 0, st => ([], st)
  | n + 1, st =>
    let x := srStep st
    let (xs, l) := srStates n x
    (x :: xs, l)

/-- One output element (R121, R99): its bits, flags and origin. -/
def Drain.convertElem (g : Drain) (input : Bool) (row col r16 : Nat) (v : TV) : TRes (Nat × Bool) :=
  if v.pz then { val := (0, true) }
  else
    let c := convert g.fmt g.signed { mode := g.rm, r16 := r16 } g.sat (val32 v.bits)
    let o := v.freshNan input || c.origin
    { val := (c.bits, false), flags := c.flags, origins := if o then [{ row := row, col := col, a := v.bits, b := 0 }] else [] }

/-- One MX block (R100, R123): its scale and elements with poison; `pos` gives the row and column of element j. -/
def Drain.convertBlock (g : Drain) (input : Bool) (pos : Nat → Nat × Nat) (rs : List Nat) (vs : List TV) : TRes ((Nat × Bool) × List (Nat × Bool)) :=
  if vs.any TV.pz then { val := ((0, true), vs.map (fun _ => (0, true))) }
  else
    let (sc, es, f) := mxQuantise (vs.map (fun v => val32 v.bits)) g.fmt g.rm rs
    { val := ((sc, false), es.map (fun e => (e, false))), flags := f
      origins := (((upTo 32).zip vs).filter (fun x => x.2.freshNan input)).map (fun x => { row := (pos x.1).1, col := (pos x.1).2, a := x.2.bits, b := 0 }) }

/-- A run of 32 packed elements as bytes; a byte carries the poison of the elements it holds. -/
def packRun (w : Nat) (es : List (Nat × Bool)) : List PByte :=
  let n := ((upTo es.length).zip es).foldl (fun a x => a + (x.2.1 % 2 ^ w) * 2 ^ (w * x.1)) 0
  ((upTo ((es.length * w + 7) / 8)).zip (toBytes ((es.length * w + 7) / 8) n)).map (fun (i, b) =>
    (b, ((es.drop (8 * i / w)).take ((8 * i + 7) / w + 1 - 8 * i / w)).any (fun e => e.2)))

/-- Rows and columns exchanged. -/
def transpose32 {α : Type} (d : α) (l : List (List α)) : List (List α) := (upTo 32).map (fun j => l.map (fun r => r.getD j d))

/-- The origin that comes first: lowest row, then column, then order of evaluation (R103, R125). -/
def firstTOrigin (l : List TOrigin) : Option TOrigin :=
  l.foldl (fun a o => match a with
    | none => some o
    | some b => if o.row < b.row || (o.row == b.row && decide (o.col < b.col)) then some o else some b) none

/-- The tailrace's origin as NAN_REC_* take it (R125). -/
def tOrigin (int : Bool) (fmtB : Nat) (l : List TOrigin) : Option NanOrigin :=
  (firstTOrigin l).map (fun o => { unit := 1, stage := 9, fmtA := if int then 10 else 0, fmtB := fmtB, row := o.row, col := o.col, aBits := o.a, bBits := o.b })

def rSRSEED : Nat := 0x840
def rSRSTATE : Nat := 0x848

/-- Write a row of the statistics record. -/
def State.writeStat (s : State) (c : Nat) (g : Drain) (rows : List StatRow) : State :=
  let put (s : State) (off : Nat) (vs : List TV) : State :=
    s.writePB (cellKey c off) (vs.flatMap (fun v => (toBytes 4 v.bits).map (fun b => (b, v.pz))))
  let s1 := put s (pSTATS g.p) (rows.map StatRow.max)
  let s2 := put s1 (pSTATS g.p + 0x80) (rows.map StatRow.sum)
  if g.stats = 2 then put s2 (pSTATS g.p + 0x100) (rows.map StatRow.corr) else s2

/-- What a DRAIN reads, in the order in which the model takes poison: the whole record (R122), scale and bias vectors, set (R435; the order is log 36's). -/
def Drain.reads (g : Drain) : List (Nat × Nat) :=
  (if g.stats != 0 && !g.init then [(pSTATS g.p, 0x180)] else [])
    ++ (if g.param && decide (2 ≤ pSMODE g.p) then [(pSCALEA g.p, 128)] else [])
    ++ (if g.param && decide (2 ≤ pBMODE g.p) then [(pBIASA g.p, 128)] else [])
    ++ [(setOff g.set, 4096)]

/-- DRAIN (R120 to R124, R435). -/
def State.drain (s : State) (c : Nat) (y : ArrX) : State × ArrX :=
  let g := s.drainOf c y.cmd.word
  let input := nbits y.nanCfg 1 1 == 1
  let copy := g.int && g.fmt == 10
  let scales := s.paramVec c (pSMODE g.p) (pSCALEV g.p) (pSCALEA g.p)
  let biases := s.paramVec c (pBMODE g.p) (pBIASV g.p) (pBIASA g.p)
  let es := s.readSet c g.set
  let pz := s.poisonAddr c g.reads
  let maxOld := if g.init then List.replicate 32 { bits := inf32 true } else s.vec32 c (pSTATS g.p)
  let sumOld := if g.init then List.replicate 32 TV.zero else s.vec32 c (pSTATS g.p + 0x80)
  -- the element path, row by row
  let vals : List (List (TRes TV)) := (upTo 32).map (fun r => (upTo 32).map (fun k =>
    let e := es.getD (32 * r + k) (0, false)
    if copy then { val := { bits := e.1, pz := e.2 } } else g.value input scales biases r k e))
  let rows : List (TRes (StatRow × List TV)) := (upTo 32).map (fun r =>
    let vs := (vals.getD r []).map TRes.val
    if g.stats = 0 then { val := ({ max := .zero, sum := .zero, corr := .zero }, vs) }
    else g.rowStats input r (maxOld.getD r .zero) (sumOld.getD r .zero) vs)
  -- the output stage
  let outs : List (List TV) := (upTo 32).map (fun r =>
    if g.expout then (rows.getD r { val := ({ max := .zero, sum := .zero, corr := .zero }, []) }).val.2 else (vals.getD r []).map TRes.val)
  let (sts, last) := if g.rm = 4 then srStates 1024 (s.rf (cellBase c + rSRSTATE) 31 0) else (List.replicate 1024 0, 0)
  let r16 (r k : Nat) : Nat := sts.getD (32 * r + k) 0 % 65536
  let w := fmtBits g.fmt
  let lay := dLAYOUT g.d
  let outT := if lay = 1 then transpose32 TV.zero outs else outs
  let pos (i j : Nat) : Nat × Nat := if lay = 1 then (j, i) else (i, j)
  let conv : List (TRes ((Nat × Bool) × List (Nat × Bool))) := (upTo 32).map (fun i =>
    let vs := outT.getD i []
    if copy then { val := ((0, false), vs.map (fun v => (v.bits, v.pz))) }
    else if g.mx then g.convertBlock input (pos i) ((upTo 32).map (fun j => r16 (pos i j).1 (pos i j).2)) vs
    else
      let cs := ((upTo 32).zip vs).map (fun (j, v) => g.convertElem input (pos i j).1 (pos i j).2 (r16 (pos i j).1 (pos i j).2) v)
      { val := ((0, false), cs.map TRes.val), flags := cs.foldl (fun f x => f ||| x.flags) 0, origins := (cs.map TRes.origins).flatten })
  let s1 := forEach ((upTo 32).zip conv) s (fun s (i, r) =>
    let s := s.writePB (cellKey c (dADDR g.d + i * dSTRIDE g.d)) (packRun w r.val.2)
    if g.mx then s.writePB (cellKey c (dSCALE g.d + i * dSSTRIDE g.d)) [(BitVec.ofNat 8 r.val.1.1, r.val.1.2)] else s)
  let s2 := if g.stats = 0 then s1 else s1.writeStat c g (rows.map (fun r => r.val.1))
  let s3 := if g.zeroAfter then s2.writeSet c g.set (List.replicate 1024 (0, false)) else s2
  let s4 := if g.rm = 4 then s3.wr (cellBase c + rSRSTATE) (BitVec.ofNat 64 last) else s3
  let fl := (vals.flatten.foldl (fun f x => f ||| x.flags) 0) ||| (rows.foldl (fun f x => f ||| x.flags) 0) ||| (conv.foldl (fun f x => f ||| x.flags) 0)
  let os := (vals.flatten.map TRes.origins).flatten ++ (rows.map TRes.origins).flatten ++ (conv.map TRes.origins).flatten
  (s4.orFlags c afTAIL fl, { y.end with poisonAt := pz, origin := tOrigin g.int g.fmt os })

/-- DRAIN (R115). -/
def execDrain (c : CellId) (ph : Phase) (s : State) : Out := powered s <|
  match ph with
  | .dispatch => done s (s.dispatch c cDRAIN)
  | .execute => done s (s.arrExec c cDRAIN (fun y s => s.drain c y) (fun y => (s.drainOf c y.cmd.word).fails))

/-- The row rescale of R124: every element times its row's factor, read as fp32. R435 names the first poisoned piece "in its order of reading" and gives ASCALE no such order: the
model takes the factor vector before the set (log 36, DESIGN CHOICE). -/
def State.ascale (s : State) (c : Nat) (y : ArrX) : State × ArrX :=
  let input := nbits y.nanCfg 1 1 == 1
  let n := fld y.cmd.word 111 110
  let a := fld y.cmd.word 109 88
  let fs := s.vec32 c a
  let es := s.readSet c n
  let rs := (upTo 1024).map (fun i =>
    let e := es.getD i (0, false)
    tOp input mul32 (i / 32) (i % 32) { bits := e.1, pz := e.2 } (fs.getD (i / 32) .zero))
  let s1 := s.writeSet c n (rs.map (fun r => (r.val.bits, r.val.pz)))
  (s1.orFlags c afTAIL (rs.foldl (fun f r => f ||| r.flags) 0),
    { y.end with poisonAt := s.poisonAddr c [(a, 128), (setOff n, 4096)], origin := tOrigin false 0 ((rs.map TRes.origins).flatten) })

/-- ASCALE (R115, R124). -/
def execAscale (c : CellId) (ph : Phase) (s : State) : Out := powered s <|
  match ph with
  | .dispatch => done s (s.dispatch c cASCALE)
  | .execute => done s (s.arrExec c cASCALE (fun y s => s.ascale c y)
      (fun y =>
        let a := fld y.cmd.word 109 88
        failsOf [(a % 128 != 0, (2, 0)), (decide (0x40_0000 < a + 128), (3, 0))]))

/-- A write of TAIL.SR_SEED loads TAIL.SR_STATE (R101, R124). -/
def execSrSeedWrite (c : CellId) (v : Word64) (s : State) : Out := powered s <|
  .next ((s.wr (cellBase c + rSRSEED) (BitVec.ofNat 64 (fld v 31 0))).loadSeed c (fld v 31 0))

end Sys2Proof.Machine
end

