-- ==== Sys2Proof/Machine/VecProg.lean ====
section
/-! DEFINITION. Element programs of the vector engine (R135 to R139): the record and its checks, the step opcodes, one element's evaluation, the output stage, and
packed elements in the cell store (R85, R132, R133). -/

namespace Sys2Proof.Machine

/-! ### The record (R135) -/

/-- Constant k of a record. -/
def prConst (r k : Nat) : Nat := nbits r (32 * k + 31) (32 * k)
def prCtrl (r : Nat) : Nat := nbits r 255 192
def prStep (r i : Nat) : Nat := nbits r (256 + 32 * i + 31) (256 + 32 * i)
def prSteps (r : Nat) : Nat := nbits (prCtrl r) 4 0 + 1
def prOutSrc (r : Nat) : Nat := nbits (prCtrl r) 8 5
def prOutInt (r : Nat) : Bool := nbits (prCtrl r) 9 9 == 1
def prMoutEn (r : Nat) : Bool := nbits (prCtrl r) 10 10 == 1
def prMoutSrc (r : Nat) : Nat := nbits (prCtrl r) 14 11
def prMoutReg (r : Nat) : Nat := nbits (prCtrl r) 17 15
def prSumSrc (r : Nat) : Nat := nbits (prCtrl r) 21 18
def prSumInt (r : Nat) : Bool := nbits (prCtrl r) 22 22 == 1
def stOp (w : Nat) : Nat := nbits w 31 26
def stD (w : Nat) : Nat := nbits w 25 22
def stA (w : Nat) : Nat := nbits w 21 17
def stB (w : Nat) : Nat := nbits w 16 12
def stC (w : Nat) : Nat := nbits w 11 7

/-- How many sources a step opcode uses; none for an opcode that R137's table does not list. -/
def stepArity (op : Nat) : Option Nat :=
  if op ∈ [0x00, 0x07, 0x08, 0x0A, 0x0B, 0x0C, 0x0D, 0x0E, 0x0F, 0x10, 0x11, 0x1B, 0x1D, 0x30, 0x31] then some 1
  else if op ∈ [0x01, 0x02, 0x03, 0x05, 0x06, 0x09, 0x18, 0x19, 0x1A, 0x20, 0x21, 0x22, 0x23, 0x24, 0x25, 0x26, 0x27, 0x28, 0x29, 0x2A, 0x2B] then some 2
  else if op = 0x04 || op = 0x1C then some 3
  else none

/-- Whether an opcode is a function step (R137). -/
def stepIsFn (op : Nat) : Bool := decide (0x09 ≤ op) && decide (op ≤ 0x11)

/-- The source codes a step uses. -/
def stepSources (w : Nat) : List Nat := [stA w, stB w, stC w].take ((stepArity (stOp w)).getD 0)

/-- Failures of one step word by code (R150). -/
def stepFails (w : Nat) : List Nat :=
  (if w % 128 != 0 || (match stepArity (stOp w) with
      | some n => ([stA w, stB w, stC w].drop n).any (fun x => x != 0)
      | none => false) then [1] else [])
    ++ (if (stepArity (stOp w)).isNone then [2] else [])
    ++ (if (stepSources w).any (fun x => decide (0x1A ≤ x)) then [3] else [])

/-- The steps of a record that are read: at most 24. -/
def progSteps (r : Nat) : List Nat := (upTo (min (prSteps r) 24)).map (prStep r)

/-- Failures of a record as (code, step) (R150): a failure of the control word names step 0; too many function steps name the seventh. -/
def recordFails (r : Nat) : List (Nat × Nat) :=
  let steps := (upTo 24).zip (progSteps r)
  let fns := steps.filter (fun x => stepIsFn (stOp x.2))
  (if nbits (prCtrl r) 63 23 != 0 then [(1, 0)] else []) ++ (if 24 < prSteps r then [(3, 0)] else [])
    ++ (steps.map (fun x => (stepFails x.2).map (fun e => (e, x.1)))).flatten
    ++ (match fns[6]? with
        | some x => [(4, x.1)]
        | none => [])

/-- Whether a program reads the stream with a source code (0x16 X, 0x17 Y, 0x18 Z). -/
def progReads (r code : Nat) : Bool := (progSteps r).any (fun w => (stepSources w).contains code)

/-! ### Step opcodes (R137, R138) -/

/-- The order of two non-NaN binary32 patterns, −0 equal to +0. -/
def ordKey (x : Nat) : Int := if x / 2 ^ 31 = 1 then -((x % 2 ^ 31 : Nat) : Int) else ((x % 2 ^ 31 : Nat) : Int)

def maskOf (b : Bool) : Nat := if b then 0xFFFF_FFFF else 0

/-- A comparison: 0 with INV on a NaN (R137). -/
def cmp32 (p : Int → Int → Bool) (a b : Nat) : Fl Nat :=
  if isNan32 a || isNan32 b then (0, flINV) else (maskOf (p (ordKey a) (ordKey b)), 0)

/-- A signed 32-bit result with wrap, IOV when it does not fit (R137). -/
def wrap32 (i : Int) : Fl Nat := (intBits 32 i, if i < -(2 ^ 31 : Int) || (2 ^ 31 : Int) ≤ i then flIOV else 0)

def isInf32 (x : Nat) : Bool := x % 2 ^ 31 == 0x7F80_0000

def int32 (x : Nat) : Int := sext 32 x

/-- A step's result and flags. -/
def stepOp (op a b c : Nat) : Fl Nat :=
  match op with
  | 0x00 => (a, 0)
  | 0x01 => add32 a b
  | 0x02 => sub32 a b
  | 0x03 => mul32 a b
  | 0x04 => fma32 a b c
  | 0x05 => min32 a b
  | 0x06 => max32 a b
  | 0x07 => if isNan32 a then (nan32, flINV) else (a % 2 ^ 31, 0)
  | 0x08 => if isNan32 a then (nan32, flINV) else (a ^^^ 2 ^ 31, 0)
  | 0x09 => fnDiv a b
  | 0x0A => fnRcp a
  | 0x0B => fnSqrt a
  | 0x0C => fnRsqrt a
  | 0x0D => fnExp a
  | 0x0E => fnExp2 a
  | 0x0F => fnLog a
  | 0x10 => fnLog2 a
  | 0x11 => fnTanh a
  | 0x18 => cmp32 (fun x y => x == y) a b
  | 0x19 => cmp32 (fun x y => decide (x < y)) a b
  | 0x1A => cmp32 (fun x y => decide (x ≤ y)) a b
  | 0x1B => (maskOf (isNan32 a), 0)
  | 0x1C => (if a != 0 then b else c, 0)
  | 0x1D => (maskOf (isInf32 a), 0)
  | 0x20 => wrap32 (int32 a + int32 b)
  | 0x21 => wrap32 (int32 a - int32 b)
  | 0x22 => wrap32 (int32 a * int32 b)
  | 0x23 => (if int32 a ≤ int32 b then a else b, 0)
  | 0x24 => (if int32 a ≤ int32 b then b else a, 0)
  | 0x25 => (a &&& b, 0)
  | 0x26 => (a ||| b, 0)
  | 0x27 => (a ^^^ b, 0)
  | 0x28 => ((a <<< (b % 32)) % 2 ^ 32, 0)
  | 0x29 => (a >>> (b % 32), 0)
  | 0x2A => (intBits 32 (int32 a / ((2 ^ (b % 32) : Nat) : Int)), 0)
  | 0x2B => (maskOf (decide (int32 a < int32 b)), 0)
  | 0x30 => enc32 (.fin (decide (int32 a < 0)) (int32 a).natAbs 0)
  | 0x31 =>
    let r := convInt 10 true rne (val32 a)
    (r.bits, r.flags)
  | _ => (0, 0)

/-- Whether a step's result is a binary32 number (R137), so that a NaN in it arises by arithmetic. -/
def stepFloat (op : Nat) : Bool := decide (1 ≤ op) && decide (op ≤ 0x11)

/-- Whether a step consumes a NaN it reads: arithmetic, function and conversion steps that read fp32 (R102, R137). -/
def stepConsumes (op : Nat) : Bool := stepFloat op || op == 0x18 || op == 0x19 || op == 0x1A || op == 0x31

/-- A NaN origin of the vector engine: format of its source, element index, operands. -/
structure VOrigin where
  fmtA : Nat
  k : Nat
  a : Nat
  b : Nat
deriving DecidableEq, Repr

/-- One element as it runs: its registers, flags, first origin. -/
structure ElemRun where
  e : List Nat := List.replicate 16 0
  flags : Nat := 0
  origin : Option VOrigin := none
deriving DecidableEq, Repr

/-- A source's 32 bits (R135). -/
def srcVal (r : Nat) (e : List Nat) (x y z i code : Nat) : Nat :=
  if code < 16 then e.getD code 0
  else if code < 0x16 then prConst r (code - 16)
  else if code = 0x16 then x else if code = 0x17 then y else if code = 0x18 then z else i

/-- One step (R136, R152). A NaN constant that MOV, SEL or a bit step brings into an element register is not consumed there (R102), and R102 does not say whether the arithmetic step or
summary that reads the register consumes it: the model makes it no origin, since that step reads no constant (log 36, DESIGN CHOICE). -/
def runStep (r : Nat) (input : Bool) (fmtA x y z i : Nat) (w : Nat) (st : ElemRun) : ElemRun :=
  let v := srcVal r st.e x y z i
  let a := v (stA w)
  let b := v (stB w)
  let c := v (stC w)
  let (res, f) := stepOp (stOp w) a b c
  let used := [a, b, c].take ((stepArity (stOp w)).getD 0)
  let made := stepFloat (stOp w) && isNan32 res && !used.any isNan32
  let constNan := input && stepConsumes (stOp w) && (stepSources w).any (fun s => decide (0x10 ≤ s) && decide (s < 0x16) && isNan32 (prConst r (s - 0x10)))
  { e := setAt st.e (stD w) res, flags := st.flags ||| f
    origin := match st.origin with
      | some o => some o
      | none => if made || constNan then some { fmtA := fmtA, k := i, a := a, b := if (stepArity (stOp w)).getD 0 < 2 then 0 else b } else none }

/-! ### Entry and output conversion (R134, R139) -/

/-- An element converted on entry: its 32 bits, flags, and whether it is a NaN. -/
def entryVal (fmt : Nat) (signed : Bool) (bits : Nat) : Nat × Nat × Bool :=
  if isIntFmt fmt then (intBits 32 (elemInt fmt signed bits), 0, false)
  else
    let v := elemVal fmt signed false bits
    let (b, f) := toFp32 v
    (b, f, v.isNan)

/-- The output stage (R139). -/
def outConvert (fmt : Nat) (signed : Bool) (rm : Nat) (sat : Bool) (isInt : Bool) (bits : Nat) : Conv :=
  if isInt then
    let i := int32 bits
    convert fmt signed { mode := rm } sat (.fin (decide (i < 0)) i.natAbs 0)
  else if fmt = 0 then { bits := bits, flags := 0 }
  else convert fmt signed { mode := rm } sat (val32 bits)

/-! ### Packed elements in the cell store (R85, R132) -/

/-- Element j of a stream of `w`-bit elements from a cell-store offset on. -/
def State.elemAt (s : State) (c base w j : Nat) : Nat :=
  let lo := w * j / 8
  let hi := (w * j + w - 1) / 8
  nbits (ofBytes (s.readB (cellKey c (base + lo)) (hi + 1 - lo))) (w * j - 8 * lo + w - 1) (w * j - 8 * lo)

/-- The offset of the first poisoned piece that element j draws on. -/
def State.elemPoison (s : State) (c base w j : Nat) : Option Nat :=
  s.poisonIn c [(base + w * j / 8, (w * j + w - 1) / 8 + 1 - w * j / 8)]

/-- A byte to write: value, poison, and whether every bit of it is new; none where nothing is written. -/
abbrev WByte := Option (PByte × Bool)

/-- Write some bytes of one piece (R132, R233): only a write of all 32 bytes is a write of the whole piece. -/
def State.writePieceM (s : State) (k : Nat) (bs : List WByte) : State :=
  if bs.all Option.isNone then s
  else if bs.length = 32 && bs.all (fun b => match b with | some (_, full) => full | none => false) then
    s.writePiece k (bs.map (fun b => (b.map (fun x => x.1)).getD (0, false)))
  else if s.poisoned k then s.countMem mPOISONKEEP k 1
  else
    let s1 := forEach ((upTo bs.length).zip bs) s (fun s (i, b) => match b with
      | some (x, _) => s.setMemB (k + i) x.1
      | none => s)
    if bs.any (fun b => match b with | some (x, _) => x.2 | none => false) then s1.setPoison k true else s1

def State.writeRunM (s : State) : Nat → Nat → List WByte → State
  | 0, _, _ => s
  | fuel + 1, k, bs =>
    match bs with
    | [] => s
    | _ =>
      let n := 32 - k % 32
      State.writeRunM (s.writePieceM k (bs.take n)) fuel (k + n) (bs.drop n)

/-- Write elements of `w` bits from a cell-store offset on; none leaves an element's bits as they are (R132, R140). -/
def State.writeElems (s : State) (c base w : Nat) (es : List (Option (Nat × Bool))) : State :=
  let arr := es.toArray
  let nb := (w * es.length + 7) / 8
  let byte (b : Nat) : WByte :=
    let js := (upTo ((8 * b + 7) / w - 8 * b / w + 1)).map (fun i => 8 * b / w + i)
    let old := (s.memB (cellKey c (base + b))).toNat
    let parts := js.filterMap (fun j => (arr.getD j none).map (fun e => (j, e)))
    if parts.isEmpty then none
    else
      let word (f : Nat → Nat) : Nat := parts.foldl (fun a p => a ||| (if w * p.1 ≤ 8 * b then f p.2.1 >>> (8 * b - w * p.1) else f p.2.1 <<< (w * p.1 - 8 * b)) % 256) 0
      let mask := word (fun _ => 2 ^ w - 1)
      some ((BitVec.ofNat 8 ((old - (old &&& mask)) + word (fun e => e % 2 ^ w)), parts.any (fun p => p.2.2)), mask == 255)
  s.writeRunM (nb + 1) (cellKey c base) ((upTo nb).map byte)

end Sys2Proof.Machine
end

