-- ==== Sys2Proof/Machine/Vector.lean ====
section
/-! DEFINITION. The vector engine (R131 to R154): streams, masks, VPLD, VPROG, VRED, VCOMP, VEXPD, the mask commands, groups and completion. -/

namespace Sys2Proof.Machine

def rVECERR : Nat := 0xC08
def rMSEL : Nat := 0xC28

/-- Mask register n (R140). -/
def Cell.mask (x : Cell) (n : Nat) : BitVec 8192 := x.masks.get 0 n
def Cell.setMask (x : Cell) (n : Nat) (m : BitVec 8192) : Cell := { x with masks := x.masks.put 0 n m }
def Cell.slot (x : Cell) (n : Nat) : PSlot := x.slots.get {} n
def Cell.setSlot (x : Cell) (n : Nat) (p : PSlot) : Cell := { x with slots := x.slots.put {} n p }

/-! ### Errors, delivery, completion (R143, R145, R150, R153) -/

/-- Deliver a summary or count (R143, R147); s0 discards it. -/
def State.vecDeliver (s : State) (c : Nat) (q : QCmd) (v : Word64) : State := s.setSreg c (delivReg q.word) v

/-- Record an error in VEC.ERR, deliver zero and halt (R145, R150). -/
def State.vecErr (s : State) (c : Nat) (q : QCmd) (code step : Nat) : State :=
  let slot := if wcode q.word = cVPLD || wcode q.word = cVPROG then fld q.word 111 109 else 0
  ((s.wr (cellBase c + rVECERR) (BitVec.ofNat 64 (code + wcode q.word % 256 * 2 ^ 8 + slot * 2 ^ 16 + step * 2 ^ 19))).vecDeliver c q 0).halt c
    { reason := .engineError, unit := 2, pc := q.pc, seq := q.seq, word := q.word }

/-- The failure that VEC.ERR records: the lowest code, and its lowest step (R150). -/
def lowestVec (fs : List (Nat × Nat)) : Option (Nat × Nat) :=
  fs.foldl (fun a f => match a with
    | none => some f
    | some b => if f.1 < b.1 || (f.1 == b.1 && decide (f.2 < b.2)) then some f else some b) none

/-! ### Results that are in flight (R131, R141, R151) -/

/-- Bytes of a cell store that elements [a, z) of a packed stream occupy (R85): offset and length. -/
def elemRun (base width a z : Nat) : Nat × Nat := (base + width * a / 8, (width * z + 7) / 8 - width * a / 8)

/-- Whether two runs of bytes share a byte. -/
def runsMeet (x y : Nat × Nat) : Bool := decide (x.1 < y.1 + y.2) && decide (y.1 < x.1 + x.2)

/-- The bytes that a group in flight writes. -/
def VecFlight.run (f : VecFlight) : Nat × Nat := if f.outs.all Option.isNone then (0, 0) else elemRun f.base f.width f.first (f.first + f.outs.length)

/-- Bits of a mask register from bit `first` on, none where a bit is unchanged (R141). -/
def maskPut (m : BitVec 8192) (first : Nat) (bs : List (Option Bool)) : BitVec 8192 :=
  let (v, k) := ((upTo bs.length).zip bs).foldl (fun (a : Nat × Nat) (i, b) => match b with
    | some true => (a.1 + 2 ^ i, a.2 + 2 ^ i)
    | some false => (a.1, a.2 + 2 ^ i)
    | none => a) (0, 0)
  (m &&& ~~~(BitVec.ofNat 8192 (k * 2 ^ first))) ||| BitVec.ofNat 8192 (v * 2 ^ first)

/-- A group completes: its elements and mask bits are written (R131, R132, R141). -/
def State.vecWrite (s : State) (c : Nat) (f : VecFlight) : State :=
  let k := f.first % 4
  let s1 := if f.outs.all Option.isNone then s
    else s.writeElems c (f.base + f.width * (f.first - k) / 8) f.width (List.replicate k none ++ f.outs)
  match f.mreg with
  | some r => s1.setCell c ((s1.cell c).setMask r (maskPut ((s1.cell c).mask r) f.mfirst f.mouts))
  | none => s1

/-- The groups in flight of the commands at places 0 to j complete, oldest first, so that results are written in the order of the commands. -/
def State.vecFlush (s : State) (c j : Nat) : State :=
  let fs := ((s.cell c).xVector.take (j + 1)).filterMap VecX.flight
  let s1 := s.setCell c { s.cell c with xVector := (s.cell c).xVector.take (j + 1) |>.map (fun y => { y with flight := none }) |> (· ++ (s.cell c).xVector.drop (j + 1)) }
  forEach fs s1 (fun s f => s.vecWrite c f)

/-- The interlock of R151: whether a read of bytes or of mask registers by the command at place `j` waits for what an earlier, uncompleted command has still to write. -/
def Cell.vecInterlock (x : Cell) (j : Nat) (bytes : List (Nat × Nat)) (masks : List Nat) : Bool :=
  ((x.xVector.take j).filterMap VecX.flight).any (fun f =>
    bytes.any (fun r => runsMeet r f.run) || (match f.mreg with
      | some m => masks.contains m
      | none => false))

/-- Replace a begun vector command. -/
def State.setVecX (s : State) (c j : Nat) (y : VecX) : State := s.setCell c { s.cell c with xVector := setAt (s.cell c).xVector j y }

/-- The begun vector command that has not run its checks, and its place. -/
def Cell.vecNew (x : Cell) (code : Nat) : Option (Nat × VecX) :=
  match findIdx (fun y => !y.started) x.xVector with
  | some j => ((x.xVector[j]?).filter (fun y => wcode y.cmd.word == code)).map (fun y => (j, y))
  | none => none

/-- What a command without groups reads: bytes and mask registers (R142, R151). -/
def vecReads0 (q : QCmd) : List (Nat × Nat) × List Nat :=
  let w := q.word
  let a := (q.ops.getD 0 0).toNat
  let code := wcode w
  if code = cVPLD then ([(a, 128)], [])
  else if code = cVMLD then ([(a, 1024)], [])
  else if code = cVMST then ([], [fld w 111 109])
  else if code = cVMOP then ([], [fld w 108 106, fld w 105 103])
  else ([], [])

/-- The begun vector command runs, if it has the row's opcode: its checks, then its effect. A command with lane groups reads and writes as they issue. One without has its effect here,
after the earlier commands' results in flight, and is held while R151's interlock holds a read. A failed check is reported in the command's turn (R61, R150). -/
def State.vecExec (s : State) (c code : Nat) (check : QCmd → List (Nat × Nat)) (f : VecX → State → State × VecX) : State :=
  match (s.cell c).vecNew code with
  | none => s
  | some (j, y) =>
    if (s.cell c).vecInterlock j (vecReads0 y.cmd).1 (vecReads0 y.cmd).2 then s
    else match lowestVec (check y.cmd) with
      | some e =>
        if j = 0 then (s.setCell c { s.cell c with xVector := (s.cell c).xVector.drop 1 }).vecErr c y.cmd e.1 e.2
        else s.setVecX c j { y with started := true, finished := true, err := some e }
      | none =>
        let (s1, y1) := f y s
        let s2 := if y1.total = 0 && j ≠ 0 then (f y (s.vecFlush c (j - 1))).1 else s1
        s2.setVecX c j { y1 with started := true, finished := y1.total == 0 }

/-- The vector command at the front completes (R61, R104, R145, R153): its last group is written and its value lands, zero if it consumed poison. -/
def execVectorCommandComplete (c : CellId) (s : State) : Out := powered s <|
  match (s.cell c).xVector with
  | [] => .next s
  | y :: _ =>
    if !y.finished then .next s
    else
      let s0 := s.vecFlush c 0
      let s1 := s0.setCell c { s0.cell c with xVector := (s0.cell c).xVector.drop 1 }
      match y.err with
      | some e => done s (s1.vecErr c y.cmd e.1 e.2)
      | none =>
        let s2 := (s1.vecDeliver c y.cmd (if y.poisonAt.isSome then 0 else y.result)).nanHalt c y.cmd 2 y.nanCfg y.origin
        done s (match y.poisonAt with
          | some a => s2.halt c { reason := .poison, unit := 2, pc := y.cmd.pc, seq := y.cmd.seq, word := y.cmd.word, addr := a }
          | none => s2)

/-! ### Address checks (R133, R150) -/

/-- An address register with bits above 21 set, or a span of `n` bytes that leaves the cell store (code 7). -/
def badRange (a : Word64) (n : Nat) : Bool := decide (2 ^ 22 ≤ a.toNat) || decide (0x40_0000 < a.toNat + n)

/-- Failures of a command that reads or writes `n` bytes at an address of a given alignment. -/
def addrFails (a : Word64) (n align : Nat) : List (Nat × Nat) :=
  (if badRange a n then [(7, 0)] else []) ++ (if a.toNat % align != 0 then [(8, 0)] else [])

/-! ### VPLD and the mask commands (R135, R142, R436) -/

/-- VPLD. The record's own checks apply to a record that can be loaded; poison in it goes before them. -/
def execVpld (c : CellId) (ph : Phase) (s : State) : Out := powered s <|
  match ph with
  | .dispatch => done s (s.dispatch c cVPLD)
  | .execute =>
    let recd (q : QCmd) : Nat := ofBytes (s.readB (cellKey c (q.ops.getD 0 0).toNat) 128)
    let pz (q : QCmd) : Option Word64 := s.poisonAddr c [((q.ops.getD 0 0).toNat, 128)]
    let bad (q : QCmd) : List (Nat × Nat) := addrFails (q.ops.getD 0 0) 128 16
    let n (q : QCmd) : Nat := fld q.word 111 109
    let s0 := match (s.cell c).vecNew cVPLD with
      | some (j, y) =>
        -- a record that fails a check, or holds poison, leaves the slot invalid (R135, R436)
        if !(s.cell c).vecInterlock j (vecReads0 y.cmd).1 [] && (bad y.cmd).isEmpty && ((pz y.cmd).isSome || !(recordFails (recd y.cmd)).isEmpty)
        then s.setCell c ((s.cell c).setSlot (n y.cmd) {}) else s
      | none => s
    done s (s0.vecExec c cVPLD (fun q => if !(bad q).isEmpty then bad q else if (pz q).isSome then [] else recordFails (recd q))
      (fun y s => match pz y.cmd with
        | some a => (s, { y with poisonAt := some a })
        | none => (s.setCell c ((s.cell c).setSlot (n y.cmd) { valid := true, record := BitVec.ofNat 1024 (recd y.cmd) }), y)))

/-- VMLD. -/
def execVmld (c : CellId) (ph : Phase) (s : State) : Out := powered s <|
  match ph with
  | .dispatch => done s (s.dispatch c cVMLD)
  | .execute => done s (s.vecExec c cVMLD (fun q => addrFails (q.ops.getD 0 0) 1024 128)
      (fun y s =>
        let a := (y.cmd.ops.getD 0 0).toNat
        match s.poisonAddr c [(a, 1024)] with
        | some p => (s, { y with poisonAt := some p })
        | none => (s.setCell c ((s.cell c).setMask (fld y.cmd.word 111 109) (BitVec.ofNat 8192 (ofBytes (s.readB (cellKey c a) 1024)))), y)))

/-- VMST. -/
def execVmst (c : CellId) (ph : Phase) (s : State) : Out := powered s <|
  match ph with
  | .dispatch => done s (s.dispatch c cVMST)
  | .execute => done s (s.vecExec c cVMST (fun q => addrFails (q.ops.getD 0 0) 1024 128)
      (fun y s => (s.writeB (cellKey c (y.cmd.ops.getD 0 0).toNat) (toBytes 1024 ((s.cell c).mask (fld y.cmd.word 111 109)).toNat), y)))

/-- The operations of VMOP (R142). -/
def maskOp (op : Nat) (a b : BitVec 8192) : BitVec 8192 :=
  match op with
  | 0 => a &&& b
  | 1 => a ||| b
  | 2 => a ^^^ b
  | 3 => a &&& ~~~b
  | 4 => ~~~a
  | _ => a

/-- VMOP. -/
def execVmop (c : CellId) (ph : Phase) (s : State) : Out := powered s <|
  match ph with
  | .dispatch => done s (s.dispatch c cVMOP)
  | .execute => done s (s.vecExec c cVMOP (fun _ => [])
      (fun y s =>
        let x := s.cell c
        let w := y.cmd.word
        (s.setCell c (x.setMask (fld w 111 109) (maskOp (fld w 102 100) (x.mask (fld w 108 106)) (x.mask (fld w 105 103)))), y)))

/-- VMRANGE: bits lo to hi − 1 set. -/
def execVmrange (c : CellId) (ph : Phase) (s : State) : Out := powered s <|
  match ph with
  | .dispatch => done s (s.dispatch c cVMRANGE)
  | .execute => done s (s.vecExec c cVMRANGE (fun _ => [])
      (fun y s =>
        let lo := min (y.cmd.ops.getD 0 0).toNat 8192
        let hi := min (y.cmd.ops.getD 1 0).toNat 8192
        (s.setCell c ((s.cell c).setMask (fld y.cmd.word 111 109) (BitVec.ofNat 8192 (if lo < hi then 2 ^ hi - 2 ^ lo else 0))), y)))

/-! ### Streams (R131 to R133) -/

structure Strm where
  en : Bool
  fmt : Nat
  signed : Bool
  mode : Nat
  base : Word64
deriving DecidableEq, Repr

/-- The stream whose enable is bit `hi` of a VPROG word (R148). -/
def strmOf (q : QCmd) (hi op : Nat) : Strm :=
  { en := bit q.word hi, fmt := fld q.word (hi - 6) (hi - 9), signed := bit q.word (hi - 10), mode := fld q.word (hi - 11) (hi - 12), base := q.ops.getD op 0 }

def strmX (q : QCmd) : Strm := strmOf q 82 0
def strmY (q : QCmd) : Strm := strmOf q 69 1
def strmZ (q : QCmd) : Strm := strmOf q 56 2
def strmO (q : QCmd) : Strm := { en := bit q.word 43, fmt := fld q.word 37 34, signed := bit q.word 33, mode := 0, base := q.ops.getD 3 0 }

/-- Elements a stream spans (R133). -/
def Strm.span (t : Strm) (n g : Nat) : Nat := match t.mode with
  | 0 => n
  | 1 => 1
  | 2 => (n + g - 1) / g
  | _ => min n g

/-- The stream index of element i (R133). -/
def Strm.idx (t : Strm) (g i : Nat) : Nat := match t.mode with
  | 0 => i
  | 1 => 0
  | 2 => i / g
  | _ => i % g

/-- The alignment of a stream's start address (R133). -/
def fmtAlign (f : Nat) : Nat := match fmtBits f with
  | 16 => 2
  | 32 => 4
  | _ => 1

/-- Range and alignment failures of a stream of `k` elements (R150). -/
def strmFails (base : Word64) (fmt k : Nat) : List (Nat × Nat) := addrFails base ((fmtBits fmt * k + 7) / 8) (fmtAlign fmt)

/-- Lane group length of a VPROG (R131). -/
def vprogLanes (q : QCmd) : Nat :=
  if [strmX q, strmY q, strmZ q, strmO q].all (fun t => !t.en || decide (fmtBits t.fmt ≤ 16)) then 256 else 128

/-- The format that a step or output origin records: that of the lowest enabled input stream (R152). -/
def originFmt (q : QCmd) : Nat :=
  match [strmX q, strmY q, strmZ q].find? (fun t => t.en) with
  | some t => t.fmt
  | none => 0

/-- A VPROG's failures (R150). -/
def State.vprogFails (s : State) (c : Nat) (q : QCmd) : List (Nat × Nat) :=
  let sl := (s.cell c).slot (fld q.word 111 109)
  let r := sl.record.toNat
  let n := fld q.word 108 96 + 1
  let g := fld q.word 95 83 + 1
  let skind := fld q.word 23 21
  (if !sl.valid then [(5, 0)] else
    (if (progReads r 0x16 && !(strmX q).en) || (progReads r 0x17 && !(strmY q).en) || (progReads r 0x18 && !(strmZ q).en) then [(6, 0)] else [])
      ++ (if prSumInt r && (skind == 5 || skind == 6) then [(9, 0)] else []))
    ++ (([strmX q, strmY q, strmZ q, strmO q].filter Strm.en).map (fun t => strmFails t.base t.fmt (t.span n g))).flatten

/-! ### Trees over elements (R144, R146) -/

/-- What a tree gives: value, flags, origins as (lowest element index, operands). -/
structure VTree where
  val : Nat
  flags : Nat := 0
  origins : List (Nat × Nat × Nat) := []

/-- One level of the pairwise tree. -/
def vLevel (op : Nat → Nat → Fl Nat) : List (Nat × Nat) → List (Nat × Nat) × Nat × List (Nat × Nat × Nat)
  | (k, x) :: (_, y) :: rest =>
    let (z, f) := op x y
    let (rs, fs, os) := vLevel op rest
    ((k, z) :: rs, f ||| fs, if isNan32 z && !isNan32 x && !isNan32 y then (k, x, y) :: os else os)
  | l => (l, 0, [])

/-- The tree over positions, `fuel` levels at most. -/
def vTree (op : Nat → Nat → Fl Nat) : Nat → List (Nat × Nat) → VTree
  | 0, l => { val := (l.getD 0 (0, 0)).2 }
  | fuel + 1, l =>
    match l with
    | _ :: _ :: _ =>
      let (l1, f1, o1) := vLevel op l
      let t := vTree op fuel l1
      { val := t.val, flags := f1 ||| t.flags, origins := o1 ++ t.origins }
    | _ => { val := (l.getD 0 (0, 0)).2 }

/-- The smallest power of two that is at least n (n ≥ 1). -/
def pow2Ceil (n : Nat) : Nat := if n ≤ 1 then 1 else 2 ^ (Nat.log2 (n - 1) + 1)

/-- Place leaves at positions 0 to P − 1, identities elsewhere; `k0` is the element index of position 0. -/
def padLeaves (p k0 ident : Nat) (l : List Nat) : List (Nat × Nat) :=
  (upTo p).zip (l ++ List.replicate (p - l.length) ident) |>.map (fun (i, v) => (k0 + i, v))

/-- The origin of a vector command as NAN_REC_* take it (R152). -/
def vOrigin (fmtB : Nat) (o : Option VOrigin) : Option NanOrigin :=
  o.map (fun v => { unit := 2, stage := 10, fmtA := v.fmtA, fmtB := fmtB, k := v.k, aBits := v.a, bBits := v.b })

/-- The origins of a tree, lowest element first. -/
def treeOrigin (fmtA : Nat) (os : List (Nat × Nat × Nat)) : Option VOrigin :=
  os.foldl (fun (a : Option VOrigin) o => match a with
    | some v => if o.1 < v.k then some { fmtA := fmtA, k := o.1, a := o.2.1, b := o.2.2 } else some v
    | none => some { fmtA := fmtA, k := o.1, a := o.2.1, b := o.2.2 }) none

/-! ### VPROG (R136 to R145, R152, R153) -/

/-- What one element of a VPROG gives. -/
structure ElemOut where
  active : Bool
  poison : Option Nat := none
  out : Option (Nat × Bool) := none
  mout : Option Bool := none
  sum : Nat := 0
  flags : Nat := 0
  origin : Option VOrigin := none

/-- An input stream's element on entry (R134, R152): its 32 bits, flags, origin, poison. -/
def State.entry (s : State) (c : Nat) (t : Strm) (reads input : Bool) (g i : Nat) : Nat × Nat × Option VOrigin × Option Nat :=
  if !reads then (0, 0, none, none)
  else
    let w := fmtBits t.fmt
    let j := t.idx g i
    let raw := s.elemAt c t.base.toNat w j
    let (v, f, nan) := entryVal t.fmt t.signed raw
    (v, f, if nan && input then some { fmtA := t.fmt, k := i, a := raw, b := 0 } else none, s.elemPoison c t.base.toNat w j)

/-- Element i of a VPROG (R136). Where several streams of one element hold a NaN, the origin is that of X, then Y, then Z (R152 gives no order among the streams: DESIGN CHOICE, log 36). -/
def State.vprogElem (s : State) (c : Nat) (q : QCmd) (r : Nat) (input : Bool) (mask : BitVec 8192) (i : Nat) : ElemOut :=
  let w := q.word
  let g := fld w 95 83 + 1
  let mzero := bit w 24
  let o := strmO q
  if bit w 28 && !bit mask i then
    { active := false, out := if mzero then some (0, false) else none, mout := if mzero then some false else none }
  else
    let (x, f1, o1, p1) := s.entry c (strmX q) (progReads r 0x16) input g i
    let (y, f2, o2, p2) := s.entry c (strmY q) (progReads r 0x17) input g i
    let (z, f3, o3, p3) := s.entry c (strmZ q) (progReads r 0x18) input g i
    match [p1, p2, p3].filterMap id with
    | p :: _ => { active := true, poison := some p, out := some (0, true), mout := some false }
    | [] =>
      let st := (progSteps r).foldl (fun st w => runStep r input (originFmt q) x y z i w st) {}
      let ov := st.e.getD (prOutSrc r) 0
      let cv : Conv := if o.en then outConvert o.fmt o.signed (fld w 32 30) (bit w 29) (prOutInt r) ov else { bits := 0, flags := 0 }
      let oo : Option VOrigin := if cv.origin then some { fmtA := originFmt q, k := i, a := ov, b := 0 } else none
      { active := true, out := some (cv.bits, false), mout := some (st.e.getD (prMoutSrc r) 0 != 0), sum := st.e.getD (prSumSrc r) 0
        flags := f1 ||| f2 ||| f3 ||| st.flags ||| cv.flags
        origin := [o1, o2, o3, st.origin, oo].foldl (fun a b => match a with
          | some v => some v
          | none => b) none }

/-- The scalar summary (R143, R144) over the summary inputs of the elements, none for an inactive one: its value, flags and tree. -/
def summarise (kind : Nat) (isInt : Bool) (n : Nat) (es : List (Option Nat)) : Word64 × VTree :=
  let act := es.filterMap id
  let none32 : VTree := { val := 0 }
  let leaves (ident : Nat) : List (Nat × Nat) := padLeaves (pow2Ceil n) 0 ident (es.map (fun e => e.getD ident))
  let ints := act.map int32
  let i64 (i : Int) : Word64 := BitVec.ofInt 64 i
  match kind with
  | 1 =>
    if isInt then (i64 ints.sum, none32)
    else
      let t := vTree add32 14 (leaves 0)
      (BitVec.ofNat 64 t.val, t)
  | 2 =>
    if isInt then (i64 (ints.foldl (fun a b => if a < b then b else a) (-(2 ^ 31 : Int))), none32)
    else
      let t := vTree max32 14 (leaves (inf32 true))
      (BitVec.ofNat 64 t.val, t)
  | 3 =>
    if isInt then (i64 (ints.foldl (fun a b => if b < a then b else a) (2 ^ 31 - 1 : Int)), none32)
    else
      let t := vTree min32 14 (leaves (inf32 false))
      (BitVec.ofNat 64 t.val, t)
  | 4 => (BitVec.ofNat 64 (act.filter (fun e => e != 0)).length, none32)
  | 5 => (BitVec.ofNat 64 (act.filter isNan32).length, none32)
  | 6 => (BitVec.ofNat 64 (act.filter isInf32).length, none32)
  | _ => (0, none32)

/-- The origin that comes first (R103): of one command's, the lane group orders them, and within it the element index; an element's own origin goes before one of a tree at the same
index. -/
def lowerK (elem tree : Option NanOrigin) : Option NanOrigin :=
  match elem, tree with
  | some e, some t => if t.k < e.k then some t else some e
  | some e, none => some e
  | none, t => t

/-- Elements lo to hi − 1 of a VPROG, one lane group: what it leaves in flight, and its flags. Of the overlaps that R151 leaves unordered within one command, the model reads every
input of a group before the group's own output is written and after the output of the groups before it (log 36, DESIGN CHOICE). The summary is formed with the last group. -/
def State.vprog (s : State) (c : Nat) (y : VecX) (lo hi : Nat) : VecX × Nat :=
  let q := y.cmd
  let w := q.word
  let r := ((s.cell c).slot (fld w 111 109)).record.toNat
  let n := fld w 108 96 + 1
  let kind := fld w 23 21
  let mask := (s.cell c).mask (fld w 27 25)
  let es := (upTo (hi - lo)).map (fun i => s.vprogElem c q r (nbits y.nanCfg 1 1 == 1) mask (lo + i))
  let o := strmO q
  let last := hi == n
  let sums := if kind = 0 then [] else y.sums ++ es.map (fun e => if e.active then some e.sum else none)
  let pz := firstAddr y.poisonAt ((es.findSome? ElemOut.poison).map (ownAddr c))
  let (v, t) := if !last || pz.isSome then (0, { val := 0 }) else summarise kind (prSumInt r) n sums
  let early := firstOrigin y.early (vOrigin o.fmt (es.findSome? ElemOut.origin))
  let final := last || prSumInt r || kind == 0 || decide (3 < kind)
  let y1 : VecX := { y with
    sums := sums, poisonAt := pz, result := v, early := early
    origin := if final then lowerK early (vOrigin o.fmt (treeOrigin (originFmt q) t.origins)) else none
    flight := some {
      base := o.base.toNat, width := fmtBits o.fmt, first := lo, outs := if o.en then es.map ElemOut.out else []
      mreg := if prMoutEn r then some (prMoutReg r) else none, mfirst := lo, mouts := es.map ElemOut.mout } }
  (y1, es.foldl (fun f e => f ||| e.flags) t.flags)

/-- VPROG (R148). -/
def execVprog (c : CellId) (ph : Phase) (s : State) : Out := powered s <|
  match ph with
  | .dispatch => done s (s.dispatch c cVPROG)
  | .execute => done s (s.vecExec c cVPROG (fun q => s.vprogFails c q) (fun y s =>
      (s, { y with total := (fld y.cmd.word 108 96 + vprogLanes y.cmd) / vprogLanes y.cmd })))

/-! ### VRED (R146, R153) -/

/-- One element of a VRED: its leaf, flags, origin, poison. R102 does not say whether an element that draws on poison and whose bytes hold a NaN is an origin: as in a VPROG, the model
makes it none, and raises no flag for it (log 36, DESIGN CHOICE). -/
def State.vredLeaf (s : State) (c : Nat) (q : QCmd) (input : Bool) (mask : BitVec 8192) (ident i : Nat) : Nat × Nat × Option VOrigin × Option Nat :=
  let w := q.word
  if bit w 67 && !bit mask i then (ident, 0, none, none)
  else
    let fmt := fld w 80 77
    let b := fmtBits fmt
    let base := (q.ops.getD 0 0).toNat
    match s.elemPoison c base b i with
    | some p => (ident, 0, none, some p)
    | none =>
      let raw := s.elemAt c base b i
      let (v, f, nan) := entryVal fmt (bit w 76) raw
      let o : Option VOrigin := if nan && input then some { fmtA := fmt, k := i, a := raw, b := 0 } else none
      let (leaf, f2) : Fl Nat := match fld w 70 68 with
        | 3 => mul32 v v
        | 4 => stepOp 0x07 v 0 0
        | _ => (v, 0)
      (leaf, f ||| f2, o, none)

/-- VRED's operation and identity (R146). -/
def vredOp (op : Nat) (isInt : Bool) : (Nat → Nat → Fl Nat) × Nat :=
  match op with
  | 1 => if isInt then (fun a b => stepOp 0x24 a b 0, 2 ^ 31) else (max32, inf32 true)
  | 2 => if isInt then (fun a b => stepOp 0x23 a b 0, 2 ^ 31 - 1) else (min32, inf32 false)
  | 4 => (max32, 0)
  | _ => if isInt then (fun a b => stepOp 0x20 a b 0, 0) else (add32, 0)

/-- The segments that a VRED's lane group has ended so far, with its flags. -/
structure RedRun where
  y : VecX
  outs : List (Option (Nat × Bool)) := []
  flags : Nat := 0

/-- Element i of a VRED joins its segment; the segment's last element ends it (R146, R153). -/
def State.vredStep (s : State) (c : Nat) (mask : BitVec 8192) (a : RedRun) (i : Nat) : RedRun :=
  let q := a.y.cmd
  let w := q.word
  let n := fld w 111 99 + 1
  let g := fld w 98 86 + 1
  let fmt := fld w 80 77
  let (op, ident) := vredOp (fld w 70 68) (isIntFmt fmt)
  let (leaf, f, o, pz) := s.vredLeaf c q (nbits a.y.nanCfg 1 1 == 1) mask ident i
  let y1 : VecX := { a.y with
    leaves := leaf :: a.y.leaves, leafPoison := a.y.leafPoison || pz.isSome, early := firstOrigin a.y.early (vOrigin 0 o)
    poisonAt := firstAddr a.y.poisonAt (pz.map (ownAddr c)) }
  if i + 1 ≠ n && (i + 1) % g ≠ 0 then { a with y := y1, flags := a.flags ||| f }
  else
    let t := if y1.leafPoison then { val := 0 } else vTree op 14 (padLeaves (pow2Ceil g) (i / g * g) ident y1.leaves.reverse)
    let tree := if isIntFmt fmt then none else vOrigin 0 (treeOrigin fmt t.origins)
    { y := { y1 with leaves := [], leafPoison := false, early := none, origin := firstOrigin y1.origin (lowerK y1.early tree) },
      outs := a.outs ++ [some (t.val, y1.leafPoison)], flags := a.flags ||| f ||| t.flags }

/-- Elements lo to hi − 1 of a VRED, one lane group: a segment's result is written with the group of its last element. -/
def State.vred (s : State) (c : Nat) (y : VecX) (lo hi : Nat) : VecX × Nat :=
  let q := y.cmd
  let r := (upTo (hi - lo)).foldl (fun a i => s.vredStep c ((s.cell c).mask (fld q.word 66 64)) a (lo + i)) { y := y }
  ({ r.y with flight := some { base := (q.ops.getD 1 0).toNat, width := 32, first := lo / (fld q.word 98 86 + 1), outs := r.outs } }, r.flags)

/-- VRED (R148). -/
def execVred (c : CellId) (ph : Phase) (s : State) : Out := powered s <|
  match ph with
  | .dispatch => done s (s.dispatch c cVRED)
  | .execute => done s (s.vecExec c cVRED
      (fun q =>
        let n := fld q.word 111 99 + 1
        let g := fld q.word 98 86 + 1
        strmFails (q.ops.getD 0 0) (fld q.word 80 77) n ++ strmFails (q.ops.getD 1 0) 0 ((n + g - 1) / g))
      (fun y s => (s, { y with total := (fld y.cmd.word 111 99 + 128) / 128 })))

/-! ### COMPRESS and EXPAND (R147) -/

/-- The failures of a VCOMP or VEXPD: both spans are those of N elements. -/
def compFails (q : QCmd) : List (Nat × Nat) :=
  let n := fld q.word 111 99 + 1
  strmFails (q.ops.getD 0 0) (fld q.word 88 85) n ++ strmFails (q.ops.getD 1 0) (fld q.word 88 85) n

/-- Element j of a source with whether it carries poison. -/
def State.elemPz (s : State) (c base w j : Nat) : Nat × Bool := (s.elemAt c base w j, (s.elemPoison c base w j).isSome)

/-- Elements lo to hi − 1 of a VCOMP, one lane group. -/
def State.vcomp (s : State) (c : Nat) (y : VecX) (lo hi : Nat) : VecX × Nat :=
  let q := y.cmd
  let w := fmtBits (fld q.word 88 85)
  let mask := (s.cell c).mask (fld q.word 84 82)
  let es := (((upTo (hi - lo)).map (fun i => lo + i)).filter (fun i => bit mask i)).map (s.elemPz c (q.ops.getD 0 0).toNat w)
  let k := y.count + es.length
  ({ y with
    count := k, result := BitVec.ofNat 64 k
    flight := some { base := (q.ops.getD 1 0).toNat, width := w, first := y.count, outs := es.map some } }, 0)

/-- VCOMP. -/
def execVcomp (c : CellId) (ph : Phase) (s : State) : Out := powered s <|
  match ph with
  | .dispatch => done s (s.dispatch c cVCOMP)
  | .execute => done s (s.vecExec c cVCOMP compFails (fun y s => (s, { y with total := (fld y.cmd.word 111 99 + 128) / 128 })))

/-- Spread elements over the set bits of a mask; a clear bit keeps or zeroes (R147). -/
def expandOver (zero : Bool) (mask : BitVec 8192) : List Nat → List (Nat × Bool) → List (Option (Nat × Bool))
  | [], _ => []
  | i :: is, es =>
    if bit mask i then
      match es with
      | e :: rest => some e :: expandOver zero mask is rest
      | [] => none :: expandOver zero mask is []
    else (if zero then some (0, false) else none) :: expandOver zero mask is es

/-- Elements lo to hi − 1 of a VEXPD, one lane group. -/
def State.vexpd (s : State) (c : Nat) (y : VecX) (lo hi : Nat) : VecX × Nat :=
  let q := y.cmd
  let w := fmtBits (fld q.word 88 85)
  let mask := (s.cell c).mask (fld q.word 84 82)
  let is := (upTo (hi - lo)).map (fun i => lo + i)
  let k := (is.filter (fun i => bit mask i)).length
  let es := (upTo k).map (fun i => s.elemPz c (q.ops.getD 0 0).toNat w (y.count + i))
  ({ y with
    count := y.count + k, result := BitVec.ofNat 64 (y.count + k)
    flight := some { base := (q.ops.getD 1 0).toNat, width := w, first := lo, outs := expandOver (bit q.word 81) mask is es } }, 0)

/-- VEXPD. -/
def execVexpd (c : CellId) (ph : Phase) (s : State) : Out := powered s <|
  match ph with
  | .dispatch => done s (s.dispatch c cVEXPD)
  | .execute => done s (s.vecExec c cVEXPD compFails (fun y s => (s, { y with total := (fld y.cmd.word 111 99 + 128) / 128 })))

/-! ### Lane groups (R131, R151) -/

/-- How many elements a command has, and how many a lane group has (R131, R148). -/
def vecCount (q : QCmd) : Nat := if wcode q.word = cVPROG then fld q.word 108 96 + 1 else fld q.word 111 99 + 1
def vecLanes (q : QCmd) : Nat := if wcode q.word = cVPROG then vprogLanes q else 128

/-- The elements of the lane group that a command issues next: first, and one past the last. -/
def VecX.span (y : VecX) : Nat × Nat := (y.groups * vecLanes y.cmd, min (vecCount y.cmd) ((y.groups + 1) * vecLanes y.cmd))

/-- The stream elements that elements [lo, hi) of a command name (R133). -/
def Strm.elems (t : Strm) (n g lo hi : Nat) : Nat × Nat := match t.mode with
  | 0 => (lo, hi)
  | 1 => (0, 1)
  | 2 => (lo / g, (hi - 1) / g + 1)
  | _ => (0, min n g)

/-- What a lane group reads: bytes, old values that merge keeps among them, and mask registers (R151). -/
def State.vecReads (s : State) (c : Nat) (y : VecX) : List (Nat × Nat) × List Nat :=
  let q := y.cmd
  let w := q.word
  let (lo, hi) := y.span
  let a := (q.ops.getD 0 0).toNat
  if wcode w = cVPROG then
    let r := ((s.cell c).slot (fld w 111 109)).record.toNat
    let o := strmO q
    (([(strmX q, 0x16), (strmY q, 0x17), (strmZ q, 0x18)].filter (fun x => progReads r x.2)).map (fun x =>
        (fun (e : Nat × Nat) => elemRun x.1.base.toNat (fmtBits x.1.fmt) e.1 e.2) (x.1.elems (vecCount q) (fld w 95 83 + 1) lo hi))
      ++ (if o.en && bit w 28 && !bit w 24 then [elemRun o.base.toNat (fmtBits o.fmt) lo hi] else []),
     if bit w 28 then [fld w 27 25] else [])
  else if wcode w = cVRED then ([elemRun a (fmtBits (fld w 80 77)) lo hi], if bit w 67 then [fld w 66 64] else [])
  else
    let b := fmtBits (fld w 88 85)
    let k := (((upTo (hi - lo)).map (fun i => lo + i)).filter (fun i => bit ((s.cell c).mask (fld w 84 82)) i)).length
    (if wcode w = cVCOMP then [elemRun a b lo hi]
     else [elemRun a b y.count (y.count + k)] ++ (if bit w 81 then [] else [elemRun (q.ops.getD 1 0).toNat b lo hi]), [fld w 84 82])

/-- The executing command that issues lane groups, and its place: all earlier ones have issued their last. -/
def Cell.vecIssuing (x : Cell) : Option (Nat × VecX) :=
  match findIdx (fun y => y.started && decide (y.groups < y.total)) x.xVector with
  | some j => (x.xVector[j]?).map (fun y => (j, y))
  | none => none

/-- VEC.STATUS.INTERLOCK: the executing command is held by R151. -/
def State.vecHeld (s : State) (c : Nat) : Bool :=
  let x := s.cell c
  (match x.vecIssuing with
    | some (j, y) => x.vecInterlock j (s.vecReads c y).1 (s.vecReads c y).2
    | none => false)
  || (match findIdx (fun y => !y.started) x.xVector with
    | some j => (match x.xVector[j]? with
      | some y => x.vecInterlock j (vecReads0 y.cmd).1 (vecReads0 y.cmd).2
      | none => false)
    | none => false)

/-- One lane group's elements: what it leaves in flight, and its flags. -/
def State.vecGroup (s : State) (c : Nat) (y : VecX) : VecX × Nat :=
  let code := wcode y.cmd.word
  if code = cVPROG then s.vprog c y y.span.1 y.span.2
  else if code = cVRED then s.vred c y y.span.1 y.span.2
  else if code = cVCOMP then s.vcomp c y y.span.1 y.span.2
  else s.vexpd c y y.span.1 y.span.2

/-- The next lane group issues, unless an interlock holds its reads (R131, R151): the command's group before it completes, after the groups in flight of earlier commands, and the
group's elements are read and computed. -/
def execVectorGroupIssue (c : CellId) (s : State) : Out := powered s <|
  match (s.cell c).vecIssuing with
  | none => .next s
  | some (j, y0) =>
    if !s.clocked c || s.vecHeld c then .next s
    else
      let s1 := if y0.flight.isSome then s.vecFlush c j else s
      let (y1, fl) := s1.vecGroup c { y0 with flight := none }
      let g := y0.groups + 1
      .next (((((s1.setVecX c j { y1 with groups := g, finished := g == y0.total }).orFlags c afVECTOR fl).nanSee c y0.cmd y0.nanCfg y0.origin y1.origin).bumpCell
        c 0xC10 1).countPoints c 1)

/-! ### VEC.MDATA (R154) -/

/-- Advance VEC.MSEL.WORD modulo 128. -/
def State.mselNext (s : State) (c : Nat) : State := s.wf (cellBase c + rMSEL) 6 0 (s.rf (cellBase c + rMSEL) 6 0 + 1)

/-- The 64 mask bits that VEC.MSEL names. -/
def State.mdata (s : State) (c : Nat) : Word64 :=
  let w := s.rf (cellBase c + rMSEL) 6 0
  BitVec.ofNat 64 (fld ((s.cell c).mask (s.rf (cellBase c + rMSEL) 9 7)) (64 * w + 63) (64 * w))

/-- A read of VEC.MDATA (R154). -/
def execMdataRead (c : CellId) (s : State) : Out := powered s <| .next (s.mselNext c)

/-- A write of VEC.MDATA (R154). -/
def execMdataWrite (c : CellId) (v : Word64) (s : State) : Out := powered s <|
  let x := s.cell c
  let w := s.rf (cellBase c + rMSEL) 6 0
  let n := s.rf (cellBase c + rMSEL) 9 7
  .next (if x.debuggable then (s.setCell c (x.setMask n (setFld (x.mask n) (64 * w + 63) (64 * w) v.toNat))).mselNext c else s.cmdReject c)

end Sys2Proof.Machine
end

