-- ==== Sys2Proof/Machine/Net.lean ====
section
/-! DEFINITION. Coordinates (R58, R295), the neighbour plan (R298, R299), routes (R303, R304) and how a request or a response leaves this package (R253 to R257). -/

namespace Sys2Proof.Machine

/-! ### Coordinates (R58) -/

def coPart (x : Nat) : Nat := x % 8
def coMember (x : Nat) : Nat := x / 8 % 16
def coGroup (x : Nat) : Nat := x / 128 % 64
def coPlane (x : Nat) : Nat := x / 8192 % 16
/-- The package of a coordinate: everything but the partition. -/
def coPackage (x : Nat) : Nat := x / 8 % 2 ^ 14

/-- The destination 16 × group + member of a coordinate (R310). -/
def coDest (x : Nat) : Nat := x / 8 % 1024

/-! ### The plan (R298, R299) -/

def flRegs (f : Nat) : Nat := regionBase (f / 8) + 0x20_0000 + (f % 8) * 0x1000
def fabBase (p : Nat) : Nat := 0x0600_0000 + p * 0x10_0000
def linkLevel (f : Nat) : Nat := if f % 8 < 5 then 1 else 2
def ord1 (f : Nat) : Nat := 5 * (f / 8) + f % 8
def ord2 (f : Nat) : Nat := 3 * (f / 8) + f % 8 - 5
def link1 (o : Nat) : Nat := 8 * (o / 5) + o % 5
def link2 (o : Nat) : Nat := 8 * (o / 3) + 5 + o % 3

def State.groupSize (s : State) : Nat := s.cfgB 0x024
def State.minPeers (s : State) : Nat := s.cfgB 0x025
def State.minLinks (s : State) : Nat := s.cfgB 0x026
def State.discWindow (s : State) : Nat := s.cfgB 0x027
def State.degradeOk (s : State) : Bool := s.cfgB 0x028 % 2 == 1

/-- The level-1 plan entry of a link: the peer's coordinate and link (R299). -/
def State.plan1 (s : State) (f : Nat) : Option (Nat × Nat) :=
  match s.module.coord with
  | none => none
  | some (_, _, m) =>
    if linkLevel f ≠ 1 || s.flumeUnused f then none
    else
      let d := ord1 f / 4 + 1
      let k := ord1 f % 4
      let peer := (m + d) % 16
      if s.groupSize ≤ peer then none
      else
        let own := s.coordOf (s.linkPart f)
        some (own - coMember own * 8 + peer * 8, link1 (4 * (15 - d) + k))

/-- The committed plan entry of a link (R299, R300). -/
def State.planOf (s : State) (f : Nat) : Option (Nat × Nat) :=
  if linkLevel f = 1 then s.plan1 f
  else
    let w := (s.fabric (s.linkPart f)).plan2.get 0 f
    if fld w 63 62 = 2 then some (fld w 16 0, fld w 55 48) else none

/-- What FAB.PLANn shows of a level-1 entry (R310). -/
def State.planWord1 (s : State) (f : Nat) : Word64 :=
  match s.plan1 f with
  | some (c, l) => BitVec.ofNat 64 (2 ^ 62 + l * 2 ^ 48 + c)
  | none => 0

def State.outcome (s : State) (f : Nat) : LinkOutcome := (s.fabric (s.linkPart f)).outcomes.get .unplanned f
def State.setOutcome (s : State) (f : Nat) (o : LinkOutcome) : State :=
  let p := s.linkPart f
  s.setFabric p { s.fabric p with outcomes := (s.fabric p).outcomes.put .unplanned f o }

def LinkOutcome.code : LinkOutcome → Nat
  | .unplanned => 0 | .waiting => 1 | .matched => 2 | .miswired => 3 | .unexpected => 4 | .missing => 5

/-- A link carries new requests: MATCHED and ACTIVE (R301, R303). -/
def State.carries (s : State) (f : Nat) : Bool := s.outcome f == .matched && (s.link f).st == .active

/-! ### Direct links and routes (R303, R305) -/

/-- Key of a destination in the routes of a partition: the member of the own group, or 16 + the destination of another group. -/
def State.routeKey (s : State) (p dst : Nat) : Nat :=
  let own := s.coordOf p
  if coGroup own = coGroup dst then coMember dst else 16 + coDest dst

/-- The level-2 route entry of a destination. -/
def State.l2Entry (s : State) (p d : Nat) : Word64 := (s.fabric p).route2.get 0 d

/-- Direct links of a partition to a route key, in ascending F number (R303, R304). -/
def State.directLinks (s : State) (p key : Nat) : List Nat :=
  if key < 16 then
    (s.partLinks p).filter (fun f => linkLevel f == 1 && s.carries f && (match s.planOf f with
      | some (c, _) => coMember c == key
      | none => false))
  else
    let d := key - 16
    let e := s.l2Entry p d
    if !bit e 63 then []
    else (s.partLinks p).filter (fun f => linkLevel f == 2 && bit e (25 + ord2 f) && s.carries f && (match s.planOf f with
      | some (c, _) => coDest c == d
      | none => false))

def State.route (s : State) (p key : Nat) : Route := (s.fabric p).routes.get {} key
def State.setRoute (s : State) (p key : Nat) (r : Route) : State :=
  s.setFabric p { s.fabric p with routes := (s.fabric p).routes.put {} key r }

def featGRIST : Nat := 0
def featMILLRACE : Nat := 1
def featFORWARD : Nat := 2
def featHALF : Nat := 3

def Link.has (l : Link) (feature : Nat) : Bool := nbits l.features feature feature == 1

/-- Direct links to a relay on which FORWARD was negotiated (R303). -/
def State.relayLinks (s : State) (p key : Nat) : List Nat := (s.directLinks p key).filter (fun f => (s.link f).has featFORWARD)

/-- ALT1 and then ALT2 of a level-2 entry, as route keys (R303, R305). -/
def State.altKeys (s : State) (p key : Nat) : List Nat :=
  let e := s.l2Entry p (key - 16)
  let own := coGroup (s.coordOf p)
  let keyOf (d : Nat) : Nat := if d / 16 = own then d % 16 else 16 + d
  (if bit e 62 then [keyOf (fld e 19 10)] else []) ++ (if bit e 61 then [keyOf (fld e 9 0)] else [])

/-- The relay set in use for a key: the route's own, or the alternates of a level-2 entry (R303). -/
def State.relaysFor (s : State) (p key : Nat) : List Nat :=
  let r := s.route p key
  match r.st with
  | .relay => r.relays
  | .none => if 16 ≤ key && bit (s.l2Entry p (key - 16)) 63 then (s.altKeys p key).filter (fun x => !(s.relayLinks p x).isEmpty) else []
  | _ => []

/-! ### Messages (R253–R255) -/

def mkWRITE : Nat := 1
def mkGRIST : Nat := 2
def mkREAD : Nat := 3
def mkSIGNAL : Nat := 4
def mkMILLRACE : Nat := 5
def mkRESP : Nat := 8
def mkACK : Nat := 9

def stOK : Nat := 0
def stBADKIND : Nat := 1
def stBADLEN : Nat := 2
def stBADVC : Nat := 3
def stRESERVED : Nat := 4
def stFEATURE : Nat := 5
def stNOTADM : Nat := 6
def stNOPART : Nat := 0x20
def stSPACE : Nat := 0x21
def stRIGHTS : Nat := 0x22
def stOWNER : Nat := 0x23
def stABANDONED : Nat := 0x24
def stJOB : Nat := 0x25
def stBUSY : Nat := 0x26
def stNOROUTE : Nat := 0x27

/-- Pieces of a data area (R255). -/
def LinkMsg.pieces (m : LinkMsg) : Nat :=
  if m.kind = mkMILLRACE then 128 else if m.len = 0 then 0 else (m.addr % 32 + m.len + 31) / 32

/-- Slots of 64 bytes that a message occupies: its header and its padded data area. -/
def LinkMsg.slots (m : LinkMsg) : Nat := 1 + (m.pieces + 1) / 2

/-- The value h of R304. -/
def LinkMsg.hash (m : LinkMsg) : Nat :=
  if m.kind = mkSIGNAL then nbits m.addr 8 3
  else if m.kind = mkMILLRACE then nbits m.addr 5 0
  else if m.kind = mkRESP || m.kind = mkACK then nbits m.txid 5 0
  else nbits m.addr 17 12

/-- The feature that a kind needs, if any (R267, R278). -/
def kindFeature (kind : Nat) : Option Nat :=
  if kind = mkGRIST then some featGRIST else if kind = mkMILLRACE then some featMILLRACE else none

/-- The poisoned pieces of a data area whose first byte is byte `off` of its first piece. -/
def piecesOf (off : Nat) (bs : List PByte) : List Nat :=
  (upTo ((off + bs.length + 31) / 32)).filter (fun i => (((bs.drop (32 * i - off)).take (if i = 0 then 32 - off else 32))).any (fun x => x.2))

/-- The data of a message with its poison. -/
def LinkMsg.bytes (m : LinkMsg) : List PByte :=
  let off := if m.kind = mkMILLRACE then 0 else m.addr % 32
  m.data.zip (upTo m.data.length) |>.map (fun (b, i) => (b, m.pmapValid && m.pmap.contains ((off + i) / 32)))

/-- Put data into a message. -/
def LinkMsg.withData (m : LinkMsg) (bs : List PByte) : LinkMsg :=
  let pz := piecesOf (if m.kind = mkMILLRACE then 0 else m.addr % 32) bs
  { m with data := bs.map (fun x => x.1), len := bs.length, pmap := pz, pmapValid := !pz.isEmpty }

/-! ### Sending (R278, R303, R304, R307) -/

/-- Queue a message on a link. -/
def State.queueTx (s : State) (f : Nat) (m : LinkMsg) : State := s.setLink f { s.link f with txMsgs := (s.link f).txMsgs ++ [m] }

/-- How a request leaves. -/
inductive Sent where
  | sent (s : State)
  | held (s : State)
  | failed (status : Nat) (s : State)

/-- FAB.NO_ROUTE counts the partition's requests that end with NO_ROUTE. -/
def State.countNoRoute (s : State) (p : Nat) : State := s.bump (fabBase p + 0x30) 63 0 1

/-- Pick link h mod k. -/
def pickLink (fs : List Nat) (h : Nat) : Nat := fs.getD (h % fs.length) 0

/-! ### On the leat (R16, R297) -/

/-- The node that holds what a request addresses, a bedstone or 6, the hurst; none: its address leads nowhere. -/
def State.msgHome (s : State) (m : LinkMsg) : Option Nat :=
  let d := coPart m.dst
  let off := m.addr % 2 ^ 52
  if m.kind = mkMILLRACE then (if m.addr % 1024 < 576 then some (m.addr % 1024 / 96) else none)
  else if m.kind = mkSIGNAL then (s.ctrKey d m.addr).map (fun k => match ctrRegion k with
    | some r => r / 2
    | none => 6)
  else match m.addr / 2 ^ 52 with
  | 0 => if off < s.partSize d then some (s.stackOf d off / 4) else none
  | 1 => some 6
  | 2 => if off < 0xC000_0000 then some (off / 0x1000_0000 / 2) else none
  | 3 => if off < 576 * 0x80_0000 then some (off / 0x80_0000 / 96) else none
  | _ => none

/-- The region that sends a request; none: the hurst, or another package. -/
def srcRegion : ReqSrc → Option Nat
  | .chan b _ _ => some (b / 12)
  | .sigr c _ => some (cellRegion c)
  | .mred c _ => some (cellRegion c)
  | .nobody _ r => if r < 12 then some r else none
  | _ => none

/-- The node where a request starts. -/
def srcNode (src : ReqSrc) : Nat := ((srcRegion src).map (fun r => r / 2)).getD 6

/-- A request of this package starts on its way to the partition that it names. A request whose address leads nowhere is answered where it starts. -/
def State.overLeat (s : State) (src : ReqSrc) (m : LinkMsg) : State :=
  { s with selfMsgs := s.selfMsgs ++ [{ via := .self, msg := m, node := srcNode src, goal := (s.msgHome m).getD (srcNode src) }] }

/-- A response to a request of this package, or of its guest site, starts on its way back. -/
def State.backOverLeat (s : State) (via : Via) (node : Nat) (m : LinkMsg) : State :=
  let goal := match via with
    | .guest => 6
    | _ => match s.reqs.find? (fun r => r.txid == m.txid && r.via == .self) with
      | some r => srcNode r.src
      | none => node
  { s with selfMsgs := s.selfMsgs ++ [{ via := via, msg := m, node := node, goal := goal }] }

/-- Requests end without a response: their TXIDs are known, so that a response that comes later is not taken for a violation (R257, R289). -/
def State.endReqs (s : State) (which : Req → Bool) : State :=
  { s with reqs := s.reqs.filter (fun r => !which r), ended := s.ended ++ ((s.reqs.filter which).map (fun r => (r.txid, r.peer))) }

/-- Record an outstanding request. -/
def State.addReq (s : State) (m : LinkMsg) (via : Via) (src : ReqSrc) (pos : Nat) : State :=
  { s with reqs := s.reqs ++ [{ txid := m.txid, kind := m.kind, via := via, src := src, addr := m.addr,
                                amount := if m.kind = mkREAD then m.amount else m.len, pos := pos, peer := m.dst }] }

/-- Send a numbered request over one of the links given. -/
def State.sendOver (s : State) (p : Nat) (fs : List Nat) (src : ReqSrc) (pos : Nat) (m : LinkMsg) : Sent :=
  match fs with
  | [] => .failed stNOROUTE (s.countNoRoute p)
  | _ =>
    let f := pickLink fs m.hash
    let ok := match kindFeature m.kind with
      | some b => (s.link f).has b
      | none => true
    if ok then .sent ((s.queueTx f m).addReq m (.flume f) src pos) else .failed stFEATURE s

/-- Send a numbered request of partition `p` by its route; `path` forces a relay member (R385). -/
def State.sendNumbered (s : State) (p : Nat) (src : ReqSrc) (pos : Nat) (path : Option Nat) (m : LinkMsg) : Sent :=
  let own := s.coordOf p
  let key := s.routeKey p m.dst
  if coPackage m.dst = coPackage own then
    .sent ((s.overLeat src m).addReq m .self src pos)
  else if coPlane m.dst ≠ coPlane own then .failed stNOROUTE (s.countNoRoute p)
  else match path with
  | some x => s.sendOver p (s.relayLinks p x) src pos m
  | none =>
    let ds := s.directLinks p key
    if !ds.isEmpty then s.sendOver p ds src pos m
    else if (s.route p key).st = .probing then
      .held (s.setRoute p key { s.route p key with held := (s.route p key).held ++ [(src, pos, m)] })
    else
      let rs := s.relaysFor p key
      if rs.isEmpty then .failed stNOROUTE (s.countNoRoute p)
      else s.sendOver p (s.relayLinks p (pickLink rs m.hash)) src pos m

/-- Send a request of partition `p`: it takes the next TXID, and the own coordinate as SRC. -/
def State.sendReq (s : State) (p : Nat) (src : ReqSrc) (pos : Nat) (path : Option Nat) (m : LinkMsg) : Sent :=
  State.sendNumbered { s with nextTxid := (s.nextTxid + 1) % 2 ^ 64 } p src pos path { m with src := s.coordOf p, txid := s.nextTxid, vc := 0 }

/-! ### Responses (R256, R304) -/

/-- Send a response from a node: over the link its request came on while that link is ACTIVE, else routed to DST like a request, over a direct link or over a relay; a response that
finds no route is lost. -/
def State.respond (s : State) (p : Nat) (via : Via) (node : Nat) (m : LinkMsg) : State :=
  let routed : State :=
    let key := s.routeKey p m.dst
    let ds := s.directLinks p key
    let rs := s.relaysFor p key
    if coPackage m.dst = coPackage (s.coordOf p) then s.backOverLeat .self node m
    else match (if !ds.isEmpty then ds else if rs.isEmpty then [] else s.relayLinks p (pickLink rs m.hash)) with
    | [] => s
    | fs => s.queueTx (pickLink fs m.hash) m
  match via with
  | .flume f => if (s.link f).st = .active then s.queueTx f m else routed
  | .leat _ => s.backOverLeat .self node m
  | .self => s.backOverLeat .self node m
  | .guest => s.backOverLeat .guest node m

/-- The response to a request with a status and no data. A READ_REQ is answered with a READ_RESP, every other kind with an ACK (R254). -/
def LinkMsg.answer (m : LinkMsg) (own status : Nat) : LinkMsg :=
  { kind := if m.kind = mkREAD then mkRESP else mkACK, vc := 1, job := m.job, status := status, src := own, dst := m.src, addr := m.addr,
    txid := m.txid, amount := if m.kind = mkREAD then m.amount else 0, seq := m.seq }

/-- Split a run of `n` bytes at the 4 KiB boundaries of its addresses (R255): offset in the run, address, length. -/
def splitRun : Nat → Nat → Nat → Nat → List (Nat × Nat × Nat)
  | 0, _, _, _ => []
  | fuel + 1, off, a, n =>
    if n = 0 then []
    else
      let m := min n (4096 - a % 4096)
      (off, a, m) :: splitRun fuel (off + m) (a + m) (n - m)

end Sys2Proof.Machine
end

