-- ==== Sys2Proof/Machine/TollPond.lean ====
section
/-! DEFINITION. The toll and pond units' shared operations (R195, R379 to R386): triggers, the start of a round, the start, end and failure of a pond copy. -/

namespace Sys2Proof.Machine

def pondBaseReg (p : Nat) : Nat := rasBase p + 0x2000
def dumpBaseReg (p : Nat) : Nat := rasBase p + 0x3000

/-- Offsets of the trigger registers of both units (R384, R389). -/
def rTRIG : Nat := 0x18
def rTRIGEXP : Nat := 0x20
def rTRIGSTRIDE : Nat := 0x28
def rSTEP : Nat := 0x30
def rSTEPSTRIDE : Nat := 0x38
def rUSTATUS : Nat := 0x50
def rPDONE : Nat := 0x40

/-- An event of a partition's own unit (UNIT kind 0). -/
def partEvent (p code a0 a1 a2 : Nat) : Event := { code := code, part := p, arg0 := a0, arg1 := a1, arg2 := a2 }

/-- A signal sent to a counter of partition `p` by a space 4 offset. -/
def State.signal (s : State) (g : Signal) : State := { s with signals := s.signals ++ [g] }

/-- The pond unit signals DONE_CTR by 1; the spec names no job for it, and it carries the counter's own owner (log 20). -/
def State.pondSignal (s : State) (p : Nat) : State :=
  let off := s.rf (pondBaseReg p + rPDONE) 21 3 * 8
  let job := match s.ctrKey p off with
    | some k => (s.ctr k).job
    | none => 0
  s.signal { part := p, offset := off, amount := 1, job := job, src := .remote (s.coordOf p) ((s.part p).pond.step) }

/-! ### Ranges -/

/-- The valid ranges of a unit in ascending register index: base and length (R379, R384, R389). -/
def State.unitRanges (s : State) (base : Nat) : List (Nat × Nat) :=
  ((upTo 8).map (fun n => (s.rf (base + 0x100 + 16 * n) 56 12 * 4096, (s.rd (base + 0x108 + 16 * n)).toNat))).filter (fun r => r.2 != 0)

/-! ### Triggers (R195, R384) -/

/-- Whether an armed trigger of a unit has reached its target on a counter of the partition. -/
def State.trigReached (s : State) (p base k : Nat) : Bool :=
  s.rb (base + rTRIG) 63 && s.ctrKey p (s.rf (base + rTRIG) 21 3 * 8) == some k && decide (k < 4096)
    && ((s.ctr k).st == .owned || (s.ctr k).st == .frozen) && decide ((s.rd (base + rTRIGEXP)).toNat ≤ (s.ctr k).value.toNat)

/-- A trigger fires (R384): STEP is taken, STEP and TRIG_EXPECT advance, and a trigger without a stride disarms. -/
def State.trigTake (s : State) (base : Nat) : Word64 × State :=
  let step := s.rd (base + rSTEP)
  let s1 := (s.wr (base + rSTEP) (step + s.rd (base + rSTEPSTRIDE))).wr (base + rTRIGEXP) (s.rd (base + rTRIGEXP) + s.rd (base + rTRIGSTRIDE))
  (step, if s.rd (base + rTRIGSTRIDE) = 0 then s1.wb (base + rTRIG) 63 false else s1)

/-! ### Tolls (R379, R380) -/

def TollState.code : TollState → Nat
  | .idle => 0 | .hashing => 1 | .exchanging => 2

/-- A round starts (R380). -/
def State.tollBegin (s : State) (p : Nat) (step : Word64) : State :=
  let b := tollBase p
  let s1 := ((s.wb (b + rUSTATUS) 8 false).wf (b + rUSTATUS) 2 0 1).wr (b + 0x40) (s.rd (b + 0x40) + BitVec.ofNat 64 (s.rf b 47 41 - 1))
  s1.setPart p { s1.part p with toll := { (s1.part p).toll with st := .hashing, tag := step, ranges := s1.unitRanges b } }

/-- A byte string as the digest hashes it, with the step tag and the total in front (R379). -/
def State.tollInput (s : State) (p : Nat) (tag : Word64) (ranges : List (Nat × Nat)) : List Byte × Bool :=
  let total := (ranges.map (fun r => r.2)).sum
  let grans := (ranges.map (fun r => (upTo (r.2 / 4096)).map (fun j => r.1 + 4096 * j))).flatten
  let step (acc : List Byte × Bool × Nat) (a : Nat) : List Byte × Bool × Nat :=
    let g := match s.locate { part := p } false a 4096 with
      | .mem k => s.viewPB k 4096
      | _ => []
    let h := toBytes 32 ((Config.sha384 (toBytes 8 acc.2.2 ++ g.map (fun x => x.1))).toNat % 2 ^ 256)
    (acc.1 ++ h, acc.2.1 || g.any (fun x => x.2), acc.2.2 + 1)
  let r := grans.foldl step (toBytes 8 tag.toNat ++ toBytes 8 (total % 2 ^ 64), false, 0)
  (r.1, r.2.1)

/-- The 64-byte record of a round (R380). -/
def tollRecord (digest : BitVec 384) (tag : Word64) (self : Nat) (poisoned : Bool) : List Byte :=
  toBytes 48 digest.toNat ++ toBytes 8 tag.toNat ++ toBytes 2 self ++ toBytes 2 (b2n poisoned) ++ toBytes 4 0

/-! ### Pond copies (R382–R386) -/

/-- Slot size: half the pond area, rounded down to a multiple of 4 KiB (R382). -/
def State.slotSize (s : State) (p : Nat) : Nat := s.pondSize p / 2 / 4096 * 4096

/-- A generation header of 4 KiB (R382). -/
def pondHeader (complete correlated partialCopy : Bool) (tag : Nat) (owner gen bytes : Nat) (digest : Nat) (ranges : List (Nat × Nat)) : List Byte :=
  let rs := (upTo 8).map (fun i => ranges.getD i (0, 0))
  let h := toBytes 4 0x444E_4F50 ++ toBytes 1 (b2n complete) ++ toBytes 1 (b2n correlated + 2 * b2n partialCopy) ++ toBytes 2 ranges.length
    ++ toBytes 8 tag ++ toBytes 4 owner ++ toBytes 4 gen ++ toBytes 8 bytes ++ toBytes 48 digest ++ (rs.map (fun r => toBytes 8 r.1 ++ toBytes 8 r.2)).flatten
  h ++ List.replicate (4096 - h.length) 0

/-- Set POND.STATUS: STATE, RESULT and REASON. -/
def State.pondStatus (s : State) (p state result reason : Nat) : State :=
  let a := pondBaseReg p + rUSTATUS
  ((s.wf a 2 0 state).wf a 10 8 result).wf a 23 16 reason

def State.pondPut (s : State) (p : Nat) (x : Pond) : State := s.setPart p { s.part p with pond := x }

/-- A copy or a return ends with a reason (R384, R386): a copy that has not signalled DONE_CTR signals it by 1, and POND_FAILED is raised. -/
def State.pondFail (s : State) (p result reason : Nat) : State :=
  let x := (s.part p).pond
  let copy := x.st != .returning
  let s1 := s.pondPut p { x with st := .idle, awaiting := [], headerSent := false, failed := some reason }
  let s2 := s1.pondStatus p 0 result reason
  let s3 := if copy && !x.headerSent then s2.pondSignal p else s2
  s3.raise (partEvent p evPondFailed (reason + b2n copy * 256) x.step.toNat 0)

/-- Send a WRITE of the pond unit; its TXID is awaited, or the copy fails (R384). -/
def State.pondWrite (s : State) (p dst addr : Nat) (path : Option Nat) (bs : List PByte) : State :=
  if (s.part p).pond.st == .idle then s
  else
    let txid := s.nextTxid
    match s.sendReq p (.pond p) 0 path ({ kind := mkWRITE, dst := dst, addr := addr, job := 0 : LinkMsg }.withData bs) with
    | .sent s1 => s1.pondPut p { (s1.part p).pond with awaiting := (s1.part p).pond.awaiting ++ [txid] }
    | .held s1 => s1.pondPut p { (s1.part p).pond with awaiting := (s1.part p).pond.awaiting ++ [txid] }
    | .failed _ s1 => s1.pondFail p 3 0x09

/-- Path i mod (1 + RELAYS) of a chunk: none for the direct links, else a relay of POND.RELAY_LIST (R385). -/
def State.pondPath (s : State) (p i : Nat) : Option Nat :=
  let b := pondBaseReg p
  let j := i % (1 + s.rf b 27 24)
  if j = 0 then none else some (s.rf (b + 0x10) (4 * j - 1) (4 * j - 4))

/-- The header of the copy in progress. -/
def State.copyHeader (s : State) (p : Nat) (complete : Bool) : List Byte :=
  let b := pondBaseReg p
  let rs := s.unitRanges b
  pondHeader complete (s.part p).pond.correlated (s.rf (tollBase p + rUSTATUS) 6 4 == 2) (s.part p).pond.step.toNat (s.coordOf p)
    (s.rf (b + rUSTATUS) 63 32) ((rs.map (fun r => r.2)).sum) (s.part p).toll.digest.toNat rs

/-- Chunks of 4 KiB of a list of ranges: offset after the header, and address. -/
def chunksOf (rs : List (Nat × Nat)) : List (Nat × Nat) :=
  let as := (rs.map (fun r => (upTo (r.2 / 4096)).map (fun j => r.1 + 4096 * j))).flatten
  (upTo as.length).zip as

/-- Whether a unit's ranges break R384's condition 0x07. -/
def State.badRanges (s : State) (p : Nat) (rs : List (Nat × Nat)) : Bool :=
  rs.any (fun r => r.2 % 4096 != 0 || decide (s.userTop p < r.1 + r.2))
    || (upTo rs.length).any (fun i => (upTo i).any (fun j =>
      let x := rs.getD i (0, 0)
      let y := rs.getD j (0, 0)
      decide (x.1 < y.1 + y.2) && decide (y.1 < x.1 + x.2)))

/-- FEED_ID of this module (R434). -/
def State.feedId (s : State) : Nat := s.rf 0x0B00_0000 35 32

/-- The first condition of R384 that a copy breaks; none: the copy runs. -/
def State.pondCheck (s : State) (p : Nat) : Option Nat :=
  let b := pondBaseReg p
  let ts := tollBase p + rUSTATUS
  let partner := s.rf b 16 0
  let links := s.directLinks p (s.routeKey p partner)
  let same := links.any (fun f => match (s.link f).peer with
    | some q => q.feed == s.feedId
    | none => false)
  if s.rf ts 6 4 != 1 && s.rf ts 6 4 != 2 then some 1
  else if s.rb ts 8 then some 2
  else if s.rb ts 9 then some 3
  else if (s.part p).pond.step != (s.part p).toll.tag then some 4
  else if !s.rb b 63 || coPackage partner == coPackage (s.coordOf p) || links.isEmpty then some 5
  else if same && !s.partCorrelatedPolicy p then some 6
  else if s.badRanges p (s.unitRanges b) then some 7
  else none

/-- The pond trigger fires (R384, R385): the copy starts or is refused. -/
def State.pondBegin (s : State) (p : Nat) (step : Word64) : State :=
  let b := pondBaseReg p
  let partner := s.rf b 16 0
  let s1 := s.pondPut p { (s.part p).pond with st := .copying, step := step, correlated := false, awaiting := [], headerSent := false, failed := none }
  let warn (s : State) (refused : Bool) : State := s.raise (partEvent p evPartnerSameFeed (s.feedId + b2n refused * 16) partner 0)
  match s1.pondCheck p with
  | some reason => (if reason = 6 then warn s1 true else s1).pondFail p 2 reason
  | none =>
    let same := (s1.directLinks p (s1.routeKey p partner)).any (fun f => match (s1.link f).peer with
      | some q => q.feed == s1.feedId
      | none => false)
    let s2 := s1.pondPut p { (s1.part p).pond with correlated := same }
    let s3 := (if same then warn s2 false else s2).wf (b + rUSTATUS) 24 24 (b2n same)
    let s4 := s3.wf (b + rUSTATUS) 2 0 1
    let s5 := s4.pondWrite p partner 0 none ((s4.copyHeader p false).map (fun x => (x, false)))
    let chunks := chunksOf (s5.unitRanges b)
    let s6 := s5.pondPut p { (s5.part p).pond with bytes := 4096 * chunks.length }
    forEach chunks s6 (fun s (i, a) =>
      let s1 := s.checkPB (memKey0 p a) 4096
      s1.pondWrite p partner (4096 + 4096 * i) (s1.pondPath p i) (s1.viewPB (memKey0 p a) 4096))

/-- The watches of a partition after a change of a package counter's visible value (R195, R384): each trigger whose target is reached fires. Where its unit is busy, the spec does
not say what becomes of the start: the trigger advances or disarms, and nothing starts (log 21, DESIGN CHOICE). -/
def State.fireWatches (s : State) (p k : Nat) : State :=
  let s1 := if s.trigReached p (tollBase p) k then
      let (step, s1) := s.trigTake (tollBase p)
      if (s1.part p).toll.st == .idle then s1.tollBegin p step else s1
    else s
  if s1.trigReached p (pondBaseReg p) k then
    let (step, s2) := s1.trigTake (pondBaseReg p)
    if (s2.part p).pond.st == .idle then s2.pondBegin p step else s2
  else s1

end Sys2Proof.Machine
end

