-- ==== Sys2Proof/Machine/Sync.lean ====
section
/-! DEFINITION. Sync counters and the shutter (R189 to R215): class 0x4 commands, signals, the counter port, the job commands and the lines. -/

namespace Sys2Proof.Machine

/-! ### Applying a signal (R191, R193, R195, R197–R199) -/

/-- Count a refused signal at the counter's unit; one that names no counter counts at the package unit (R166, R197). -/
def State.countRefused (s : State) (p : Nat) (k : Option Nat) : State :=
  s.bump (syncBase p ((k.map ctrUnit).getD 0) + 0x58) 31 0 1

/-- COUNTER_SATURATED (R191, R370). -/
def State.saturateEvent (s : State) (p k : Nat) : State :=
  s.raise { code := evCounterSaturated, part := p, job := (s.ctr k).job, kind := 13, index := ctrUnit k,
            arg0 := s.ctrIndex p k, arg1 := s.ctrOffset p k }

/-- Release one registered waiter with a status (R193, R199, R207): a launch waiter leaves ARMED on OK and is refused otherwise; a frozen cell's WAIT stays listed and is
delivered when the freeze ends, and a frozen cell's launch wait is tested again then. -/
def State.releaseWaiter (s : State) (k : Nat) (w : Waiter) (st : SyncStatus) : State :=
  let x := s.cell w.cell
  let frozen := x.st == .freezing || x.st == .frozen
  if w.launch then
    if st = .ok then (if frozen then s else (s.unwait k w.cell).leaveArmed w.cell)
    else (s.unwait k w.cell).wb (cellBase w.cell + rSTATUS) 13 true
  else (if frozen then s else s.unwait k w.cell).syncEnd w.cell (fun y => y.ph == .waiting) st

/-- Release every waiter whose expected value has been reached (R193). -/
def State.releaseReached (s : State) (k : Nat) : State :=
  let x := s.ctr k
  forEach (x.waiters.filter (fun w => decide (w.expect.toNat ≤ x.value.toNat))) s (fun s w => s.releaseWaiter k w .ok)

/-- Raise a counter's visible value by an amount (R191), with what follows a change: waiters and watches. -/
def State.addValue (s : State) (p k amount : Nat) : State :=
  let x := s.ctr k
  let sat := overflows64 x.value.toNat amount
  let v := BitVec.ofNat 64 (satAdd64 x.value.toNat amount)
  let s1 := s.setCtr k { x with value := v, saturated := x.saturated || sat }
  let s2 := if sat && !x.saturated then s1.saturateEvent p k else s1
  if v = x.value then s2
  else
    let s3 := s2.releaseReached k
    if k < 4096 then s3.fireWatches p k else s3

/-- The last-signaller record of a signal (R210). -/
def Signal.last (g : Signal) : LastSig := match g.src with
  | .cell c q => { source := 0, lcell := c, seq := q, amount := g.amount }
  | .lctr c q => { source := 1, lcell := c, seq := q, amount := g.amount }
  | .remote co q => { source := 2, coord := co, seq := q, amount := g.amount }
  | .host q _ => { source := 3, seq := q, amount := g.amount }

/-- Judge a signal and apply it, hold it pending or refuse it (R191, R197, R198, R199). -/
def State.applySignal (s : State) (g : Signal) : SyncStatus × State :=
  match s.ctrKey g.part g.offset with
  | none => (.refused, s)
  | some k =>
    let x := s.ctr k
    if s.ctrLost k then (.lost, s)
    else match x.st with
    | .free => (.owner, s)
    | .abandoned => (.abandoned, s)
    | .owned =>
      if x.job ≠ g.job then (.owner, s)
      else (.ok, (s.setCtr k { x with last := some g.last }).addValue g.part k g.amount.toNat)
    | .frozen =>
      if x.job ≠ g.job then (.owner, s)
      else
        let sat := overflows64 x.pending.toNat g.amount.toNat
        let s1 := s.setCtr k { x with
          pending := BitVec.ofNat 64 (satAdd64 x.pending.toNat g.amount.toNat), saturated := x.saturated || sat, last := some g.last }
        (.ok, if sat && !x.saturated then s1.saturateEvent g.part k else s1)

/-- Apply a signal and count its refusal where R197 counts it. -/
def State.landSignal (s : State) (g : Signal) : SyncStatus × State :=
  let (st, s1) := s.applySignal g
  match g.src with
  | .cell _ _ => (st, s1)
  | _ => (st, if st = .owner || st = .abandoned || st = .refused then s1.countRefused g.part (s1.ctrKey g.part g.offset) else s1)

/-! ### Class 0x4 commands (R201–R207) -/

/-- The begun command of an opcode that has not run its execute phase. -/
def Cell.syncBegun (x : Cell) (code : Nat) : Option QCmd :=
  (x.xSync.find? (fun y => y.ph == .begun && wcode y.cmd.word == code)).map SyncX.cmd

/-- Move a begun command to a phase. -/
def State.setSyncPh (s : State) (c : Nat) (seq : Word64) (ph : SyncPh) : State :=
  let x := s.cell c
  s.setCell c { x with xSync := x.xSync.map (fun y => if y.cmd.seq == seq then { y with ph := ph } else y) }

/-- A begun command waits, listed at its counter or line. -/
def State.parkSync (s : State) (c : Nat) (seq : Word64) (ph : SyncPh) : State :=
  let x := s.cell c
  s.setCell c { x with xSync := x.xSync.map (fun y => if y.cmd.seq == seq then { y with ph := ph, listed := true } else y) }

/-- End a begun command with a status. -/
def State.endSync (s : State) (c : Nat) (seq : Word64) (st : SyncStatus) : State := s.syncEnd c (fun y => y.cmd.seq == seq) st

/-- The space 4 address fault of a class 0x4 command (R204). -/
def State.syncFault (s : State) (c : Nat) (q : QCmd) : State :=
  let x := s.cell c
  (s.setCell c { x with xSync := x.xSync.filter (fun y => y.cmd.seq != q.seq) }).halt c
    { reason := .addressFault, unit := 4, pc := q.pc, seq := q.seq, word := q.word, addr := BitVec.ofNat 64 (4 * 2 ^ 52 + syOffset q.word) }

/-- SIG (R201): its signal leaves for the counter. -/
def execSig (c : CellId) (ph : Phase) (s : State) : Out := powered s <|
  match ph with
  | .dispatch => done s (s.dispatch c cSIG)
  | .execute => match (s.cell c).syncBegun cSIG with
    | none => .next s
    | some q =>
      if (s.ctrKey (s.cellPart c) (syOffset q.word)).isNone then done s (s.syncFault c q)
      else .next ((s.setSyncPh c q.seq .flying).signal
        { part := s.cellPart c, offset := syOffset q.word, amount := syAmount q, job := s.job c, src := .cell c q.seq })

/-- How a SIGR ends on a response status (R256). -/
def sigrStatus (st : Nat) : SyncStatus :=
  if st = stOK then .ok else if st = stOWNER then .owner else if st = stABANDONED then .abandoned else if st = stNOROUTE then .unreached else .refused

/-- SIGR (R208): its SIGNAL leaves for the fabric. -/
def execSigr (c : CellId) (ph : Phase) (s : State) : Out := powered s <|
  match ph with
  | .dispatch => done s (s.dispatch c cSIGR)
  | .execute => match (s.cell c).syncBegun cSIGR with
    | none => .next s
    | some q =>
      let m : LinkMsg := {
        kind := mkSIGNAL, dst := fld (q.ops.getD 1 0) 16 0, addr := syOffset q.word, amount := (syAmount q).toNat, job := s.job c,
        seq := q.seq.toNat }
      match s.sendReq (s.cellPart c) (.sigr c q.seq) 0 none m with
      | .sent s1 => .next (s1.setSyncPh c q.seq .ackWait)
      | .held s1 => .next (s1.setSyncPh c q.seq .flying)
      | .failed st s1 => done s (s1.endSync c q.seq (sigrStatus st))

/-- The i-th SIGR of the cell that awaits acknowledgement. -/
def Cell.sigrAwaiting (x : Cell) (i : Nat) : Option QCmd := ((x.xSync.filter (fun y => y.ph == .ackWait)).map SyncX.cmd)[i]?

/-- A SIGR's acknowledgement reaches its cell (R208). A status that no acknowledgement carries leaves the state. -/
def execSigrAck (c : CellId) (i : Fin 8) (st : SyncStatus) (s : State) : Out := powered s <|
  match (s.cell c).sigrAwaiting i with
  | none => .next s
  | some q =>
    if st ∈ [.ok, .owner, .abandoned, .refused, .unreached, .unknown] then
      done s (State.endSync { s with reqs := s.reqs.filter (fun r => r.src != .sigr c q.seq) } c q.seq st)
    else .next s

/-- A wait that begins while its cell is HALTED or DRAINING is withdrawn at once (R207). -/
def Cell.discards (x : Cell) : Bool := x.st == .halted || x.st == .draining

/-- WAIT (R193): tested when it begins, and registered if the test fails. One that reaches the head of the queue of a DRAINING cell is discarded (R78). -/
def execWaitCmd (c : CellId) (ph : Phase) (s : State) : Out := powered s <|
  match ph with
  | .dispatch => done s (s.dispatch c cWAIT)
  | .execute => match (s.cell c).syncBegun cWAIT with
    | none => .next s
    | some q =>
      if (s.cell c).st = .draining then done s (s.endSync c q.seq .discarded)
      else match s.ctrKey (s.cellPart c) (syOffset q.word) with
      | none => done s (s.syncFault c q)
      | some k =>
        match s.waitBegin k (s.job c) { cell := c, launch := false, expect := syAmount q, timed := syTimeout q.word != 0 } with
        | .pass => done s (s.endSync c q.seq .ok)
        | .refused st => done s (s.endSync c q.seq st)
        | .registered s1 =>
          if (s.cell c).discards then done s (s.endSync c q.seq .discarded)
          else .next (((s1.parkSync c q.seq .waiting).wr (cellBase c + rWAITTARGET) (BitVec.ofNat 64 (syOffset q.word))).wr
            (cellBase c + rWAITEXPECT) (syAmount q))

/-! ### The shutter (R211–R214) -/

def lineCtrl (p n : Nat) : Nat := shutBase p + 16 * n
def lineStatus (p n : Nat) : Nat := shutBase p + 16 * n + 8

/-- The mask bit of a cell for a line (R211). -/
def State.inMask (s : State) (c n : Nat) : Bool :=
  s.rb (shutMaskBase (cellBlock c) + (if n < 16 then 0 else 8)) (4 * (n % 16) + cellPos c)

/-- The participants of a line. -/
def State.participants (s : State) (p n : Nat) : List Nat := (s.partCells p).filter (fun c => s.inMask c n)

/-- Every waiting SHUT of a line completes with a status, and its ready bits are cleared. -/
def State.endLine (s : State) (p n : Nat) (st : SyncStatus) : State :=
  let ws := (s.line p n).waiting
  forEach ws (s.setLine p n { s.line p n with waiting := [] }) (fun s c => s.syncEnd c (fun y => y.ph == .shutWait && syLine y.cmd.word == n) st)

/-- The line opens when every participant is ready (R212). -/
def State.tryOpen (s : State) (p n : Nat) : State :=
  if (s.participants p n).all (fun c => (s.line p n).waiting.contains c) then
    (s.endLine p n .ok).bump (lineStatus p n) 63 32 1
  else s

/-- A line breaks (R213): cause 1 a participant entered KILLING while waiting, 2 a participant's region was lost. -/
def State.breakLine (s : State) (p n cause who : Nat) : State :=
  if !s.rb (lineCtrl p n) 16 || s.rb (lineStatus p n) 11 then s
  else
    let s1 := (s.wb (lineStatus p n) 11 true).endLine p n (if cause = 2 then .lost else .broken)
    s1.raise { code := evShutterBroken, part := p, kind := 12, index := n, arg0 := n + cause * 2 ^ 5 + who * 2 ^ 8 }

/-- SHUT (R212): the checks in order, then the ready bit. -/
def execShut (c : CellId) (ph : Phase) (s : State) : Out := powered s <|
  match ph with
  | .dispatch => done s (s.dispatch c cSHUT)
  | .execute => match (s.cell c).syncBegun cSHUT with
    | none => .next s
    | some q =>
      let p := s.cellPart c
      let n := syLine q.word
      done s (if !s.rb (lineCtrl p n) 16 || s.rb (lineStatus p n) 11 then s.endSync c q.seq .broken
        else if s.rf (lineCtrl p n) 15 0 ≠ s.job c then s.endSync c q.seq .owner
        else if !s.inMask c n then s.endSync c q.seq .notMember
        else if (s.cell c).discards then s.endSync c q.seq .discarded
        else
          let s1 := (s.parkSync c q.seq .shutWait).setLine p n { s.line p n with waiting := (s.line p n).waiting ++ [c.val] }
          (s1.wf (lineStatus p n) 9 0 c).tryOpen p n)

/-- The timer of a cell's WAIT or SHUT expires (R206). -/
def execWaitTimeout (c : CellId) (s : State) : Out := powered s <|
  match ((s.cell c).xSync.find? (fun y => y.parked && syTimeout y.cmd.word != 0)) with
  | none => .next s
  | some y => done s ((s.unpark c y).endSync c y.cmd.seq .timeout)

/-- A write of SHUT.LINEn_CTRL (R214). -/
def execLineCtrlWrite (p : PartId) (n : Fin 32) (v : Word64) (s : State) : Out := powered s <|
  done s (if !bit v 16 then (s.wb (lineCtrl p n) 16 false).endLine p n .broken
    else if s.rb (lineCtrl p n) 16 then s.wb (shutBase p + 0x200) 0 true
    else ((s.setLine p n { s.line p n with waiting := [] }).wr (lineCtrl p n) (BitVec.ofNat 64 (2 ^ 16 + fld v 15 0))).wr (lineStatus p n) 0)

/-- A write of a block's shutter mask (R211). -/
def execShutMaskWrite (b : BlockId) (hi : Bool) (v : Word64) (s : State) : Out := powered s <|
  let a := shutMaskBase b + (if hi then 8 else 0)
  let p := s.blockPart b
  let keep := (upTo 16).foldl (fun m i => if s.rb (lineCtrl p (i + (if hi then 16 else 0))) 16 then m + 0xF * 2 ^ (4 * i) else m) 0
  let k := BitVec.ofNat 64 keep
  let s1 := s.wr a ((s.rd a &&& k) ||| (v &&& ~~~ k))
  .next (if (v ^^^ s.rd a) &&& k = 0 then s1 else s1.wb (shutMaskBase b + 0x20) 0 true)

/-! ### The counter port (R196, R210, R215) -/

/-- The number of a sync unit as R369 kind 13 numbers it. -/
def unitNum : SyncUnit → Nat
  | .package => 0
  | .region b => 1 + b.val
  | .block b => 16 + b.val

/-- Whether a unit is one of a partition's. -/
def State.unitOf (s : State) (p : Nat) : SyncUnit → Bool
  | .package => true
  | .region b => s.bedPart b == p
  | .block b => s.blockPart b == p

/-- The counter that an INDEX names at a unit (R215). -/
def State.indexKey (s : State) (p : Nat) (u : SyncUnit) (i : Nat) : Option Nat :=
  match u with
  | .package => if i < s.pscShare p then some (s.pscBase p + i) else none
  | .region b => if i < 2048 then some ((gscBase (2 * b + i / 1024) + i % 1024 * 8) / 8) else none
  | .block b => if i < 256 then some ((bscBase b + i * 8) / 8) else none

/-- A rejected CMD or SEL write. -/
def State.portReject (s : State) (p : Nat) (u : SyncUnit) : State := s.wb (syncBase p (unitNum u) + 0x18) 0 true

/-- SYNC.CMD CLAIM (R196). -/
def execClaim (p : PartId) (u : SyncUnit) (job : BitVec 16) (s : State) : Out := powered s <|
  let b := syncBase p (unitNum u)
  .next (if !s.unitOf p u then s
    else match s.indexKey p u (s.rf b 12 0) with
    | none => s.portReject p u
    | some k =>
      if (s.ctr k).st = .free && job != 0 then s.setCtr k { st := .owned, job := job.toNat, value := s.rd (b + 0x10) }
      else s.portReject p u)

/-- SYNC.CMD RELEASE (R196). -/
def execCtrRelease (p : PartId) (u : SyncUnit) (s : State) : Out := powered s <|
  .next (if !s.unitOf p u then s
    else match s.indexKey p u (s.rf (syncBase p (unitNum u)) 12 0) with
    | none => s.portReject p u
    | some k =>
      if ((s.ctr k).st = .owned && (s.ctr k).waiters.isEmpty) || (s.ctr k).st = .abandoned then s.setCtr k {}
      else s.portReject p u)

/-- Whether a waiter is listed before another: lower expected value, then lower cell (R210). -/
def waiterBefore (a b : Waiter) : Bool := decide (a.expect.toNat < b.expect.toNat) || (a.expect == b.expect && decide (a.cell ≤ b.cell))

def insertWaiter (w : Waiter) : List Waiter → List Waiter
  | [] => [w]
  | x :: xs => if waiterBefore x w then x :: insertWaiter w xs else w :: x :: xs

/-- Waiters in the order the list shows them. -/
def sortWaiters (ws : List Waiter) : List Waiter := ws.foldl (fun a w => insertWaiter w a) []

/-- WAITERw_ID of a waiter. -/
def State.waiterWord (s : State) (w : Waiter) : Nat :=
  2 ^ 63 + b2n w.launch * 2 ^ 62 + b2n w.timed * 2 ^ 61 + b2n ((s.cell w.cell).st == .frozen) * 2 ^ 60 + w.cell

/-- Snapshot a counter into the view registers (R210). -/
def State.snapshot (s : State) (b k : Nat) : State :=
  let x := s.ctr k
  let ws := sortWaiters x.waiters
  let put (s : State) (o n : Nat) : State := s.wr (b + o) (BitVec.ofNat 64 n)
  let s1 := put (put (put (put s 0x20 x.value.toNat) 0x28 x.pending.toNat) 0x30 (x.job + x.st.code * 2 ^ 16 + b2n x.saturated * 2 ^ 18))
    0x38 (ws.length + b2n (decide (8 < ws.length)) * 2 ^ 16)
  let s2 := match x.last with
    | none => put (put (put s1 0x40 0) 0x48 0) 0x50 0
    | some l => put (put (put s1 0x40 (2 ^ 63 + l.source * 2 ^ 61 + l.coord * 2 ^ 32 + l.lcell)) 0x48 l.seq.toNat) 0x50 l.amount.toNat
  forEach (upTo 8) s2 (fun s i => match ws[i]? with
    | some w => put (put s (0x80 + 16 * i) (s.waiterWord w)) (0x88 + 16 * i) w.expect.toNat
    | none => put (put s (0x80 + 16 * i) 0) (0x88 + 16 * i) 0)

/-- A write of SYNC.SEL (R210, R215). -/
def execSyncSelWrite (p : PartId) (u : SyncUnit) (v : Word64) (s : State) : Out := powered s <|
  let b := syncBase p (unitNum u)
  .next (if !s.unitOf p u then s
    else match s.indexKey p u (fld v 12 0) with
    | none => s.portReject p u
    | some k => (s.wr b (BitVec.ofNat 64 (fld v 12 0))).snapshot b k)

/-! ### Job commands (R196, R198, R199, R215) -/

/-- The partition of a counter key. -/
def State.ctrPart (s : State) (k : Nat) : Nat :=
  match ctrRegion k with
  | some r => s.regionPart r
  | none => ((upTo 6).find? (fun p => s.pscBase p ≤ k && decide (k < s.pscBase p + s.pscShare p))).getD 7

/-- The counters of a job in a partition that satisfy a test, in ascending key. -/
def State.jobCounters (s : State) (p job : Nat) (f : Counter → Bool) : List Nat :=
  (s.counters.filter (fun e => s.ctrPart e.1 == p && e.2.job == job && e.2.st != .free && f e.2)).map (fun e => e.1)

/-- Run a job command unless one is in progress (R215). -/
def State.jobCommand (s : State) (p : Nat) (f : State → State) : State :=
  if s.rb (pkgSyncBase p + 0x108) 0 then s else (f s).wb (pkgSyncBase p + 0x108) 0 true

/-- SYNC.JOBCMD PREEMPT (R196). -/
def execPreempt (p : PartId) (job : BitVec 16) (s : State) : Out := powered s <|
  done s (s.jobCommand p (fun s => forEach (s.jobCounters p job.toNat (fun x => x.st == .owned)) s
    (fun s k => s.setCtr k { s.ctr k with st := .frozen, pending := 0 })))

/-- SYNC.JOBCMD RESUME (R196, R198): pending sums are added, and waiters and watches tested. -/
def execJobResume (p : PartId) (job : BitVec 16) (s : State) : Out := powered s <|
  done s (s.jobCommand p (fun s => forEach (s.jobCounters p job.toNat (fun x => x.st == .frozen)) s
    (fun s k =>
      let x := s.ctr k
      (s.setCtr k { x with st := .owned, pending := 0 }).addValue p k x.pending.toNat)))

/-- SYNC.JOBCMD RESET (R196, R199): counters are abandoned, waiters released with ABANDONED, and each unit concerned raises COUNTER_ABANDONED. -/
def execJobReset (p : PartId) (job : BitVec 16) (s : State) : Out := powered s <|
  done s (s.jobCommand p (fun s =>
    let ks := s.jobCounters p job.toNat (fun x => x.st == .owned || x.st == .frozen)
    let s1 := forEach ks s (fun s k =>
      let x := s.ctr k
      forEach x.waiters (s.setCtr k { x with st := .abandoned }) (fun s w => s.releaseWaiter k w .abandoned))
    let units := (ks.map ctrUnit).foldl (fun l u => if l.contains u then l else l ++ [u]) []
    forEach units s1 (fun s u => s.raise
      { code := evCounterAbandoned, part := p, job := job.toNat, kind := 13, index := u, arg0 := (ks.filter (fun k => ctrUnit k == u)).length })))

/-- SYNC.JOBSTAT.BUSY returns to 0 (R215). -/
def execJobCommandEnd (p : PartId) (s : State) : Out := powered s <| .next (s.wb (pkgSyncBase p + 0x108) 0 false)

end Sys2Proof.Machine
end

