-- ==== Sys2Proof/Machine/SluiceOps.lean ====
section
/-! DEFINITION. Sluice descriptors (R161 to R163): their fields, the runs of the transfer order (R162, R179 to R182), the checks made as one begins (R164, R171), how bytes
move (R165, R173), how a descriptor fails (R171, R172) and completes (R166, R169). -/

namespace Sys2Proof.Machine

/-! ### Fields (R161) -/

def Desc.op (d : Desc) : Nat := fld d.raw 3 0
def Desc.ordered (d : Desc) : Bool := bit d.raw 4
def Desc.remote (d : Desc) : Nat := fld d.raw 7 6
def Desc.peer (d : Desc) : Nat := fld d.raw 24 8
def Desc.fmt (d : Desc) : Nat := fld d.raw 28 25
def Desc.vmode (d : Desc) : Nat := fld d.raw 30 29
def Desc.tagslot (d : Desc) : Nat := fld d.raw 36 31
def Desc.pace (d : Desc) : Bool := bit d.raw 38
def Desc.indexed (d : Desc) : Bool := bit d.raw 39
def Desc.len0 (d : Desc) : Nat := fld d.raw 63 40
def Desc.src (d : Desc) : Nat := fld d.raw 120 64
def Desc.close (d : Desc) : Bool := bit d.raw 121
def Desc.dst (d : Desc) : Nat := fld d.raw 184 128
def Desc.n1 (d : Desc) : Nat := fld d.raw 207 192 + 1
def Desc.n2 (d : Desc) : Nat := fld d.raw 223 208 + 1
def Desc.n3 (d : Desc) : Nat := fld d.raw 239 224 + 1
def Desc.amount (d : Desc) : Word64 := BitVec.ofNat 64 (fld d.raw 255 240)
def Desc.sraw (d : Desc) (i : Nat) : Nat := fld d.raw (255 + 36 * i) (220 + 36 * i)
def Desc.draw (d : Desc) (i : Nat) : Nat := fld d.raw (363 + 36 * i) (328 + 36 * i)
/-- Strides, sign-extended from 36 bits. -/
def Desc.sstride (d : Desc) (i : Nat) : Int := sext 36 (d.sraw i)
def Desc.dstride (d : Desc) (i : Nat) : Int := sext 36 (d.draw i)
def Desc.lctrEn (d : Desc) : Bool := bit d.raw 491
def Desc.lctr (d : Desc) : Nat := fld d.raw 490 472 * 8
def Desc.rctrEn (d : Desc) : Bool := bit d.raw 511
def Desc.rctr (d : Desc) : Nat := fld d.raw 510 492 * 8
/-- A GATHER that reads a shard header (R179). -/
def Desc.checksShard (d : Desc) : Bool := d.op == 2 && (d.vmode == 1 || d.vmode == 2)
/-- A COPY that writes a shard header (R180). -/
def Desc.stamps (d : Desc) : Bool := d.op == 0 && d.vmode == 3
/-- The descriptor reads a header before any payload. -/
def Desc.readsHeader (d : Desc) : Bool := d.checksShard || d.op == 5
/-- The descriptor writes a header after its payload. -/
def Desc.writesHeader (d : Desc) : Bool := d.stamps || d.op == 4

/-- A sum of an address and a displacement, modulo 2^64 (R162). -/
def addrAdd (a : Nat) (i : Int) : Nat := (((a : Int) + i) % ((2 ^ 64 : Nat) : Int)).toNat

/-- Block bytes of ACT_SAVE and ACT_RESTORE (R181). -/
def actBlock (fmt : Nat) : Nat := if fmt = 5 || fmt = 6 then 24 else if fmt = 7 then 16 else 32

/-! ### Runs (R162, R181, R182) -/

/-- A run of the destination, with the source runs that fill it, in transfer order. -/
structure Run where
  srcs : List (Nat × Nat)
  dst : Nat
  len : Nat
  /-- Where the index entry of the row lies, if it is poisoned (R173). -/
  bad : Option Nat := none
deriving DecidableEq, Repr

/-- The base of the issuing cell's own store as a 57-bit address. -/
def ownBase (c : Nat) : Nat := 3 * 2 ^ 52 + c * 0x80_0000

/-- IDX_ADDR: bits [21:0] of the stride-3 field on the indexed side (R162). -/
def Desc.idxAddr (d : Desc) : Nat := (if d.op = 2 then d.sraw 3 else d.draw 3) % 2 ^ 22

/-- Index entry i1: its value and whether a byte of it is poisoned. -/
def State.idxEntry (s : State) (d : Desc) (i : Nat) : Nat × Bool :=
  let bs := s.readPB (cellKey d.cell (d.idxAddr + 4 * i)) 4
  (ofBytes (bs.map (fun x => x.1)), bs.any (fun x => x.2))

/-- The base addresses as the transfer order takes them; one that SREG or DREG gave with bits [63:57] set lies past the address space (R159). -/
def Desc.srcBase (d : Desc) : Nat := d.src + (if d.badSrc then 2 ^ 57 else 0)
def Desc.dstBase (d : Desc) : Nat := d.dst + (if d.badDst then 2 ^ 57 else 0)

/-- The runs of a descriptor in transfer order. -/
def State.descRuns (s : State) (d : Desc) : List Run :=
  let loops := ((upTo d.n3).map (fun i3 => ((upTo d.n2).map (fun i2 => (upTo d.n1).map (fun i1 => (i3, i2, i1)))).flatten)).flatten
  if d.op = 4 then
    let k := actBlock d.fmt
    let n := d.len0 / k
    (upTo d.n1).map (fun r => {
      srcs := ((upTo n).map (fun j =>
        [(ownBase d.cell + (d.sraw 2 % 2 ^ 22 + r * (d.sraw 3 % 2 ^ 22)) + j, 1), (addrAdd d.srcBase (d.sstride 1 * r) + j * k, k)])).flatten,
      dst := d.dstBase + 64 + r * (n * (1 + k)), len := n * (1 + k) })
  else if d.op = 5 then
    let k := actBlock d.fmt
    let n := d.len0 / k
    ((upTo d.n1).map (fun r =>
      let base := d.srcBase + 64 + r * (n * (1 + k))
      [{ srcs := (upTo n).map (fun j => (base + j * (1 + k) + 1, k)), dst := addrAdd d.dstBase (d.dstride 1 * r), len := n * k },
       { srcs := (upTo n).map (fun j => (base + j * (1 + k), 1)),
         dst := ownBase d.cell + (d.draw 2 % 2 ^ 22 + r * (d.draw 3 % 2 ^ 22)), len := n }])).flatten
  else loops.map (fun (i3, i2, i1) =>
    let e := if d.indexed then s.idxEntry d i1 else (i1, false)
    let x1 : Int := if d.indexed then e.1 else i1
    let s3 : Int := if d.indexed && d.op == 2 then 0 else d.sstride 3 * i3
    let d3 : Int := if d.indexed && d.op == 3 then 0 else d.dstride 3 * i3
    let sx : Int := d.sstride 1 * (if d.op = 2 then x1 else i1)
    let dx : Int := d.dstride 1 * (if d.op = 3 then x1 else i1)
    { srcs := [(addrAdd (d.srcBase + (if d.checksShard then 64 else 0)) (s3 + d.sstride 2 * i2 + sx), d.len0)],
      dst := addrAdd (d.dstBase + (if d.stamps then 64 else 0)) (d3 + d.dstride 2 * i2 + dx), len := d.len0,
      bad := if e.2 then some (ownBase d.cell + d.idxAddr + 4 * i1) else none })

/-- T: the descriptor's total bytes in transfer order (R172). -/
def totalOf (rs : List Run) : Nat := (rs.map (fun r => r.len)).sum

/-! ### Begin-time checks (R163, R164, R171) -/

/-- DESC_OP: an option that R163 does not permit for the operation. -/
def Desc.badOp (d : Desc) : Bool :=
  let op := d.op
  let rem := d.remote
  let vm := d.vmode
  decide (6 < op) || rem == 3
    || (rem == 1 && !(op == 0 || op == 2)) || (rem == 2 && !(op == 0 || op == 1 || op == 3))
    || (op == 0 && !(vm == 0 || vm == 3)) || (op == 2 && vm == 3) || (op != 0 && op != 2 && vm != 0)
    || (d.indexed && !(op == 2 || op == 3)) || (op == 3 && !d.indexed)
    || (op == 1 && decide (4 < d.fmt)) || ((op == 4 || op == 5) && !(decide (3 ≤ d.fmt) && decide (d.fmt ≤ 8)))
    || (op != 1 && op != 4 && op != 5 && d.fmt != 0)
    || (d.close && op != 6) || (d.pace && op == 6)
    || (rem == 0 && (d.peer != 0 || d.rctrEn))
    || (d.tagslot != 0 && vm == 0 && op != 4 && op != 5)
    || (d.indexed && (d.n3 != 1 || (if op = 2 then d.draw 3 else d.sraw 3) != 0))
    || ((op == 4 || op == 5) && (d.n2 != 1 || d.n3 != 1))

/-- DESC_ALIGN. -/
def Desc.badAlign (d : Desc) : Bool :=
  (d.op == 1 && (d.dst % 256 != 0 || [1, 2, 3].any (fun i => d.draw i % 256 != 0)))
    || (d.indexed && d.idxAddr % 4 != 0)
    || (d.op == 4 && (d.src % 16 != 0 || d.sraw 1 % 16 != 0)) || (d.op == 5 && (d.dst % 16 != 0 || d.draw 1 % 16 != 0))

/-- DESC_LEN. -/
def Desc.badLen (d : Desc) : Bool :=
  d.len0 == 0 || (d.op == 1 && d.len0 % 256 != 0) || ((d.op == 4 || d.op == 5) && d.len0 % actBlock d.fmt != 0)

/-- Whether one run of bytes may be reached by the descriptor: its rights (R32, R38), and the spaces that R163 gives its operation. -/
def State.runOk (s : State) (d : Desc) (write : Bool) (a n : Nat) : Bool :=
  let sp := nbits a 56 52
  let off := a % 2 ^ 52
  let own := (match s.locate (s.cellRq d.cell) false a n with
    | .mem k => decide (cellKey d.cell 0 ≤ k) && decide (k + n ≤ cellKey d.cell 0x40_0000)
    | _ => false)
  decide (a + n ≤ 2 ^ 57)
    && (match s.locate (s.cellRq d.cell) write a n with
        | .mem _ => true
        | .far _ => true
        | _ => false)
    && (if d.op = 1 then !write || sp == 0
        else if d.op = 4 then (if write then decide (sp ≤ 2) else own)
        else if d.op = 5 then (if write then own else decide (sp ≤ 2)) else true)
    && decide (off + n ≤ 2 ^ 52)

/-- The first byte of a run that may not be reached. -/
def State.runFault (s : State) (d : Desc) (write : Bool) (a n : Nat) : Option Nat :=
  if s.runOk d write a n then none else (upTo n).find? (fun i => !s.runOk d write (a + i) 1)

/-- The faults of a list of runs laid end to end: position and address. -/
def State.srcFault (s : State) (d : Desc) : Nat → List (Nat × Nat) → Option (Nat × Nat)
  | _, [] => none
  | pos, (a, n) :: rest =>
    match s.runFault d false a n with
    | some i => some (pos + i, a + i)
    | none => State.srcFault s d (pos + n) rest

/-- The first failing byte of one run in transfer order, a source byte before the destination byte it fills: its address. Remote addresses and the indexed side of an indexed
row are left to the transfer (R164), a base register that names no address is not (R159). -/
def State.runFirstFault (s : State) (d : Desc) (r : Run) : Option Nat :=
  let f1 := if !d.badSrc && (d.remote == 1 || (d.indexed && d.op == 2)) then none else s.srcFault d 0 r.srcs
  let f2 := if !d.badDst && (d.remote == 2 || d.op == 6 || (d.indexed && d.op == 3)) then none
    else (s.runFault d true r.dst r.len).map (fun i => (i, r.dst + i))
  match f1, f2 with
  | some x, some y => some (if x.1 ≤ y.1 then x.2 else y.2)
  | some x, none => some x.2
  | none, some y => some y.2
  | none, none => none

/-- The first failing byte of a descriptor as it begins: of an index list that leaves the cell's store, its first byte past the store, and else the first in transfer order. Headers
are left to the transfer (R164). -/
def State.beginFault (s : State) (d : Desc) : Option Nat :=
  if d.indexed && decide (0x40_0000 < d.idxAddr + 4 * d.n1) then some (ownBase d.cell + 0x40_0000)
  else (s.descRuns d).findSome? (s.runFirstFault d)

/-- The head that a HEADRACE descriptor names, if it is valid (R184). -/
def State.headOf (s : State) (d : Desc) : Option Nat :=
  let off := d.dst % 2 ^ 52
  if nbits d.dst 56 52 ≠ 3 || off % 0x80_0000 ≠ 0 then none
  else
    let w := off / 0x80_0000
    let h := if w = 1023 then d.cell else w
    if (w = 1023 || (w < 576 && cellBlock w = cellBlock d.cell)) && s.hrRole h == 1 && s.job h == d.job then some h else none

/-- The reason with the lowest code as a descriptor begins, and CHn_FAIL_ADDR (R164, R171). -/
def State.beginFail (s : State) (d : Desc) : Option (Nat × Nat) :=
  if fld d.raw 191 185 != 0 || fld d.raw 127 122 != 0 then some (1, 0)
  else if d.badOp then some (2, 0)
  else if d.badAlign then some (3, 0)
  else if d.badLen then some (4, 0)
  else match s.beginFault d with
  | some a => some (5, a % 2 ^ 57)
  | none => if d.op = 6 && (s.headOf d).isNone then some (6, 0) else none

/-! ### Channels -/

def State.chReg (b ch o : Nat) : Nat := chBase b ch + o
/-- The cell that owns a channel (R155). -/
def chanCell (b ch : Nat) : Nat := 4 * b + ch / 4
/-- CHn_STATUS.HALTED and KILLED. -/
def State.chHalted (s : State) (b ch : Nat) : Bool := s.rb (chBase b ch + 8) 0
def State.chKilled (s : State) (b ch : Nat) : Bool := s.rb (chBase b ch + 8) 8

/-- Replace a slot's descriptor. -/
def State.setDesc (s : State) (b ch i : Nat) (d : Desc) : State :=
  s.setChan b ch { s.chan b ch with slots := setAt (s.chan b ch).slots i d }

/-- Shared segments of a descriptor that are still needed for `left` bytes on their way: a segment is freed once the destination has accepted its last byte (R156). -/
def freeSegs (seq : Word64) (left : Nat) : List (Word64 × Nat) → List (Word64 × Nat)
  | [] => []
  | g :: rest =>
    if g.1 == seq && decide (left ≤ ((rest.filter (fun x => x.1 == seq)).map (fun x => x.2)).sum) then freeSegs seq left rest
    else g :: freeSegs seq left rest

/-- Bytes of a begun descriptor that need buffer space and have not been written. -/
def State.descLeft (s : State) (d : Desc) : Nat :=
  if d.ph == .issued || d.ph == .paced || d.op == 6 then 0 else totalOf (s.descRuns d) - d.moved

/-- A channel requests a grant while its begun descriptors have more bytes to move than its buffer space holds (R156). -/
def State.wantGrant (s : State) (b ch : Nat) : State :=
  let x := s.chan b ch
  let want := decide (4096 + (x.segs.map (fun g => g.2)).sum < (x.slots.map s.descLeft).sum)
  if x.wanting == want then s else s.setChan b ch { x with wanting := want }

/-- The destination has accepted bytes of a descriptor, `left` of which are still on their way (R156). -/
def State.freeSpace (s : State) (b ch : Nat) (seq : Word64) (left : Nat) : State :=
  let x := s.chan b ch
  (s.setChan b ch { x with segs := freeSegs seq left x.segs }).wantGrant b ch

/-- Bytes a channel has written (R168, R188): CHn_BYTES, and P of its pacing; the channel is no longer stalled (R177). -/
def State.countMoved (s : State) (b ch n : Nat) : State :=
  if n = 0 then s
  else
    let x := s.chan b ch
    let s1 := s.setChan b ch { x with paceP := x.paceP + n, stalled := false }
    let s2 := s1.setSluice b { s1.sluice b with stallRecorded := (s1.sluice b).stallRecorded.filter (fun y => y != ch) }
    if s.chKilled b ch then s2 else s2.bump (chBase b ch + 0x50) 63 0 n

/-- The fill level F of R168. -/
def State.fillLevel (s : State) (b ch : Nat) : Int :=
  let x := s.chan b ch
  let r := s.rd (chBase b ch + 0x20)
  let cv : Nat := match s.ctrKey (s.blockPart b) (fld r 21 3 * 8) with
    | some k => (s.ctr k).value.toNat
    | none => 0
  (Int.ofNat x.paceP) - (Int.ofNat cv - Int.ofNat x.paceC0) * ((2 ^ fld r 28 24 : Nat) : Int)

def State.wmarkHigh (s : State) (b ch : Nat) : Nat := s.rf (chBase b ch + 0x28) 63 32
def State.wmarkLow (s : State) (b ch : Nat) : Nat := s.rf (chBase b ch + 0x28) 31 0

/-! ### Moving bytes (R165, R173) -/

/-- Read source runs laid end to end; none: an access is not performed. -/
def State.readRuns (s : State) (rq : Rq) : List (Nat × Nat) → Option (List PByte × State)
  | [] => some ([], s)
  | (a, n) :: rest =>
    match s.access rq a n with
    | .ok bs s1 => (State.readRuns s1 rq rest).map (fun (x, s2) => (bs ++ x, s2))
    | _ => none

/-- Read what a descriptor moves; what a cell of a lost region sends is poison (R24). -/
def State.readSrc (s : State) (d : Desc) (l : List (Nat × Nat)) : Option (List PByte × State) :=
  (s.readRuns (s.cellRq d.cell) l).map (fun x => (s.fromCell d.cell x.1, x.2))

/-- The part of a list of source runs from byte `from_` on, `n` bytes. -/
def sliceSrcs : List (Nat × Nat) → Nat → Nat → List (Nat × Nat)
  | [], _, _ => []
  | (a, k) :: rest, from_, n =>
    if n = 0 then []
    else if k ≤ from_ then sliceSrcs rest (from_ - k) n
    else
      let m := min n (k - from_)
      (a + from_, m) :: sliceSrcs rest 0 (n - m)

/-- Write `bs` where a descriptor's destination lies: by grist granules, or as bytes (R163, R165). -/
def State.writeDest (s : State) (d : Desc) (a : Nat) (bs : List PByte) : Option State :=
  if d.op = 1 then
    match s.locate (s.cellRq d.cell) true a bs.length with
    | .mem k =>
      if s.runLost k bs.length then none
      else some (forEach (upTo (bs.length / 256)) s (fun s i =>
        let g := (bs.drop (256 * i)).take 256
        s.gristGranule (k + 256 * i) d.fmt (g.map (fun x => x.1)) (g.any (fun x => x.2))))
    | _ => none
  else match s.accessW (s.cellRq d.cell) a bs with
    | .ok _ s1 => some s1
    | _ => none

/-- The index fault of a row, its address: a poisoned entry, or a row that leaves the permitted spaces (R171, R173). -/
def State.rowFault (s : State) (d : Desc) (r : Run) : Option Nat :=
  if !d.indexed then none
  else match r.bad with
  | some a => some a
  | none =>
    if d.op = 2 then (if d.remote = 1 then none else (s.srcFault d 0 r.srcs).map (fun x => x.2))
    else if d.remote = 2 then none else (s.runFault d true r.dst r.len).map (fun i => r.dst + i)

/-- What stops a local transfer. -/
inductive Moved where
  | ok (s : State)
  /-- An access is answered as not performed: ACCESS_ERROR_RESPONSE follows. -/
  | blocked
  /-- INDEX_FAULT (R171) at an address, after the bytes moved. -/
  | index (s : State) (pos addr : Nat)

/-- Move the bytes of transfer positions lo to hi − 1 of the runs, the first of which lies at `pos`. -/
def State.moveRuns (s : State) (d : Desc) (lo hi : Nat) : Nat → List Run → Moved
  | _, [] => .ok s
  | pos, r :: rest =>
    if pos + r.len ≤ lo then State.moveRuns s d lo hi (pos + r.len) rest
    else if hi ≤ pos then .ok s
    else
      let a := lo - pos
      let n := min r.len (hi - pos) - a
      match s.rowFault d r with
      | some f => .index s (pos + a) f
      | none =>
        match s.readSrc d (sliceSrcs r.srcs a n) with
        | none => .blocked
        | some (bs, s1) => match s1.writeDest d (r.dst + a) bs with
          | none => .blocked
          | some s2 => State.moveRuns s2 d lo hi (pos + r.len) rest

/-! ### Failure during the transfer (R171, R172) -/

/-- Where the transfer positions [lo, hi) lie at the destination: addresses and lengths. -/
def destRuns (lo hi : Nat) : Nat → List Run → List (Nat × Nat)
  | _, [] => []
  | pos, r :: rest =>
    let a := max lo pos
    let z := min hi (pos + r.len)
    (if z ≤ a then [] else [(r.dst + (a - pos), z - a)]) ++ destRuns lo hi (pos + r.len) rest

/-- The status segment size (R172). -/
def segSize (t : Nat) : Nat := max 4096 (((t + 63) / 64 + 4095) / 4096 * 4096)

/-- Transfer positions, as [start, end) intervals, that share a poisoned piece. -/
def badSpans (pieces : List Nat) : Nat → List Run → List (Nat × Nat)
  | _, [] => []
  | pos, r :: rest =>
    let mine := (touched r.dst r.len 32).filter (fun p => pieces.contains p)
    (mine.map (fun p => (pos + (max (32 * p) r.dst - r.dst), pos + (min (32 * p + 32) (r.dst + r.len) - r.dst))))
      ++ badSpans pieces (pos + r.len) rest

/-- CHn_FAIL_SEGMAP (R172). -/
def segMap (t : Nat) (spans : List (Nat × Nat)) : Nat :=
  let z := segSize t
  (upTo 64).foldl (fun acc i => if spans.any (fun x => decide (x.1 < x.2) && decide (x.1 < (i + 1) * z) && decide (i * z < x.2)) then acc + 2 ^ i else acc) 0

/-- Poison a destination piece that the descriptor can reach, by address / 32: locally at once, remotely by a WRITE whose answer nothing awaits. -/
def State.poisonPiece (s : State) (d : Desc) (piece : Nat) : State :=
  let bs := List.replicate 32 ((0 : Byte), true)
  if d.remote = 2 then
    match s.sendReq (s.cellPart d.cell) (.nobody (s.cellPart d.cell) (cellRegion d.cell)) 0 none ({ kind := mkWRITE, dst := d.peer, addr := piece * 32, job := d.job : LinkMsg }.withData bs) with
    | .sent s1 => s1
    | .held s1 => s1
    | .failed _ s1 => s1
  else match s.locate (s.cellRq d.cell) true (piece * 32) 32 with
    | .mem k => s.setPoison k true
    | .far f => { s with farPoison := s.farPoison.put false (f / 32) true }
    | _ => s

/-- Signal LCTR (R166): under the issuing cell's job. -/
def State.signalLctr (s : State) (d : Desc) : State :=
  if d.lctrEn then s.signal { part := s.cellPart d.cell, offset := d.lctr, amount := d.amount, job := d.job, src := .lctr d.cell d.seq } else s

/-- Send the RCTR signal of a remote descriptor (R166); its answer does not change how the descriptor ends. -/
def State.sendRctr (s : State) (src : ReqSrc) (d : Desc) : State :=
  if !d.rctrEn then s
  else match s.sendReq (s.cellPart d.cell) src posRctr none
      { kind := mkSIGNAL, dst := d.peer, addr := d.rctr, amount := d.amount.toNat, job := d.job, seq := d.seq.toNat } with
    | .sent s1 => s1
    | .held s1 => s1
    | .failed _ s1 => s1

/-- A stream of a channel is disarmed: SSTOPs that waited for it complete (R159, R169). -/
def State.disarmed (s : State) (b ch : Nat) : State :=
  let c := chanCell b ch
  let x := s.cell c
  (s.setChan b ch { s.chan b ch with armed := none, disarming := false }).setCell c
    { x with xSluice := x.xSluice.filter (fun y => !(wcode y.1.word == cSSTOP && fld y.1.word 111 110 == ch % 4 && y.2)) }

/-- A descriptor leaves its slot: its command completes, its shared space is freed, a stream to be disarmed is disarmed, and a channel with no begun descriptor is not stalled
(R177). -/
def State.leaveSlot (s : State) (b ch i : Nat) (d : Desc) : State :=
  let x := s.chan b ch
  let slots := dropAt x.slots i
  let s1 := (s.setChan b ch { x with slots := slots, stalled := x.stalled && slots.any (fun e => e.ph != .issued) }).freeSpace b ch d.seq 0
  let y := s1.cell d.cell
  let s2 := s1.setCell d.cell { y with xSluice := y.xSluice.filter (fun q => !(q.1.seq == d.seq && q.2)) }
  if d.persist && (s2.chan b ch).disarming then s2.disarmed b ch else s2

/-- The CHn_FAIL registers, HALTED and SLUICE_HALT (R171). -/
def State.chanHalt (s : State) (b ch : Nat) (d : Desc) (reason addr segmap segunits tag : Nat) : State :=
  let k := chBase b ch
  let s1 := (((((s.wb (k + 8) 0 true).wr (k + 0x30) (BitVec.ofNat 64 (reason + d.op * 2 ^ 8 + segunits * 2 ^ 32))).wr (k + 0x38) (BitVec.ofNat 64 segmap)).wr
    (k + 0x40) (BitVec.ofNat 64 (addr % 2 ^ 57))).wr (k + 0x48) d.seq).wr (k + 0x68) (BitVec.ofNat 64 tag)
  s1.raise { code := evSluiceHalt, part := s.cellPart d.cell, job := d.job, kind := 3, index := b, arg0 := ch + reason * 2 ^ 8, arg1 := addr % 2 ^ 57, arg2 := segmap }

/-- A descriptor that fails as it begins (R171, reasons 0x01 to 0x06). Nothing was written: every status segment of a transfer that has bytes is marked. -/
def State.descBeginFail (s : State) (b ch i : Nat) (d : Desc) (reason addr : Nat) : State :=
  let t := if d.op = 4 || d.op = 5 then d.n1 * (d.len0 / actBlock d.fmt * (1 + actBlock d.fmt)) else d.len0 * d.n1 * d.n2 * d.n3
  (s.leaveSlot b ch i d).chanHalt b ch d reason addr (segMap t [(0, t)]) (segSize t / 4096) 0

/-- The rest of a HEADRACE stream that fails or is killed: poison in whole pieces, and the marker, which the injector places as the head's buffer takes them (R171, R174, R184). -/
def State.endStream (s : State) (b ch : Nat) (d : Desc) (t : Nat) : State :=
  match s.headOf d with
  | none => s
  | some h =>
    let is : List HrItem := List.replicate (t - d.moved) { job := d.job, byte := some (0, true) } ++ (if d.close then [{ job := d.job, byte := none }] else [])
    let x := s.chan b ch
    s.setChan b ch { x with owed := x.owed ++ is.map (fun i => (h, i)) }

/-- Transfer positions that have not been written: of a descriptor with a remote end, those whose requests have not been made and those whose responses are still awaited. -/
def State.openSpans (s : State) (b ch : Nat) (d : Desc) (t : Nat) : List (Nat × Nat) :=
  (d.late.filter (fun l => decide (l.pos < posHeader))).map (fun l => (l.pos, l.stop)) ++ (
    if d.remote = 0 then [(d.moved, t)]
    else
      let data (pos n : Nat) : List (Nat × Nat) := if pos < posHeader then [(pos, pos + n)] else []
      d.again ++ [(d.sent, t)] ++ ((s.reqs.filter (fun r => r.src == .chan b ch d.seq)).map (fun r => data r.pos r.amount)).flatten
        ++ ((s.fabric (s.cellPart d.cell)).routes.map (fun e => ((e.2.held.filter (fun x => x.1 == .chan b ch d.seq)).map (fun x =>
              data x.2.1 (if x.2.2.kind = mkREAD then x.2.2.amount else x.2.2.len))).flatten)).flatten)

/-- Where a descriptor still has to write, as addresses and lengths. -/
def State.unwritten (s : State) (b ch : Nat) (d : Desc) : List (Nat × Nat) :=
  let rs := s.descRuns d
  ((s.openSpans b ch d (totalOf rs)).map (fun x => destRuns x.1 x.2 0 rs)).flatten ++ (if d.writesHeader && !d.hdrDone then [(d.dst, 64)] else [])

/-- Nothing awaits a descriptor's requests any longer. -/
def State.dropChanReqs (s : State) (b ch : Nat) (d : Desc) : State :=
  let p := s.cellPart d.cell
  let s1 := s.endReqs (fun r => r.src == .chan b ch d.seq)
  forEach ((s.fabric p).routes.map (fun e => e.1)) s1 (fun s k =>
    s.setRoute p k { s.route p k with held := (s.route p k).held.filter (fun x => x.1 != .chan b ch d.seq) })

/-- A descriptor fails during its transfer (R171, R172), what `openSpans` names unwritten. A remote destination to which there is no route (UNREACHED) cannot be reached; every other
one is sent its poison, and its RCTR signal if that has not left. -/
def State.descFail (s : State) (b ch i : Nat) (d : Desc) (reason addr tag : Nat) : State :=
  let rs := s.descRuns d
  let t := totalOf rs
  let bad := s.openSpans b ch d t
  let pieces := ((s.unwritten b ch d).map (fun x => touched x.1 x.2 32)).flatten.eraseDups
  let spans := if d.op = 6 then bad else bad ++ badSpans pieces 0 rs
  let reached := d.remote != 2 || reason != 0x0A
  let s0 := s.dropChanReqs b ch d
  let s1 := if d.op = 6 then s0.endStream b ch d t
    else if reached then forEach pieces s0 (fun s p => s.poisonPiece d p) else s0
  let s2 := s1.signalLctr d
  let s3 := if d.remote = 2 && reached && !d.rctrSent then s2.sendRctr (.nobody (s2.cellPart d.cell) (cellRegion d.cell)) d else s2
  (s3.leaveSlot b ch i d).chanHalt b ch d reason addr (segMap t spans) (segSize t / 4096) tag

/-- A descriptor completes (R166): LCTR is signalled. -/
def State.descDone (s : State) (b ch i : Nat) (d : Desc) : State := (s.signalLctr d).leaveSlot b ch i d

/-- The slot of a channel that holds the descriptor of an op sequence number. -/
def State.slotOf (s : State) (b ch : Nat) (seq : Word64) : Option (Nat × Desc) :=
  match findIdx (fun d : Desc => d.seq == seq && d.ph != .issued) (s.chan b ch).slots with
  | some i => ((s.chan b ch).slots[i]?).map (fun d => (i, d))
  | none => none

/-! ### What holds a descriptor (R35, R62, R113, R167, R174) -/

/-- Whether an access lies in a cell's own store or sets: as a memory key with its length. -/
def State.ownRun (s : State) (c : Nat) (x : Nat × Nat) : Option (Nat × Nat) :=
  match s.locate (s.cellRq c) false (x.1 % 2 ^ 57) x.2 with
  | .mem k => if cellKey c 0 ≤ k && k < cellKey c 0x80_0000 then some (k, x.2) else none
  | _ => none

/-- Whether a run of a cell's own store meets what an earlier command of the sluice queue, of op sequence number below `seq`, still has to write there: within one queue a command
observes every effect of the earlier ones on the cell's own store (R62). -/
def State.ownBlocked (s : State) (c : Nat) (seq : Word64) (runs : List (Nat × Nat)) : Bool :=
  [0, 1, 2, 3].any (fun j =>
    let ch := 4 * cellPos c + j
    (s.chan (cellBlock c) ch).slots.any (fun e =>
      e.cell == c && decide (e.seq.toNat < seq.toNat) && e.remote != 2 && e.op != 6
        && ((s.unwritten (cellBlock c) ch e).filterMap (s.ownRun c)).any (fun w =>
              (runs.filterMap (s.ownRun c)).any (fun r => decide (w.1 < r.1 + r.2) && decide (r.1 < w.1 + w.2)))))

/-- What a descriptor reads and writes in this package: sources, the index list, the destination and the headers. -/
def State.descTouches (s : State) (d : Desc) : List (Nat × Nat) :=
  let rs := s.descRuns d
  (if d.remote = 1 then [] else (rs.map (fun r => r.srcs)).flatten ++ (if d.readsHeader then [(d.src, 64)] else []))
    ++ (if d.remote = 2 || d.op = 6 then [] else rs.map (fun r => (r.dst, r.len)) ++ (if d.writesHeader then [(d.dst, 64)] else []))
    ++ (if d.indexed then [(ownBase d.cell + d.idxAddr, 4 * d.n1)] else [])

/-- The busy set that a descriptor's accesses wait for, if any (R35, R113). -/
def State.descHeld (s : State) (d : Desc) : Option (Nat × Nat) :=
  let rq := s.cellRq d.cell
  (s.descRuns d).findSome? (fun r =>
    ((if d.remote = 2 || d.op = 6 then none else s.waitsOn rq true (r.dst % 2 ^ 57) r.len)).orElse
      (fun _ => if d.remote = 1 then none else r.srcs.findSome? (fun x => s.waitsOn rq false (x.1 % 2 ^ 57) x.2)))

/-- A cell that is FROZEN moves no descriptor of its channels (R174). -/
def State.chFrozen (s : State) (b ch : Nat) : Bool := (s.cell (chanCell b ch)).st == .frozen

/-- An earlier ORDERED descriptor of the channel has not completed (R167). -/
def Channel.orderBlocked (x : Channel) (i : Nat) (d : Desc) : Bool := d.ordered && (x.slots.take i).any Desc.ordered

/-- Whether a descriptor may move nothing now: its cell is FROZEN (R174), or an earlier descriptor must complete or write first (R62, R167). -/
def State.descBlocked (s : State) (b ch i : Nat) (d : Desc) : Bool :=
  s.chFrozen b ch || (s.chan b ch).orderBlocked i d || s.ownBlocked d.cell d.seq (s.descTouches d)

/-- Requests of a descriptor that still await a response, on a link or held by a probing route. -/
def State.descPending (s : State) (b ch : Nat) (d : Desc) : Bool :=
  let p := s.cellPart d.cell
  s.reqs.any (fun r => r.src == .chan b ch d.seq) || (s.fabric p).routes.any (fun e => e.2.held.any (fun x => x.1 == .chan b ch d.seq))

end Sys2Proof.Machine
end

