-- ==== Sys2Proof/Machine/Sluice.lean ====
section
/-! DEFINITION. The commands of the sluice and the headrace (R155 to R188): class 0x3 commands, the life of a descriptor, the driver's channel registers, injection and the hop. -/

namespace Sys2Proof.Machine

/-! ### Class 0x3 commands (R159, R160, R169) -/

/-- The begun class 0x3 command of an opcode that has not run its execute phase. -/
def Cell.sluiceBegun (x : Cell) (code : Nat) : Option QCmd := (x.xSluice.find? (fun y => !y.2 && wcode y.1.word == code)).map (fun y => y.1)

/-- Mark a begun class 0x3 command as executed. -/
def State.sluiceRan (s : State) (c : Nat) (seq : Word64) : State :=
  let x := s.cell c
  s.setCell c { x with xSluice := x.xSluice.map (fun y => if y.1.seq == seq then (y.1, true) else y) }

/-- A class 0x3 command completes. -/
def State.sluiceEnd (s : State) (c : Nat) (seq : Word64) : State :=
  let x := s.cell c
  s.setCell c { x with xSluice := x.xSluice.filter (fun y => y.1.seq != seq) }

/-- Put a descriptor into a free slot of its channel, with CHn_HWM.SLOTS. -/
def State.putSlot (s : State) (b ch : Nat) (d : Desc) : State :=
  let x := s.chan b ch
  let s1 := s.setChan b ch { x with slots := x.slots ++ [d] }
  if s1.chKilled b ch then s1 else s1.high (chBase b ch + 0x58) 2 0 (x.slots.length + 1)

/-- A scalar register's value that has any of bits [63:57] set names no address (R159). -/
def badBaseReg (v : Word64) : Bool := fld v 63 57 != 0

/-- Replace the base addresses of a descriptor (R159): zero-register fields leave a base unchanged. -/
def Desc.withBases (d : Desc) (src dst : Option Word64) : Desc :=
  let r1 := match src with
    | some v => setFld d.raw 120 64 (fld v 56 0)
    | none => d.raw
  let r2 := match dst with
    | some v => setFld r1 184 128 (fld v 56 0)
    | none => r1
  { d with raw := r2, badSrc := (src.map badBaseReg).getD false, badDst := (dst.map badBaseReg).getD false }

/-- The base operands of an SDESC or SARM: s0 leaves a base unchanged. -/
def baseOps (q : QCmd) : Option Word64 × Option Word64 :=
  ((if fld q.word 87 83 = 0 then none else some (q.ops.getD 0 0)), (if fld q.word 82 78 = 0 then none else some (q.ops.getD 1 0)))

/-- Show the bases of an armed stream in CHn_SRC_BASE and CHn_DST_BASE. -/
def State.showBases (s : State) (b ch : Nat) (d : Desc) : State :=
  (s.wr (chBase b ch + 0x10) (BitVec.ofNat 64 d.src)).wr (chBase b ch + 0x18) (BitVec.ofNat 64 d.dst)

/-- Whether a cell's state disarms persistent streams after their current runs (R169). -/
def CellState.disarms : CellState → Bool
  | .idle | .halted | .draining => true
  | _ => false

/-- SDESC (R159): the descriptor is read from the cell store; from a poisoned piece it changes nothing and halts the cell (R436). It waits for earlier descriptors that write the
bytes (R62). A stream that is armed in a state that disarms streams is armed for its one run (R169). -/
def execSdesc (c : CellId) (ph : Phase) (s : State) : Out := powered s <|
  match ph with
  | .dispatch => done s (s.dispatch c cSDESC)
  | .execute => match (s.cell c).sluiceBegun cSDESC with
    | none => .next s
    | some q =>
      let off := fld q.word 109 88
      if s.ownBlocked c q.seq [(ownBase c + off, 64)] then .next s
      else match s.poisonAddr c [(off, 64)] with
      | some a => done s ((s.sluiceEnd c q.seq).halt c { reason := .poison, unit := 3, pc := q.pc, seq := q.seq, word := q.word, addr := a })
      | none =>
        let b := cellBlock c
        let ch := cellChan c (fld q.word 111 110)
        let raw := BitVec.ofNat 512 (ofBytes (s.readB (cellKey c off) 64))
        let d := Desc.withBases { raw := raw, cell := c, seq := q.seq, job := s.job c } (baseOps q).1 (baseOps q).2
        let s1 := (s.sluiceRan c q.seq).putSlot b ch d
        .next (if d.persist then (s1.setChan b ch { s1.chan b ch with armed := some d, disarming := (s.cell c).st.disarms }).showBases b ch d else s1)

/-- A new run of the armed stream starts with new bases (R169). -/
def State.startRun (s : State) (b ch : Nat) (d : Desc) : State :=
  let d1 := { d with ph := .issued, moved := 0, late := [], sent := 0, again := [], hdr := [], headerOk := false, hdrDone := false, rctrSent := false }
  ((s.putSlot b ch d1).setChan b ch { (s.putSlot b ch d1).chan b ch with armed := some d1 }).showBases b ch d1

/-- SARM (R159, R169). -/
def execSarm (c : CellId) (ph : Phase) (s : State) : Out := powered s <|
  match ph with
  | .dispatch => done s (s.dispatch c cSARM)
  | .execute => match (s.cell c).sluiceBegun cSARM with
    | none => .next s
    | some q =>
      let b := cellBlock c
      let ch := cellChan c (fld q.word 111 110)
      match (s.chan b ch).armed with
      | none => .next (s.sluiceEnd c q.seq)
      | some d =>
        if (s.chan b ch).slots.any Desc.persist then .next s
        else
          let d1 := Desc.withBases { d with seq := q.seq, job := s.job c } (baseOps q).1 (baseOps q).2
          .next ((s.sluiceRan c q.seq).startRun b ch d1)

/-- Disarm the stream of a channel after its current run (R169). -/
def State.stopStream (s : State) (b ch : Nat) : State :=
  let x := s.chan b ch
  match x.armed with
  | none => s
  | some _ => if x.slots.any Desc.persist then s.setChan b ch { x with disarming := true } else s.disarmed b ch

/-- SSTOP (R159, R169): complete when the stream is disarmed. -/
def execSstop (c : CellId) (ph : Phase) (s : State) : Out := powered s <|
  match ph with
  | .dispatch => done s (s.dispatch c cSSTOP)
  | .execute => match (s.cell c).sluiceBegun cSSTOP with
    | none => .next s
    | some q =>
      let b := cellBlock c
      let ch := cellChan c (fld q.word 111 110)
      match (s.chan b ch).armed with
      | none => .next (s.sluiceEnd c q.seq)
      | some _ => .next ((s.sluiceRan c q.seq).stopStream b ch)

/-! ### The life of a descriptor -/

/-- A channel begins its oldest issued descriptor (R155, R164, R168): a channel that is halted begins none. The cell's stores that are performed at CELL scope alone become
performed before the descriptor accesses memory (log 52). -/
def execDescriptorBegin (b : BlockId) (ch : ChanId) (s : State) : Out := powered s <|
  match findIdx (fun d : Desc => d.ph == .issued) (s.chan b ch).slots with
  | none => .next s
  | some i => match (s.chan b ch).slots[i]? with
    | none => .next s
    | some d =>
      if s.chHalted b ch then .next s
      else match s.beginFail d with
      | some (reason, addr) => done s (s.descBeginFail b ch i d reason addr)
      | none =>
        let waits := d.pace && decide (s.fillLevel b ch > (s.wmarkLow b ch : Int))
        let d1 := { d with ph := if waits then .paced else .moving, tag := s.rd (blockBase b + 0x400 + 8 * d.tagslot) }
        .next (((s.settleStores d.cell).setDesc b ch i d1).wantGrant b ch)

/-- Bytes of a shared segment (R156, R188). -/
def State.segBytes (s : State) (b : Nat) : Nat := 4096 * 2 ^ min (s.rf (blockBase b) 1 0) 2

/-- Shared bytes granted in a block: SLUICE.BUF_LEVEL. -/
def State.bufLevel (s : State) (b : Nat) : Nat := ((upTo 16).map (fun ch => ((s.chan b ch).segs.map (fun g => g.2)).sum)).sum

/-- CHn_STATUS.SEGMENTS: 4 KiB units held, the reservation included. -/
def Channel.segments (x : Channel) : Nat := 1 + (x.segs.map (fun g => g.2)).sum / 4096

/-- The descriptor that takes a granted segment: the oldest one of the channel whose bytes its own segments do not hold. -/
def State.segOwner (s : State) (x : Channel) : Word64 :=
  ((x.slots.find? (fun d => decide (((x.segs.filter (fun g => g.1 == d.seq)).map (fun g => g.2)).sum < s.descLeft d))).map (fun d => d.seq)).getD 0

/-- A whole free segment is granted to the requesting channel that is next in turn (R156). -/
def execSegmentGrant (b : BlockId) (ch : ChanId) (s : State) : Out := powered s <|
  let order := (upTo 16).map (fun i => ((s.sluice b).lastGrant + 1 + i) % 16)
  if order.find? (fun c => (s.chan b c).wanting) == some ch.val && decide (s.bufLevel b + s.segBytes b ≤ 196608) then
    let x := s.chan b ch
    let s1 := (s.setChan b ch { x with segs := x.segs ++ [(s.segOwner x, s.segBytes b)], wanting := false }).wantGrant b ch
    let s2 := (s1.setSluice b { s1.sluice b with lastGrant := ch }).high (blockBase b + 0x28) 17 0 (s1.bufLevel b)
    .next (if s2.chKilled b ch then s2 else s2.high (chBase b ch + 0x58) 13 8 (s2.chan b ch).segments)
  else .next s

/-! Headers (R178 to R182) -/

/-- The reserved bytes of a header are zero. -/
def hdrReserved (bs : List Byte) : Bool :=
  ((bs.drop 0x0A).take 2 ++ (bs.drop 0x14).take 4 ++ (bs.drop 0x20).take 32).any (fun x => x != 0)

def hdrNum (bs : List Byte) (o n : Nat) : Nat := ofBytes ((bs.drop o).take n)

/-- Judge the header that a descriptor has read (R179, R182). -/
def State.judgeHeader (s : State) (b ch i : Nat) (d : Desc) (hs : List PByte) : State :=
  let bs := hs.map (fun x => x.1)
  let tag := BitVec.ofNat 64 (hdrNum bs 0 8)
  let slot := blockBase b + 0x400 + 8 * d.tagslot
  let outside := (s.descRuns d).any (fun r => r.srcs.any (fun x =>
    decide (x.1 < d.src + 64) || decide (d.src + 64 + hdrNum bs 0x18 8 < x.1 + x.2)))
  let invalid := hs.any (fun x => x.2) || hdrReserved bs
    || (if d.op = 5 then hdrNum bs 8 1 != 1 || hdrNum bs 9 1 != d.fmt || hdrNum bs 0x0C 4 != d.n1 || hdrNum bs 0x10 4 != d.len0 / actBlock d.fmt
        else hdrNum bs 8 1 != 0 || outside)
  if invalid then s.descFail b ch i d 0x0C d.src 0
  else if d.op = 2 && d.vmode = 1 then (s.wr slot tag).setDesc b ch i { d with headerOk := true }
  else if tag = s.rd slot then s.setDesc b ch i { d with headerOk := true }
  else if d.op = 5 then s.descFail b ch i d 0x0B d.src 0
  else (s.descFail b ch i d 0x0B d.src tag.toNat).raise
    { code := evShardVersion, part := s.cellPart d.cell, job := d.job, kind := 3, index := b, arg0 := ch + d.tagslot * 2 ^ 4, arg1 := tag.toNat, arg2 := (s.rd slot).toNat }

/-- How a descriptor ends when a request of it is refused at its source (R256, R278). -/
def sendReason (st : Nat) : Nat := if st = stNOROUTE then 0x0A else 0x09

/-- Make the requests of a descriptor in turn: positions, lengths and messages. The first that cannot leave fails it, with the spans of the others unwritten. -/
def State.sendAll (s : State) (b ch : Nat) (d : Desc) (i : Nat) : List (Nat × Nat × LinkMsg) → State
  | [] => s.setDesc b ch i d
  | (pos, n, m) :: rest =>
    match s.sendReq (s.cellPart d.cell) (.chan b ch d.seq) pos none m with
    | .sent s1 => State.sendAll s1 b ch d i rest
    | .held s1 => State.sendAll s1 b ch d i rest
    | .failed st s1 =>
      let open_ := ((pos, n) :: rest.map (fun x => (x.1, x.2.1))).filter (fun x => decide (x.1 < posHeader))
      s1.descFail b ch i { d with again := d.again ++ open_.map (fun x => (x.1, x.1 + x.2)) } (sendReason st) m.addr 0

/-- A request of a descriptor to its peer. -/
def Desc.toPeer (d : Desc) (kind addr amount : Nat) : LinkMsg := { kind := kind, dst := d.peer, addr := addr, amount := amount, job := d.job, seq := d.seq.toNat }

/-- The 64 bytes of a header as requests to the peer: none covers bytes of two 4 KiB granules (R255). -/
def headerParts (a : Nat) : List (Nat × Nat × Nat) := splitRun 2 0 a 64

/-- The header of a RECORD or CHECK gather, or of an ACT_RESTORE, is read (R179, R182); a remote one is asked for by READ_REQs, and judged as their responses arrive. A header that
the cell may not reach, or whose check fails, writes poison, so that it is read in the turn of an ORDERED descriptor (R167). -/
def execShardHeaderRead (b : BlockId) (ch : ChanId) (slot : Fin 4) (s : State) : Out := powered s <|
  match (s.chan b ch).slots[slot.val]? with
  | none => .next s
  | some d =>
    if d.ph ≠ .moving || !d.readsHeader || d.headerOk || !d.late.isEmpty || s.descBlocked b ch slot.val d || s.descPending b ch d then .next s
    else if d.remote = 1 then
      done s (s.sendAll b ch { d with hdr := [] } slot.val ((headerParts d.src).map (fun x => (posHeader + x.1, x.2.2, d.toPeer mkREAD x.2.1 x.2.2))))
    else match s.waitsOn (s.cellRq d.cell) false d.src 64 with
    | some w => .next (s.hold w (.desc b ch d.seq))
    | none => match s.access (s.cellRq d.cell) d.src 64 with
      | .ok hs s1 => done s ((s1.unhold (.desc b ch d.seq)).judgeHeader b ch slot.val d hs)
      | .busError => .next s
      | .addressFault => done s (s.descFail b ch slot.val d 0x0C d.src 0)

/-- The transfer position up to which a paced channel moves now (R168): it stops at the next 4 KiB boundary once F reaches HIGH. -/
def State.paceStop (s : State) (b ch : Nat) (d : Desc) (t : Nat) : Nat :=
  if !d.pace then t
  else
    let left := ((s.wmarkHigh b ch : Int) - s.fillLevel b ch).toNat
    min t ((d.moved + left + 4095) / 4096 * 4096)

/-- Part of a request: its piece between two transfer positions. -/
def cutPart (lo hi : Nat) (x : Nat × Nat × Nat) : Option (Nat × Nat × Nat) :=
  let a := max lo x.1
  let z := min hi (x.1 + x.2.2)
  if a < z then some (a, x.2.1 + (a - x.1), z - a) else none

/-- The requests of a descriptor over its runs: position, address at the peer, length (R255). -/
def State.remoteParts (s : State) (d : Desc) : List (Nat × Nat × Nat) :=
  ((s.descRuns d).foldl (fun (acc : Nat × List (Nat × Nat × Nat)) r =>
    let far := if d.remote = 1 then r.srcs else [(r.dst, r.len)]
    let parts := (far.foldl (fun (q : Nat × List (Nat × Nat × Nat)) x =>
      (q.1 + x.2, q.2 ++ (splitRun (x.2 / 4096 + 2) 0 x.1 x.2).map (fun (o, a, n) => (q.1 + o, a, n)))) (acc.1, [])).2
    (acc.1 + r.len, acc.2 ++ parts)) (0, [])).2

/-- The source runs of the transfer positions [pos, pos + n). -/
def srcRuns : List Run → Nat → Nat → List (Nat × Nat)
  | [], _, _ => []
  | r :: rest, pos, n =>
    if r.len ≤ pos then srcRuns rest (pos - r.len) n
    else if pos + n ≤ r.len then sliceSrcs r.srcs pos n
    else sliceSrcs r.srcs pos (r.len - pos) ++ srcRuns rest 0 (n - (r.len - pos))

/-- The messages of a list of requests, a write's with its data; none: an access to the source is not performed. -/
def State.remoteMsgs (s : State) (d : Desc) (rs : List Run) : List (Nat × Nat × Nat) → Option (List (Nat × Nat × LinkMsg) × State)
  | [] => some ([], s)
  | (pos, a, n) :: rest =>
    if d.remote = 1 then (State.remoteMsgs s d rs rest).map (fun (ms, s1) => ((pos, n, d.toPeer mkREAD a n) :: ms, s1))
    else match s.readSrc d (srcRuns rs pos n) with
    | none => none
    | some (bs, s1) =>
      let m : LinkMsg := { d.toPeer (if d.op = 1 then mkGRIST else mkWRITE) a 0 with fmt := if d.op = 1 then d.fmt else 0 }
      (State.remoteMsgs s1 d rs rest).map (fun (ms, s2) => ((pos, n, m.withData bs) :: ms, s2))

/-- Make the requests of spans of transfer positions, and set the descriptor; none: an access to the source is not performed. -/
def State.sendSpans (s : State) (b ch i : Nat) (d : Desc) (spans : List (Nat × Nat)) : Option State :=
  let parts := s.remoteParts d
  (s.remoteMsgs d (s.descRuns d) ((spans.map (fun x => parts.filterMap (cutPart x.1 x.2))).flatten)).map (fun (ms, s1) => s1.sendAll b ch d i ms)

/-- The first index fault of a descriptor (R164, R173): the address CHn_FAIL_ADDR takes. -/
def State.indexFault (s : State) (d : Desc) : Option Nat := (s.descRuns d).findSome? (s.rowFault d)

/-- A descriptor whose other end lies in another package moves: its requests leave, a paced one's as far as R168 lets it (R166, R168, R255). -/
def State.remoteMove (s : State) (b ch i : Nat) (d : Desc) (t : Nat) : State :=
  match s.indexFault d with
  | some a => s.descFail b ch i d 0x0D a 0
  | none =>
    let hi := max d.sent (s.paceStop b ch d t)
    (s.sendSpans b ch i { d with ph := .remote, again := [], sent := hi } (d.again ++ [(d.sent, hi)])).getD s

/-- Every destination byte is written and performed, and the descriptor completes (R166). A paced descriptor moves as far as R168 lets it; one with accesses that await their
retries moves on past them and stays (R170); a remote one sends its requests, and completes once every response is in. -/
def execDescriptorComplete (b : BlockId) (ch : ChanId) (slot : Fin 4) (s0 : State) : Out := powered s0 <|
  match (s0.chan b ch).slots[slot.val]? with
  | none => .next s0
  | some d =>
    let t := totalOf (s0.descRuns d)
    if s0.descBlocked b ch slot.val d then .next s0
    else match d.ph with
    | .remote =>
      if d.moved = t && (!d.writesHeader || d.hdrDone) && !s0.descPending b ch d then done s0 (s0.descDone b ch slot.val d) else .next s0
    | .moving =>
      if d.readsHeader && !d.headerOk then .next s0
      else match s0.descHeld d with
      | some w => .next (s0.hold w (.desc b ch d.seq))
      | none =>
        let s := s0.unhold (.desc b ch d.seq)
        if d.op = 6 then (if d.moved = t then done s0 (s.descDone b ch slot.val d) else .next s)
        else if d.remote ≠ 0 then done s0 (s.remoteMove b ch slot.val d t)
        else
          let hi := s.paceStop b ch d t
          match s.moveRuns d d.moved hi 0 (s.descRuns d) with
          | .blocked => .next s
          | .index s1 pos a => done s0 ((s1.countMoved b ch (pos - d.moved)).descFail b ch slot.val { d with moved := pos } 0x0D a 0)
          | .ok s1 =>
            let s2 := s1.countMoved b ch (hi - d.moved)
            let d1 := { d with moved := hi }
            if hi < t then .next ((s2.setDesc b ch slot.val { d1 with ph := .paced }).freeSpace b ch d.seq 0)
            else if !d.late.isEmpty then .next ((s2.setDesc b ch slot.val d1).freeSpace b ch d.seq 0)
            else if d.writesHeader then .next ((s2.setDesc b ch slot.val { d1 with ph := .stamping }).freeSpace b ch d.seq 0)
            else done s0 ((s2.setDesc b ch slot.val d1).descDone b ch slot.val d1)
    | _ => .next s0

/-- The header that a STAMP or an ACT_SAVE writes (R178, R180, R181). -/
def State.headerBytes (s : State) (d : Desc) : List Byte :=
  let k := actBlock d.fmt
  let n := d.len0 / k
  if d.op = 4 then
    toBytes 8 d.tag.toNat ++ toBytes 1 1 ++ toBytes 1 d.fmt ++ toBytes 2 0 ++ toBytes 4 d.n1 ++ toBytes 4 n ++ toBytes 4 0 ++ toBytes 8 (d.n1 * n * (1 + k)) ++ toBytes 32 0
  else toBytes 8 d.tag.toNat ++ toBytes 16 0 ++ toBytes 8 (totalOf (s.descRuns d)) ++ toBytes 32 0

/-- The first byte of a header that may not be written. -/
def State.headerFault (s : State) (d : Desc) : Option Nat := (s.runFault d true d.dst 64).map (fun i => d.dst + i)

/-- The header is written after the payload (R180, R181). R164 leaves the check of its address to the transfer and names no reason for it: one that may not be written fails with
HEADER_INVALID (log 53, DESIGN CHOICE). -/
def execStampHeaderWrite (b : BlockId) (ch : ChanId) (slot : Fin 4) (s : State) : Out := powered s <|
  match (s.chan b ch).slots[slot.val]? with
  | none => .next s
  | some d =>
    if d.ph ≠ .stamping || !d.late.isEmpty || s.chFrozen b ch || s.descPending b ch d then .next s
    else
      let bs := s.fromCell d.cell ((s.headerBytes d).map (fun x => (x, false)))
      if d.remote = 2 then
        done s (s.sendAll b ch { d with ph := .remote } slot.val ((headerParts d.dst).map (fun (o, a, n) =>
          (posHeader + o, n, (d.toPeer mkWRITE a 0).withData ((bs.drop o).take n)))))
      else match s.headerFault d with
      | some a => done s (s.descFail b ch slot.val d 0x0C (a % 2 ^ 57) 0)
      | none => match s.waitsOn (s.cellRq d.cell) true d.dst 64 with
        | some w => .next (s.hold w (.desc b ch d.seq))
        | none => match s.accessW (s.cellRq d.cell) d.dst bs with
          | .ok _ s1 => done s ((s1.unhold (.desc b ch d.seq)).descDone b ch slot.val { d with hdrDone := true })
          | _ => .next s

/-! Errors and retries (R170) -/

/-- Where transfer position `pos` lies at the source. -/
def srcAt : List Run → Nat → Nat
  | [], _ => 0
  | r :: rest, pos => if pos < r.len then ((sliceSrcs r.srcs pos 1).head?.map (fun x => x.1)).getD 0 else srcAt rest (pos - r.len)

/-- Where transfer position `pos` lies at the destination. -/
def dstAt : List Run → Nat → Nat
  | [], _ => 0
  | r :: rest, pos => if pos < r.len then r.dst + pos else dstAt rest (pos - r.len)

/-- An access is answered as not performed: a retry is scheduled, or the retries are exhausted and the descriptor fails with BUS_ERROR (R170, R171). `d` names the other
accesses that wait. -/
def State.accessFailed (s : State) (b ch i : Nat) (d : Desc) (l : Late) : State :=
  if l.tries < s.rf (blockBase b + 8) 2 0 then s.setDesc b ch i { d with late := d.late ++ [{ l with tries := l.tries + 1 }] }
  else s.descFail b ch i { d with late := d.late ++ [l] } 0x07 l.addr 0

/-- Where the part of a transfer begins that an access error at `pos` leaves undone: a GRIST adds each 256-byte granule as a whole (R163). -/
def Desc.granule (d : Desc) (pos : Nat) : Nat := if d.op = 1 then pos / 256 * 256 else pos

/-- An access, of the header's or else at transfer position `pos`, to the source or (`wr`) to the destination, returns an error saying it was not performed (R170). What lies
before it in transfer order has been written; the rest of its 4 KiB segment waits with it, and the other segments go on. A stream waits as a whole. -/
def execAccessErrorResponse (b : BlockId) (ch : ChanId) (slot : Fin 4) (pos : Nat) (wr : Bool) (s : State) : Out := powered s <|
  match (s.chan b ch).slots[slot.val]? with
  | none => .next s
  | some d =>
    let rs := s.descRuns d
    let t := totalOf rs
    let lo := d.granule pos
    let l : Late := { pos := lo, stop := min t ((pos / 4096 + 1) * 4096), addr := if wr then dstAt rs pos % 2 ^ 57 else srcAt rs pos }
    if d.late.any (fun l => l.pos == posHeader) then .next s
    else if d.ph = .stamping then
      (if d.remote = 0 && !s.chFrozen b ch then done s (s.accessFailed b ch slot.val d { pos := posHeader, stop := posHeader, addr := d.dst }) else .next s)
    else if d.ph ≠ .moving || s.descBlocked b ch slot.val d then .next s
    else if d.readsHeader && !d.headerOk then
      (if d.remote = 1 then .next s else done s (s.accessFailed b ch slot.val d { pos := posHeader, stop := posHeader, addr := d.src }))
    else if (s.descHeld d).isSome then .next s
    else if d.op = 6 then
      (if wr || !d.late.isEmpty || pos < d.moved || t ≤ pos then .next s else done s (s.accessFailed b ch slot.val d { l with stop := t }))
    else if d.remote = 1 then .next s
    else if d.remote = 2 then
      if wr || pos < d.sent || s.paceStop b ch d t ≤ pos || (s.indexFault d).isSome then .next s
      else match s.sendSpans b ch slot.val { d with sent := lo } [(d.sent, lo)] with
      | none => .next s
      | some s1 => match s1.slotOf b ch d.seq with
        | none => done s s1
        | some (i, d1) => done s (s1.accessFailed b ch i { d1 with sent := l.stop } l)
    else if pos < d.moved || s.paceStop b ch d t ≤ pos then .next s
    else match s.moveRuns d d.moved lo 0 rs with
    | .ok s1 =>
      let d1 := { d with moved := l.stop }
      done s (((s1.countMoved b ch (lo - d.moved)).setDesc b ch slot.val d1).accessFailed b ch slot.val d1 l)
    | _ => .next s

/-- A READ_REQ of a descriptor that ended as not performed: it awaits its retry, or the retries are exhausted (R170, R257). -/
def State.readLost (s : State) (b ch i : Nat) (d : Desc) (r : Req) : State :=
  if r.tries < s.rf (blockBase b + 8) 2 0 then
    let s1 := { s with reqs := s.reqs.map (fun x => if x == r then { r with retry := true, tries := r.tries + 1 } else x) }
    s1.setDesc b ch i { d with ph := .retrying }
  else s.descFail b ch i d 0x07 r.addr 0

/-- Send one READ_REQ again, under a new TXID. -/
def State.sendAgain (s : State) (b ch : Nat) (d : Desc) (r : Req) : State :=
  match s.slotOf b ch d.seq with
  | none => s
  | some (i, d) =>
    let s0 := s.endReqs (fun x => x == r)
    let txid := s0.nextTxid
    match s0.sendReq (s.cellPart d.cell) r.src r.pos none (d.toPeer mkREAD r.addr r.amount) with
    | .sent s1 => { s1 with reqs := s1.reqs.map (fun x => if x.txid == txid && x.src == r.src then { x with tries := r.tries } else x) }
    | .held s1 => s1
    | .failed st s1 => State.descFail { s1 with reqs := s.reqs } b ch i d (sendReason st) r.addr 0

/-- CHn_RETRIES counts a retry (R170, R188). -/
def State.countRetry (s : State) (b ch : Nat) : State := if s.chKilled b ch then s else s.bump (chBase b ch + 0x60) 31 0 1

/-- The `n`-th READ_REQ of a remote descriptor that awaits its retry is sent again. -/
def State.reissue (s : State) (b ch i : Nat) (d : Desc) (n : Nat) : State :=
  let rs := s.reqs.filter (fun r => r.src == .chan b ch d.seq && r.retry)
  match rs[n]? with
  | none => s
  | some r =>
    let ph : DescPh := if 1 < rs.length then .retrying else if posHeader ≤ r.pos || !d.again.isEmpty then .moving else .remote
    ((s.countRetry b ch).setDesc b ch i { d with ph := ph }).sendAgain b ch d r

/-- The `n`-th retry wait of a descriptor ends and the failed access is reissued (R170): it is performed, and what waited for it is written, or it fails again. Of a descriptor with
a remote source, the READ_REQ that waited is sent again. -/
def execRetryTimerExpire (b : BlockId) (ch : ChanId) (slot : Fin 4) (n : Nat) (ok : Bool) (s : State) : Out := powered s <|
  match (s.chan b ch).slots[slot.val]? with
  | none => .next s
  | some d =>
    if d.ph = .retrying then done s (s.reissue b ch slot.val d n)
    else match d.late[n]? with
    | none => .next s
    | some l =>
      let s1 := s.countRetry b ch
      let d1 := { d with late := dropAt d.late n }
      if s.chFrozen b ch then .next s
      else if !ok then done s (s1.accessFailed b ch slot.val d1 l)
      else if l.pos = posHeader || d.op = 6 then .next (s1.setDesc b ch slot.val d1)
      else if (s.descHeld d).isSome then .next s
      else if d.remote = 2 then done s ((s1.sendSpans b ch slot.val d1 [(l.pos, l.stop)]).getD s)
      else match s1.moveRuns d l.pos l.stop 0 (s.descRuns d) with
      | .blocked => .next s
      | .index s2 pos a => done s ((s2.countMoved b ch (pos - l.pos)).descFail b ch slot.val { d1 with late := d1.late ++ [{ l with pos := pos }] } 0x0D a 0)
      | .ok s2 => .next ((s2.countMoved b ch (l.stop - l.pos)).setDesc b ch slot.val d1)

/-- A paced channel reads its consumer counter again (R168); one whose cell is FREEZING or FROZEN stays suspended (R174). -/
def execPaceRecheck (b : BlockId) (ch : ChanId) (slot : Fin 4) (s : State) : Out := powered s <|
  match (s.chan b ch).slots[slot.val]? with
  | none => .next s
  | some d =>
    let stopped := s.chFrozen b ch || (s.cell (chanCell b ch)).st == .freezing
    .next (if d.ph = .paced && decide (s.fillLevel b ch ≤ (s.wmarkLow b ch : Int)) && !stopped then (s.setDesc b ch slot.val { d with ph := .moving }).wantGrant b ch else s)

/-! Stalls (R177) -/

/-- The stream of a head belongs to another channel (R184). -/
def State.headTaken (s : State) (b ch : Nat) (d : Desc) : Bool :=
  match s.headOf d with
  | some h => (s.sluice b).owners.any (fun o => o.1 == h && o.2 != ch)
  | none => false

/-- CHn_STATUS.WAIT (R177): what the channel's first begun descriptor waits for. -/
def State.waitCause (s : State) (b ch : Nat) : Nat :=
  let x := s.chan b ch
  match findIdx (fun d : Desc => d.ph != .issued) x.slots with
  | none => 0
  | some i => match x.slots[i]? with
    | none => 0
    | some d =>
      if d.ph == .retrying || !d.late.isEmpty then 4
      else if d.ph == .paced then 2
      else if x.wanting then 1
      else if d.op == 6 then (if s.headTaken b ch d then 6 else 3)
      else if x.orderBlocked i d then 5
      else if d.ph == .remote || s.descPending b ch d then 3
      else 7

/-- A channel is found to have moved nothing for 2^20 cycles (R177). -/
def execChannelStallDetect (b : BlockId) (ch : ChanId) (s : State) : Out := powered s <|
  let x := s.chan b ch
  if !x.slots.any (fun d => d.ph != .issued) then .next s
  else
    let s1 := s.setChan b ch { x with stalled := true }
    if !(s1.sluice b).stallRecorded.isEmpty then .next s1
    else
      let chs := (upTo 16).filter (fun c => (s1.chan b c).stalled)
      let cause := chs.foldl (fun a c => a + s1.waitCause b c * 2 ^ (3 * c)) 0
      let map := chs.foldl (fun a c => a + 2 ^ c) 0
      let s2 := (s1.wr (blockBase b + 0x30) (BitVec.ofNat 64 (map + cause * 2 ^ 16))).setSluice b { s1.sluice b with stallRecorded := chs }
      done s (s2.raise { code := evBlockStall, part := s.blockPart b, kind := 3, index := b, arg0 := map, arg1 := cause })

/-! ### The driver's registers (R168, R169, R171, R183, R188) -/

def execChStop (b : BlockId) (ch : ChanId) (s : State) : Out := powered s <| .next (s.stopStream b ch)

/-- CHn_CTRL.RESUME clears HALTED (R171). -/
def execChannelResume (b : BlockId) (ch : ChanId) (s : State) : Out := powered s <| .next (s.wb (chBase b ch + 8) 0 false)

/-- A write of CHn_DST_BASE (R169): a new run, or a rejection while one is in progress; with no armed stream the base is stored. -/
def execChDstBaseWrite (b : BlockId) (ch : ChanId) (v : Word64) (s : State) : Out := powered s <|
  let x := s.chan b ch
  .next (if x.slots.any Desc.persist then s.wb (chBase b ch + 8) 9 true
    else match x.armed with
    | none => s.wf (chBase b ch + 0x18) 56 0 (fld v 56 0)
    | some d => s.startRun b ch (d.withBases (some (s.rd (chBase b ch + 0x10))) (some (BitVec.ofNat 64 (fld v 56 0)))))

/-- A write of CHn_PACE resets P and samples C0 (R168). -/
def execChPaceWrite (b : BlockId) (ch : ChanId) (v : Word64) (s : State) : Out := powered s <|
  let s1 := (s.wf (chBase b ch + 0x20) 28 24 (fld v 28 24)).wf (chBase b ch + 0x20) 21 3 (fld v 21 3)
  let c0 := match s.ctrKey (s.blockPart b) (fld v 21 3 * 8) with
    | some k => (s.ctr k).value.toNat
    | none => 0
  .next (s1.setChan b ch { s1.chan b ch with paceP := 0, paceC0 := c0 })

/-- A write of SLUICE.CFG.SEG (R188). -/
def execSluiceSegWrite (b : BlockId) (v : Word64) (s : State) : Out := powered s <|
  .next (if fld v 1 0 = 3 then s else s.wf (blockBase b) 1 0 (fld v 1 0))

/-- A write of HR.CFGc (R183). -/
def execHrCfgWrite (c : CellId) (v : Word64) (s : State) : Out := powered s <|
  .next (if (s.cell c).headrace.isOpen || (bit v 2 && c.val % 48 == 47) then s.wb (hrBase c + hrSTATUS) 3 true
    else (((s.wf (hrBase c) 1 0 (fld v 1 0)).wb (hrBase c) 2 (bit v 2)).wf (hrBase c) 12 8 (fld v 12 8)).wf (hrBase c) 20 16 (fld v 20 16))

/-! ### The headrace (R184–R187) -/

/-- The next `n` bytes of a HEADRACE descriptor's source, from transfer position `d.moved`. -/
def State.streamBytes (s : State) (d : Desc) (n : Nat) : Option (List PByte × State) :=
  s.readSrc d (srcRuns (s.descRuns d) d.moved n)

/-- Items of the front stream only: up to its marker. -/
def oneStream : List HrItem → List HrItem
  | [] => []
  | i :: is => if i.byte.isNone then [i] else i :: oneStream is

/-- The head's buffer takes `n` more bytes from its injector: below HIGH, after a stop only at LOW or below, and not while the head is FROZEN (R184, R187). -/
def State.headTakes (s : State) (h n : Nat) : Bool :=
  let hr := (s.cell h).headrace
  !(hr.stopped && decide (s.hrLow h * 1024 < hr.level)) && hr.room n && (s.cell h).st != .frozen && decide (hr.level < s.hrHigh h * 1024)

/-- Place stream items into the head's buffer: the stream is the channel's until its marker (R184). -/
def State.placeItems (s : State) (b ch h : Nat) (is : List HrItem) : State :=
  let s1 := s.hrAccept h is
  let y := (s1.cell h).headrace
  let s2 := s1.setHr h { y with stopped := decide (s.hrHigh h * 1024 ≤ y.level) }
  let own := (s2.sluice b).owners.filter (fun o => o != (h, ch))
  let ended := match is.getLast? with
    | some i => i.byte.isNone
    | none => false
  s2.setSluice b { s2.sluice b with owners := if ended then own else own ++ [(h, ch)] }

/-- The next items, at most `n` bytes, of an ended stream whose poison and marker have not all been injected (R171). -/
def nextOwed (h n : Nat) (l : List (Nat × HrItem)) : List HrItem :=
  let is := oneStream ((l.takeWhile (fun x => x.1 == h)).map (fun x => x.2))
  is.take n ++ ((is.drop n).head?.toList.filter (fun i => i.byte.isNone))

/-- The injector places stream bytes into the head's buffer (R184): at most 1 KiB, under HIGH and LOW; the marker follows the last byte. What an ended stream of the channel
still owes goes first (R171). -/
def execHeadraceInject (b : BlockId) (ch : ChanId) (slot : Fin 4) (n : Nat) (s : State) : Out := powered s <|
  let x := s.chan b ch
  match x.owed with
  | (h, _) :: _ =>
    let is := nextOwed h (min n 1024) x.owed
    if is.isEmpty || (s.sluice b).owners.any (fun o => o.1 == h && o.2 != ch.val) || !s.headTakes h (is.filter (fun i => i.byte.isSome)).length then .next s
    else .next ((s.setChan b ch { x with owed := x.owed.drop is.length }).placeItems b ch h is)
  | [] => match x.slots[slot.val]? with
    | none => .next s
    | some d => match s.headOf d with
      | none => .next s
      | some h =>
        let t := totalOf (s.descRuns d)
        let k := min (min n 1024) (t - d.moved)
        let earlier := (x.slots.take slot.val).any (fun e => e.op == 6 && s.headOf e == some h)
        if d.ph ≠ .moving || d.op ≠ 6 || k = 0 || s.headTaken b ch d || earlier || !s.headTakes h k || !d.late.isEmpty || s.descBlocked b ch slot.val d then .next s
        else if let some w := s.descHeld d then .next (s.hold w (.desc b ch d.seq))
        else match (s.unhold (.desc b ch d.seq)).streamBytes d k with
        | none => .next s
        | some (bs, s1) =>
          let is := bs.map (fun x => ({ job := d.job, byte := some x } : HrItem)) ++ (if d.moved + k == t && d.close then [{ job := d.job, byte := none }] else [])
          .next (((s1.placeItems b ch h is).countMoved b ch k).setDesc b ch slot.val { d with moved := d.moved + k })

/-- Why the next cell refuses a stream (R187, R370): 1 ROLE, 2 job, 3 IDLE. -/
def State.hrRefusal (s : State) (c job : Nat) : Option Nat :=
  if s.hrRole c ≠ 2 then some 1 else if s.job c ≠ job then some 2 else if (s.cell c).st = .idle then some 3 else none

/-- What remains to be forwarded to a cell that refuses the stream counts as forwarded, up to the marker (R187). -/
def State.hrSkip (s : State) (c : Nat) : State :=
  let h := (s.cell c).headrace
  let is := oneStream (h.items.drop h.forwarded)
  let ended := match is.getLast? with
    | some i => i.byte.isNone
    | none => false
  (s.setHr c { h with forwarded := h.forwarded + is.length, refused := !ended }).hrTrim c

/-- Stream bytes are forwarded to the next cell of the chain (R185, R187). -/
def execHeadraceHop (c : CellId) (n : Nat) (s : State) : Out := powered s <|
  let h := (s.cell c).headrace
  let is := (oneStream (h.items.drop h.forwarded)).take n
  match is.head? with
  | none => .next s
  | some i =>
    if !s.hrFwd c || c.val % 48 = 47 then .next s
    else if h.refused then done s (s.hrSkip c)
    else match s.hrRefusal (c + 1) i.job with
    | some cause =>
      let s1 := (s.wb (hrBase c + hrSTATUS) 2 true).raise
        { code := evHeadraceBreak, part := s.cellPart c, job := i.job, kind := 3, index := cellBlock c, arg0 := cellPos c + (c + 1) * 2 ^ 12 + cause * 2 ^ 22 }
      done s (State.hrSkip (s1.setHr c { h with refused := true }) c)
    | none =>
      let bytes := (is.filter (fun x => x.byte.isSome)).length
      if !(s.cell (c + 1)).headrace.room bytes || (s.cell (c + 1)).st == .frozen then .next s
      else
        let s1 := s.hrAccept (c + 1) is
        .next ((s1.setHr c { (s1.cell c).headrace with forwarded := h.forwarded + is.length }).hrTrim c)

end Sys2Proof.Machine
end

