-- ==== Sys2Proof/Machine/Millrace.lean ====
section
/-! DEFINITION. The millrace (R126 to R130): MRED, its waits for a tile, for credit and for acceptance, and what a cell accepts. -/

namespace Sys2Proof.Machine

/-! ### Fields and registers -/

def mrNEXT : Nat := 0x880
def mrPREV : Nat := 0x888
def mrTIMEOUT : Nat := 0x890
def mrSTATUS : Nat := 0x898
def mrTX : Nat := 0x8A0
def mrRX : Nat := 0x8A8

def mrSet (w : Word128) : Nat := fld w 111 110
/-- ROLE: 0 FIRST, 1 MIDDLE, 2 LAST. -/
def mrRole (w : Word128) : Nat := fld w 109 108
def mrTag (w : Word128) : Nat := fld w 107 92
def mrInt (w : Word128) : Bool := bit w 91
def mrZero (w : Word128) : Bool := bit w 90

/-- What MR.NEXT or MR.PREV names. -/
structure Hop where
  valid : Bool
  remote : Bool
  coord : Nat
  cell : Nat
deriving DecidableEq, Repr

def hopOf (v : Word64) : Hop := { valid := bit v 63, remote := bit v 62, coord := fld v 48 32, cell := fld v 9 0 }
def State.mrNext (s : State) (c : Nat) : Hop := hopOf (s.rd (cellBase c + mrNEXT))
def State.mrPrev (s : State) (c : Nat) : Hop := hopOf (s.rd (cellBase c + mrPREV))

/-- Replace a begun array command. -/
def State.setArrX (s : State) (c j : Nat) (y : ArrX) : State := s.setCell c { s.cell c with xArray := setAt (s.cell c).xArray j y }

/-- The MRED of a cell that waits in a given way, and its place. -/
def Cell.mredIn (x : Cell) (w : ArrWait) : Option (Nat × ArrX) :=
  match findIdx (fun y => y.started && !y.finished && wcode y.cmd.word == cMRED && y.wait == w) x.xArray with
  | some j => (x.xArray[j]?).map (fun y => (j, y))
  | none => none

/-- An MRED ends with an error (R118). -/
def ArrX.mredErr (y : ArrX) (code tag : Nat) : ArrX := { y.end with wait := .none, tile := none, poisonAt := none, err := some (code, 0, tag) }

/-! ### The sum (R93, R126, R129) -/

/-- Elements of a tile with their poison. -/
def Tile.values (t : Tile) : List (Nat × Bool) :=
  (upTo 1024).map (fun i => ((t.elems.getD i 0).toNat, t.poison.contains (i / 8)))

/-- One element: the received tile is the left addend; integers wrap. -/
def mredElem (input isInt : Bool) (i : Nat) (t own : Nat × Bool) : TRes TV :=
  if isInt then
    let x := sext 32 t.1 + sext 32 own.1
    let pz := t.2 || own.2
    { val := { bits := if pz then 0 else intBits 32 x, pz := pz }, flags := if !pz && (x < -(2 ^ 31 : Int) || (2 ^ 31 : Int) ≤ x) then flIOV else 0 }
  else tOp input add32 (i / 32) (i % 32) { bits := t.1, pz := t.2 } { bits := own.1, pz := own.2 }

/-- The tile that elements make. -/
def tileOf (tag job : Nat) (es : List (Nat × Bool)) : Tile :=
  { tag := tag, job := job, elems := es.map (fun e => BitVec.ofNat 32 e.1), poison := (upTo 128).filter (fun p => ((es.drop (8 * p)).take 8).any (fun e => e.2)) }

/-- Zero the set after it has been read, if the command says so. -/
def State.mredZero (s : State) (c : Nat) (w : Word128) : State :=
  if mrZero w then s.writeSet c (mrSet w) (List.replicate 1024 (0, false)) else s

/-- A MIDDLE or LAST takes the oldest received tile, or waits for one (R127); a tile of another tag ends it with MR_TAG. R127 does not say whether such a tile leaves the receive
buffer: the model takes it out and discards it (log 36, DESIGN CHOICE). -/
def State.mredTake (s : State) (c : Nat) (y : ArrX) : State × ArrX :=
  match (s.cell c).rxTiles with
  | [] => (s, { y with wait := .tile })
  | t :: rest =>
    let s1 := s.setCell c { s.cell c with rxTiles := rest }
    let w := y.cmd.word
    if t.tag ≠ mrTag w then (s1, y.mredErr 0x0A t.tag)
    else
      let input := nbits y.nanCfg 1 1 == 1
      let rs := ((upTo 1024).zip (t.values.zip (s1.readSet c (mrSet w)))).map (fun (i, a, b) => mredElem input (mrInt w) i a b)
      let sum := tileOf t.tag (s1.job c) (rs.map (fun r => (r.val.bits, r.val.pz)))
      let s2 := s1.orFlags c afTAIL (rs.foldl (fun f r => f ||| r.flags) 0)
      let y1 := { y with
        origin := tOrigin false 0 ((rs.map TRes.origins).flatten)
        poisonAt := sum.poison.head?.map (fun p => ownAddr c (setOff (mrSet w) + 32 * p)) }
      if mrRole w = 2 then (s2.writeSet c (mrSet w) sum.values, { y1.end with wait := .none })
      else (s2.mredZero c w, { y1 with setFree := true, wait := .credit, tile := some sum })

/-- MRED (R127): its hops are checked as it begins (R118); FIRST reads its set, MIDDLE and LAST look for a tile. -/
def execMred (c : CellId) (ph : Phase) (s : State) : Out := powered s <|
  match ph with
  | .dispatch => done s (s.dispatch c cMRED)
  | .execute => done s (s.arrExec c cMRED
      (fun y s =>
        let w := y.cmd.word
        if mrRole w = 0 then
          let t := tileOf (mrTag w) (s.job c) (s.readSet c (mrSet w))
          (s.mredZero c w, { y with setFree := true, wait := .credit, tile := some t, poisonAt := s.poisonAddr c [(setOff (mrSet w), 4096)] })
        else s.mredTake c y)
      (fun y =>
        let r := mrRole y.cmd.word
        failsOf [((r != 2 && !(s.mrNext c).valid) || (r != 0 && !(s.mrPrev c).valid), (9, 0))]))

/-! ### Hops (R127 to R129) -/

/-- A tile reaches a cell's receive buffer; an MRED that waits for one takes it. -/
def State.tileIn (s : State) (d : Nat) (t : Tile) : State :=
  let s1 := (s.setCell d { s.cell d with rxTiles := (s.cell d).rxTiles ++ [t] }).bumpCell d mrRX 1
  match (s1.cell d).mredIn .tile with
  | some (j, y) =>
    let (s2, y1) := s1.mredTake d y
    (s2.setArrX d j y1).nanSee d y.cmd y.nanCfg y.origin y1.origin
  | none => s1

/-- Whether a cell accepts a tile from cell `src` at a coordinate under a job (R128, R129). -/
def State.tileOk (s : State) (d coord src job : Nat) : Bool :=
  let h := s.mrPrev d
  let x := s.cell d
  h.valid && h.cell == src && (if h.remote then h.coord == coord else coPackage coord == coPackage (s.coordOf (s.cellPart d)))
    && s.job d == job && x.st != .idle && x.st != .killing && x.st != .killed

/-- A tile is refused: the receiver counts it (R128). -/
def State.tileRefused (s : State) (d : Nat) : State := s.bump (cellBase d + mrSTATUS) 15 0 1

/-- The sender's MRED completes: the next hop has accepted its tile, or refused it (R127, R128). -/
def State.mredSent (s : State) (c : Nat) (ok : Bool) : State :=
  match (s.cell c).mredIn .accept with
  | none => s
  | some (j, y) => s.setArrX c j (if ok then { y.end with wait := .none, tile := none } else y.mredErr 0x0C 0)

/-- Whether a cell of this package is a hop's next cell. -/
def State.hopTo (s : State) (c d : Nat) : Bool :=
  let h := s.mrNext c
  h.valid && h.cell == d && (!h.remote || coPackage h.coord == coPackage (s.coordOf (s.cellPart c)))

/-- Free slots of a cell's receive buffer of two tiles, less the tiles on their way to it. -/
def State.tileRoom (s : State) (d : Nat) : Bool :=
  decide ((s.cell d).rxTiles.length + (s.cells.filter (fun e => (e.2.mredIn .accept).isSome && s.hopTo e.1 d)).length < 2)

/-- Whether the hop from a cell leads to a cell of its own package that it may reach and that is not lost. -/
def State.hopFails (s : State) (c : Nat) : Bool :=
  let h := s.mrNext c
  decide (576 ≤ h.cell) || s.cellPart h.cell != s.cellPart c || s.lostRegions.contains (cellRegion h.cell)

/-- A tile as it leaves a cell: from a lost region it goes with poison in every piece (R24). -/
def State.tileFrom (s : State) (c : Nat) (t : Tile) : Tile := if s.cellLost c then { t with poison := upTo 128 } else t

/-- A MILLRACE message (R253, R254). -/
def millraceMsg (c : Nat) (h : Hop) (t : Tile) (isInt : Bool) : LinkMsg :=
  let m : LinkMsg := { kind := mkMILLRACE, dst := h.coord, addr := h.cell, amount := t.tag + b2n isInt * 2 ^ 16, job := t.job, seq := c }
  m.withData (t.values.flatMap (fun e => (toBytes 4 e.1).map (fun b => (b, e.2))))

/-- The oldest tile of a killed MRED leaves once the next hop has a slot; nothing awaits it (R129, R375). -/
def State.sendOrphan (s : State) (c : Nat) (t : Tile) (isInt : Bool) : State :=
  let h := s.mrNext c
  let p := s.cellPart c
  let drop (s : State) : State := s.setCell c { s.cell c with orphans := (s.cell c).orphans.drop 1 }
  if h.remote then
    if coPackage h.coord == coPackage (s.coordOf p) && decide (h.cell < 576) && !s.tileRoom h.cell then s
    else match s.sendReq p (.nobody p (cellRegion c)) 0 none (millraceMsg c h (s.tileFrom c t) isInt) with
    | .sent s1 => (drop s1).bumpCell c mrTX 1
    | .held s1 => (drop s1).bumpCell c mrTX 1
    | .failed _ s1 => drop s1
  else if s.hopFails c then drop s
  else if !s.tileRoom h.cell then s
  else
    let s1 := (drop s).bumpCell c mrTX 1
    if s1.tileOk h.cell (s1.coordOf p) c t.job then s1.tileIn h.cell (s.tileFrom c t) else s1.tileRefused h.cell

/-- A slot frees at the next hop, and the waiting tile is sent (R127): over the millrace, or as a MILLRACE message where MR.NEXT has REMOTE set (R129, R254). -/
def execMillraceCredit (c : CellId) (s : State) : Out := powered s <|
  match (s.cell c).orphans with
  | (t, isInt) :: _ => done s (s.sendOrphan c t isInt)
  | [] => match (s.cell c).mredIn .credit with
  | none => .next s
  | some (j, y) =>
    let h := s.mrNext c
    let p := s.cellPart c
    let own := coPackage h.coord == coPackage (s.coordOf p)
    if h.remote then
      if own && decide (h.cell < 576) && !s.tileRoom h.cell then .next s
      else match y.tile with
      | none => .next s
      | some t =>
        match s.sendReq p (.mred c y.cmd.seq) 0 none (millraceMsg c h (s.tileFrom c t) (mrInt y.cmd.word)) with
        | .sent s1 => .next ((s1.setArrX c j { y with wait := .accept }).bumpCell c mrTX 1)
        | .held s1 => .next ((s1.setArrX c j { y with wait := .accept }).bumpCell c mrTX 1)
        | .failed _ s1 => .next (s1.setArrX c j (y.mredErr 0x0C 0))
    else if s.hopFails c then .next (s.setArrX c j (y.mredErr 0x0C 0))
    else if !s.tileRoom h.cell then .next s
    else .next ((s.setArrX c j { y with wait := .accept }).bumpCell c mrTX 1)

/-- A tile sent over the millrace arrives at the next cell (R128). -/
def execMillraceTileReceive (src dst : CellId) (s : State) : Out := powered s <|
  match (s.cell src).mredIn .accept with
  | none => .next s
  | some (_, y) =>
    match y.tile with
    | none => .next s
    | some t =>
      let h := s.mrNext src
      if h.remote || h.cell ≠ dst.val then .next s
      else if s.hopFails src then .next (s.mredSent src false)
      else if s.tileOk dst (s.coordOf (s.cellPart src)) src t.job then done s ((s.mredSent src true).tileIn dst (s.tileFrom src t))
      else .next ((s.mredSent src false).tileRefused dst)

/-- MR.TIMEOUT.MICROSECONDS; 0 waits without limit. -/
def State.mrLimit (s : State) (c : Nat) : Nat := s.rf (cellBase c + mrTIMEOUT) 19 0

/-- The wait for a tile exceeds MR.TIMEOUT (R127). -/
def execMredReceiveTimeout (c : CellId) (s : State) : Out := powered s <|
  match (s.cell c).mredIn .tile with
  | none => .next s
  | some (j, y) => .next (if s.mrLimit c = 0 then s else s.setArrX c j (y.mredErr 0x0B 0))

/-- The wait for credit exceeds MR.TIMEOUT, and the tile is withdrawn for good (R127). -/
def execMredCreditTimeout (c : CellId) (s : State) : Out := powered s <|
  match (s.cell c).mredIn .credit with
  | none => .next s
  | some (j, y) => .next (if s.mrLimit c = 0 then s else s.setArrX c j (y.mredErr 0x0B 0))

/-- A write of MR.NEXT or MR.PREV (R130); the tile of a killed MRED that still waits to be sent keeps its link (R129). -/
def execMrLinkWrite (c : CellId) (prev : Bool) (v : Word64) (s : State) : Out := powered s <|
  let x := s.cell c
  let busy := x.xArray.any (fun y => wcode y.cmd.word == cMRED) || !x.rxTiles.isEmpty || !x.orphans.isEmpty
  let a := cellBase c + (if prev then mrPREV else mrNEXT)
  .next (if busy then s.wb (cellBase c + 0x800) 3 true
    else s.wr a (BitVec.ofNat 64 (fld v 63 62 * 2 ^ 62 + fld v 48 32 * 2 ^ 32 + fld v 9 0)))

end Sys2Proof.Machine
end

