-- ==== Sys2Proof/Machine/Requests.lean ====
section
/-! DEFINITION. How a request ends: with its response, without one (R256, R257), or held and then refused (R307); route probes (R305, R306). -/

namespace Sys2Proof.Machine

/-- Remove an outstanding request. -/
def State.dropReq (s : State) (r : Req) : State := { s with reqs := s.reqs.filter (fun x => x != r) }

/-- The partition whose request it is. -/
def State.srcPart (s : State) : ReqSrc → Option Nat
  | .chan b _ _ => some (s.blockPart b)
  | .sigr c _ => some (s.cellPart c)
  | .mred c _ => some (s.cellPart c)
  | .pond p => some p
  | .toll p => some p
  | .probe p _ _ => some p
  | .nobody p _ => some p
  | .relay _ _ => none

/-! ### A descriptor's requests (R166, R170, R257) -/

/-- A data response is in. When every request made so far is answered, a descriptor that pacing stopped waits or goes on (R168). When all is done, a header is still to be written
(R180), or RCTR is signalled (R166): a SIGNAL of its own, whose link R304 chooses by its own ADDR and R258 orders with no other link's messages, so that it leaves once the peer has
performed every write; the acknowledgement that the source receives after it, and that completes the descriptor, is the SIGNAL's (log 54). -/
def State.afterData (s : State) (b ch i : Nat) (d : Desc) : State :=
  let pendingData := s.reqs.any (fun r => r.src == .chan b ch d.seq && decide (r.pos < posHeader))
  if pendingData then s
  else if d.moved ≠ totalOf (s.descRuns d) then
    (if d.ph = .remote && d.moved = d.sent then
      s.setDesc b ch i { d with ph := if s.fillLevel b ch < (s.wmarkHigh b ch : Int) then .moving else .paced }
    else s)
  else if d.writesHeader && !d.hdrDone then s.setDesc b ch i { d with ph := .stamping }
  else if d.rctrSent then s
  else (s.setDesc b ch i { d with rctrSent := true }).sendRctr (.chan b ch d.seq) d

/-- A descriptor's request is answered with OK. -/
def State.chanOk (s : State) (b ch i : Nat) (d : Desc) (r : Req) (m : LinkMsg) : State :=
  if posHeader ≤ r.pos then
    let s1 := s.dropReq r
    let last := !s1.descPending b ch d
    if r.kind = mkREAD then
      let hdr := d.hdr ++ [(r.pos - posHeader, m.bytes)]
      if last then s1.judgeHeader b ch i { d with hdr := [] } (((hdr.filter (fun x => x.1 == 0)) ++ hdr.filter (fun x => x.1 != 0)).flatMap (fun x => x.2))
      else s1.setDesc b ch i { d with hdr := hdr }
    else
      let d1 := { d with hdrDone := last }
      let s2 := s1.setDesc b ch i d1
      if last then s2.afterData b ch i d1 else s2
  else
    let put : Option State := if r.kind = mkREAD then s.writeDest d (dstAt (s.descRuns d) r.pos) m.bytes else some s
    match put with
    | none => s.readLost b ch i d r
    | some s1 =>
      let d1 := { d with moved := d.moved + r.amount }
      ((((s1.dropReq r).countMoved b ch r.amount).setDesc b ch i d1).freeSpace b ch d.seq (totalOf (s.descRuns d) - d1.moved)).afterData b ch i d1

/-- A descriptor's request ends. -/
def State.chanEnd (s : State) (b ch : Nat) (seq : Word64) (r : Req) (res : Option LinkMsg) : State :=
  match s.slotOf b ch seq with
  | none => s.dropReq r
  | some (i, d) =>
    if r.pos = posRctr then s.dropReq r
    else match res with
    | none => if r.kind = mkREAD then s.readLost b ch i d r else s.descFail b ch i d 0x08 r.addr 0
    | some m =>
      if m.status = stOK then s.chanOk b ch i d r m
      else s.descFail b ch i d (sendReason m.status) r.addr 0

/-! ### The toll's and the pond's requests (R380, R384 to R386) -/

/-- A copy's header has been acknowledged, or a return's last WRITE has (R382, R386). -/
def State.pondDone (s : State) (p : Nat) : State :=
  let x := (s.part p).pond
  let b := pondBaseReg p
  let s1 := (s.pondPut p { x with st := .idle, headerSent := false }).pondStatus p 0 1 0
  if x.st = .returning then
    s1.raise (partEvent p evPondReturned x.retGen x.step.toNat (s.rf (b + 0x60) 16 0))
  else s1.raise (partEvent p evPondDone ((s.rf (b + rUSTATUS) 63 32 + 2 ^ 32 - 1) % 2 ^ 32) x.step.toNat x.bytes)

/-- A WRITE of the pond unit ends (R384): RIGHTS or BUSY refuses it, a lost route or response loses the link. -/
def State.pondEnd (s : State) (p txid : Nat) (res : Option Nat) : State :=
  let x := (s.part p).pond
  if !x.awaiting.contains txid then s
  else
    let ret := x.st == .returning
    match res with
    | none => s.pondFail p 3 0x09
    | some st =>
      if st = stOK then
        let left := x.awaiting.filter (fun t => t != txid)
        let s1 := s.pondPut p { x with awaiting := left }
        if left.isEmpty && (ret || x.headerSent) then s1.pondDone p else s1
      else s.pondFail p 3 (if st = stNOROUTE then 0x09 else if ret then 0x0C else 0x08)

/-- A toll record has been acknowledged: the SIGNAL of 1 follows (R380). -/
def State.tollAcked (s : State) (p : Nat) (r : Req) (st : Option Nat) : State :=
  if r.kind = mkWRITE && st == some stOK then
    match s.sendReq p (.toll p) 0 none
        { kind := mkSIGNAL, dst := r.peer, addr := s.rf (tollBase p + 0x10) 21 3 * 8, amount := 1, job := s.rf (tollBase p) 15 0 } with
    | .sent s1 => s1
    | .held s1 => s1
    | .failed _ s1 => s1
  else s

/-! ### Held requests (R307) -/

/-- A request that waited at the egress leaves. -/
def State.heldSent (s : State) (src : ReqSrc) : State := match src with
  | .sigr c seq => s.setSyncPh c seq .ackWait
  | _ => s

/-- A request that waited at the egress ends as if answered. -/
def State.heldFailed (s : State) (src : ReqSrc) (pos txid addr st : Nat) : State := match src with
  | .chan b ch seq => match s.slotOf b ch seq with
    | none => s
    | some (i, d) => if pos = posRctr then s else s.descFail b ch i d (sendReason st) addr 0
  | .sigr c seq => s.endSync c seq (sigrStatus st)
  | .mred c _ => s.mredSent c false
  | .pond p => s.pondEnd p txid (some st)
  | _ => s

/-- Requests held for a destination leave by its route as it now stands, or end. -/
def State.releaseHeld (s : State) (p key : Nat) : State :=
  let hs := (s.route p key).held
  let s1 := s.setRoute p key { s.route p key with held := [] }
  forEach hs s1 (fun s (src, pos, m) =>
    match s.sendNumbered p src pos none m with
    | .sent s2 => s2.heldSent src
    | .held s2 => s2
    | .failed st s2 => s2.heldFailed src pos m.txid m.addr st)

/-! ### Route probes (R305, R306) -/

/-- The coordinate of a route key. -/
def State.keyCoord (s : State) (p key : Nat) : Nat :=
  let own := s.coordOf p
  if key < 16 then own - coMember own * 8 + key * 8 else own - coDest own * 8 + (key - 16) * 8

/-- Candidate relays of a destination, in order (R305): of member m, the other members in ascending (x − m) mod 16. -/
def State.candidates (s : State) (p key : Nat) : List Nat :=
  if key < 16 then
    ((upTo 15).map (fun i => (key + 1 + i) % 16)).filter (fun x => x != coMember (s.coordOf p) && !(s.relayLinks p x).isEmpty)
  else (s.altKeys p key).filter (fun x => x != key && !(s.relayLinks p x).isEmpty)

/-- A number's bits for a member or a level-2 destination in ARG0 (R370). -/
def keyArg (key : Nat) : Nat := if key < 16 then key else key - 16
def keyBits (key : Nat) : Nat := if key < 16 then 4 else 10

/-- ARG0 of ROUTE_DETOUR: the destination and its relays. -/
def detourArg (key : Nat) (rs : List Nat) : Nat :=
  ((upTo rs.length).zip rs).foldl (fun a x => a + keyArg x.2 * 2 ^ (keyBits key * (x.1 + 1))) (keyArg key)

/-- The probing of a route ends: its relay set is taken (R305). -/
def State.resolveRoute (s : State) (p key : Nat) : State :=
  let r := s.route p key
  if r.st ≠ .probing then s
  else
    let good := (r.probes.filter (fun x => match x.2 with
      | some st => st != stNOROUTE && st != stNOPART && st != stFEATURE
      | none => false)).map (fun x => x.1)
    let rs := good.take (if key < 16 then 4 else 2)
    let s0 := s.endReqs (fun q => match q.src with
      | .probe p' k' _ => p' == p && k' == key
      | _ => false)
    let s1 := s0.setRoute p key { r with st := if rs.isEmpty then .unreachable else .relay, relays := rs, probes := [] }
    let s2 := s1.raise (if rs.isEmpty then partEvent p evRouteLost (keyArg key) 0 0 else partEvent p evRouteDetour (detourArg key rs) 0 0)
    s2.releaseHeld p key

/-- Probe a route: one READ_REQ through every candidate at once (R305, R306); the relay concerned, if any, is dropped from the set. -/
def State.probeRoute (s : State) (p key : Nat) (gone : Option Nat) : State :=
  let cs := s.candidates p key
  let r := s.route p key
  let s1 := s.setRoute p key { r with st := .probing, relays := r.relays.filter (fun x => gone != some x), probes := cs.map (fun x => (x, none)) }
  let s2 := forEach cs s1 (fun s x =>
    match s.sendReq p (.probe p key x) 0 (some x) { kind := mkREAD, dst := s.keyCoord p key } with
    | .sent s1 => s1.bump (fabBase p + 0x38) 63 0 1
    | .held s1 => s1
    | .failed _ s1 => s1)
  if cs.isEmpty then s2.resolveRoute p key else s2

/-- A probe is answered; when every one is, the probing ends. -/
def State.probeAnswer (s : State) (p key relay : Nat) (st : Option Nat) : State :=
  let r := s.route p key
  if r.st ≠ .probing || st.isNone then s
  else
    let ps := r.probes.map (fun x => if x.1 = relay then (x.1, st) else x)
    let s1 := s.setRoute p key { r with probes := ps }
    if ps.all (fun x => x.2.isSome) then s1.resolveRoute p key else s1

/-- A relay has answered NO_ROUTE to a request of the partition: the route is probed again at once (R305). -/
def State.relayRefused (s : State) (r : Req) : State :=
  match s.srcPart r.src, r.via with
  | some p, .flume f =>
    let key := s.routeKey p r.peer
    let relay := (s.planOf f).map (fun e => s.routeKey p e.1)
    match r.src with
    | .probe _ _ _ => s
    | _ => if relay == some key || !(s.directLinks p key).isEmpty || (s.route p key).st == .probing then s else s.probeRoute p key relay
  | _, _ => s

/-! ### Ends of requests -/

/-- A request ends with a response, or without one (R256, R257). -/
def State.endReq (s : State) (r : Req) (res : Option LinkMsg) : State :=
  let st := res.map LinkMsg.status
  let s0 := if st == some stNOROUTE then (match s.srcPart r.src with
    | some p => s.countNoRoute p
    | none => s) else s
  let s0 := if res.isNone then { s0 with ended := s0.ended ++ [(r.txid, r.peer)] } else s0
  let s1 : State := match r.src with
    | .chan b ch seq => s0.chanEnd b ch seq r res
    | .sigr c seq => (s0.dropReq r).endSync c seq ((st.map sigrStatus).getD .unknown)
    | .mred c _ => (s0.dropReq r).mredSent c (st == some stOK)
    | .pond p => (s0.dropReq r).pondEnd p r.txid st
    | .toll p => (s0.dropReq r).tollAcked p r st
    | .probe p key relay => (s0.dropReq r).probeAnswer p key relay st
    | .relay _ _ => s0.dropReq r
    | .nobody _ _ => s0.dropReq r
  if st == some stNOROUTE then s1.relayRefused r else s1

/-- A request has had no response for 100 µs (R257). -/
def execRequestTimeout (txid : Nat) (s : State) : Out := powered s <|
  match s.reqs.find? (fun r => r.txid == txid && !r.retry) with
  | none => .next s
  | some r => done s (s.endReq r none)

/-- Every request that awaits a response on a link ends (R257, R282, R292). -/
def State.endLinkReqs (s : State) (f : Nat) : State :=
  forEach (s.reqs.filter (fun r => r.via == .flume f && !r.retry)) s (fun s r => if s.reqs.contains r then s.endReq r none else s)

end Sys2Proof.Machine
end

