-- ==== Sys2Proof/Machine/Kill.lean ====
section
/-! DEFINITION. The kill form of a cell (R78, R373 to R375): its array, vector engine, stores, channels, class 0x4 commands and millrace. -/

namespace Sys2Proof.Machine

/-! ### The array and the millrace (R129, R373) -/

/-- Poison every piece of runs of a cell's own store and sets. -/
def State.poisonRuns (s : State) (c : Nat) (runs : List (Nat × Nat)) : State :=
  forEach runs s (fun s (off, n) =>
    if n = 0 || decide (0x40_4000 < off + n) then s else forEach (touched off n 32) s (fun s i => s.setPoison (cellKey c (32 * i)) true))

/-- What a DRAIN writes (R120 to R123): rows, scales and statistics. -/
def Drain.writes (g : Drain) : List (Nat × Nat) :=
  (upTo 32).map (fun i => (dADDR g.d + i * dSTRIDE g.d, 4 * fmtBits g.fmt))
    ++ (if g.mx then (upTo 32).map (fun i => (dSCALE g.d + i * dSSTRIDE g.d, 1)) else [])
    ++ (if g.stats != 0 then [(pSTATS g.p, g.recordBytes)] else [])

/-- What a begun array command has not written when its cell is killed. -/
def State.arrUnwritten (s : State) (c : Nat) (y : ArrX) : List (Nat × Nat) :=
  let w := y.cmd.word
  let code := wcode w
  let set := [(setOff (fld w 111 110), 4096)]
  if y.finished then []
  else if code = cMMA then (let m := s.mmaOf c y.cmd; if y.started || (m.opFails m.a false ++ m.opFails m.b true).isEmpty then set else [])
  else if code = cAFILL then set
  else if code = cASCALE then set
  else if code = cDRAIN then (let g := s.drainOf c w; if g.fails.isEmpty then g.writes else [])
  else if code = cMRED then (if mrRole w = 2 then set else [])
  else []

/-- The tile that a killed MRED still owes its next hop (R129): every piece of it is poisoned. A tile that already left in a message stays as it is. -/
def State.owedTile (s : State) (c : Nat) (y : ArrX) : List (Tile × Bool) :=
  let w := y.cmd.word
  if wcode w ≠ cMRED || y.finished || mrRole w = 2 || !(s.mrNext c).valid || (y.wait = .accept && (s.mrNext c).remote) then []
  else [({ tag := mrTag w, job := s.job c, elems := List.replicate 1024 0, poison := upTo 128 }, mrInt w)]

/-- The array's begun commands end, its queue is discarded. -/
def State.killArray (s : State) (c : Nat) : State :=
  let ys := (s.cell c).xArray
  let s1 := forEach ys s (fun s y => s.poisonRuns c (s.arrUnwritten c y))
  let x := s1.cell c
  s1.setCell c { x with xArray := [], qArray := [], orphans := x.orphans ++ (ys.map (s.owedTile c)).flatten }

/-! ### The vector engine (R145, R373) -/

/-- The element of its output from which a begun vector command has written nothing yet: what is in flight, and what has not issued (R131). -/
def VecX.unwritten (y : VecX) : Nat :=
  match y.flight with
  | some f => f.first
  | none =>
    if wcode y.cmd.word = cVCOMP then y.count
    else if wcode y.cmd.word = cVRED then y.span.1 / (fld y.cmd.word 98 86 + 1)
    else y.span.1

/-- What a begun vector command has still to write to the cell store. -/
def State.vecWrites (s : State) (c : Nat) (y : VecX) : List (Nat × Nat) :=
  let q := y.cmd
  let w := q.word
  let code := wcode w
  let dst := (q.ops.getD 1 0).toNat
  let rest (base width n : Nat) : List (Nat × Nat) := if y.unwritten < n then [elemRun base width y.unwritten n] else []
  if code = cVPROG then
    let o := strmO q
    if o.en && (y.started || (s.vprogFails c q).isEmpty) then rest o.base.toNat (fmtBits o.fmt) (fld w 108 96 + 1) else []
  else if code = cVMST then (if !y.started && (addrFails (q.ops.getD 0 0) 1024 128).isEmpty then [((q.ops.getD 0 0).toNat, 1024)] else [])
  else if code = cVCOMP || code = cVEXPD then
    let n := fld w 111 99 + 1
    let k := y.count + ((upTo n).filter (fun i => decide (y.span.1 ≤ i) && bit ((s.cell c).mask (fld w 84 82)) i)).length
    if y.started || (compFails q).isEmpty then rest dst (fmtBits (fld w 88 85)) (if code = cVCOMP then k else n) else []
  else if code = cVRED then
    let n := fld w 111 99 + 1
    let g := fld w 98 86 + 1
    if y.started || (strmFails (q.ops.getD 0 0) (fld w 80 77) n ++ strmFails (q.ops.getD 1 0) 0 ((n + g - 1) / g)).isEmpty then rest dst 32 ((n + g - 1) / g) else []
  else []

/-- The vector engine's commands end with their unwritten output poisoned; they and every queued one deliver zero (R145). -/
def State.killVector (s : State) (c : Nat) : State :=
  let x := s.cell c
  let s1 := forEach x.xVector s (fun s y => (if y.err.isSome then s else s.poisonRuns c (s.vecWrites c y)).vecDeliver c y.cmd 0)
  let s2 := forEach x.qVector s1 (fun s q => s.vecDeliver c q 0)
  s2.setCell c { s2.cell c with xVector := [], qVector := [] }

/-! ### Class 0x4 commands (R78, R207, R213) -/

/-- Withdrawn WAITs and SHUTs deliver no status (R200); a waiting SHUT breaks its line; a queued command's register receives zero (R78). -/
def State.killSync (s : State) (c : Nat) : State :=
  let x := s.cell c
  let p := s.cellPart c
  let shuts := x.xSync.filter (fun y => y.ph == .shutWait)
  let s1 := forEach x.xSync s (fun s y => s.unpark c y)
  let s2 := forEach x.qSync s1 (fun s q => s.setSreg c (delivReg q.word) 0)
  let s3 := s2.setCell c { s2.cell c with xSync := [], qSync := [] }
  let s4 := { s3 with reqs := s3.reqs.map (fun r => match r.src with
    | .sigr c' _ => if c' = c then { r with src := .nobody p (cellRegion c) } else r
    | _ => r) }
  forEach shuts s4 (fun s y => s.breakLine p (syLine y.cmd.word) 1 c)

/-! ### The core (R52, R373) -/

/-- Outstanding stores are poisoned, and one performed at CELL scope stays as written (R52). -/
def State.killCore (s : State) (c : Nat) : State :=
  let x := s.cell c
  let s1 := forEach x.sts s (fun s t => if t.atCell then s.storeMem c t else s.killStore c t)
  let hop := (x.hopper.map (fun e => (e.1, if e.2.status = .pending then { e.2 with status := .unloaded } else e.2))).filter (fun e => e.2 != {})
  s1.setCell c { s1.cell c with sts := [], stWait := none, ld := none, fetches := [], fences := [], endReq := none, hopper := hop }

/-! ### Channels (R171, R174, R373) -/

/-- The kill form of one descriptor (CHn_FAIL_ADDR: its first byte in transfer order that is not written): a begun one fails with KILLED, or with OUTCOME_UNKNOWN while remote writes are in flight; one not yet begun fails alike if its
begin-time checks pass, and leaves its slot otherwise. -/
def State.killDesc (s : State) (b ch : Nat) (d0 : Desc) : State :=
  match findIdx (fun d : Desc => d == d0) (s.chan b ch).slots with
  | none => s
  | some i =>
    let rs := s.descRuns d0
    if d0.ph = .issued && (s.beginFail d0).isSome then s.leaveSlot b ch i d0
    else
      let flying := d0.remote == 2 && s.reqs.any (fun r => r.src == .chan b ch d0.seq && decide (r.pos < posRctr))
      let first := ((s.openSpans b ch d0 (totalOf rs)).filter (fun x => decide (x.1 < x.2))).foldl (fun a x => min a x.1) (totalOf rs)
      s.descFail b ch i d0 (if flying then 0x08 else 0x0E) ((if first < totalOf rs then dstAt rs first else d0.dst) % 2 ^ 57) 0

/-- Every channel of the cell stops (R174). -/
def State.killChannels (s : State) (c : Nat) : State :=
  let b := cellBlock c
  let s1 := forEach [0, 1, 2, 3] s (fun s j =>
    let ch := cellChan c j
    let s1 := s.wb (chBase b ch + 8) 8 true
    let s2 := forEach (s1.chan b ch).slots s1 (fun s d => s.killDesc b ch d)
    (s2.setChan b ch { s2.chan b ch with armed := none, disarming := false, wanting := false, segs := [], slots := [] }))
  s1.setCell c { s1.cell c with xSluice := [], qSluice := [] }

/-- The registers of a cell that count cycles: no command carries a cycle, so what they hold is a free value (log 2). -/
def cycleRegs : List Nat := [0xA0, 0xA8, 0x818, 0x820, 0xC18]

/-- The cycle counters of a cell freeze at what they hold (R78, R374). -/
def State.freezeCycles (s : State) (c : Nat) : State :=
  forEach cycleRegs s (fun s o => let (v, s1) := s.fresh; s1.wr (cellBase c + o) v)

/-- KILLING is entered (R76, R78): everything begun ends at once, everything queued is discarded, and the registers of R78 and R374 freeze. -/
def State.killCell (s : State) (c : Nat) : State :=
  let s0 := (s.freezeCycles c).dropLaunchWait c
  let s1 := s0.setCell c { s0.cell c with st := .killing, frozenCtrs := true }
  (((((s1.killCore c).killArray c).killVector c).killSync c).killChannels c).hrTrim c

/-- A write of CELL.CTRL.KILL (R76). -/
def execCellKill (c : CellId) (s : State) : Out := powered s <|
  done s (match (s.cell c).st with
  | .idle | .killing | .killed => s.cmdReject c
  | _ => s.killCell c)

/-- KILLING becomes KILLED when every executing command has ended (R76, R375). -/
def execKillComplete (c : CellId) (s : State) : Out := powered s <|
  .next (if (s.cell c).st = .killing && !s.executing c then (s.setCell c { s.cell c with st := .killed }).failSettle (s.cellPart c) else s)

end Sys2Proof.Machine
end

