-- ==== Sys2Proof/Machine/Wire.lean ====
section
/-! DEFINITION. The wire form of link messages (R253 to R255) and of flit headers (R276), in slots of 64 bytes. -/

namespace Sys2Proof.Machine

/-! ### Messages in slots (R253, R255) -/

/-- The header slot of a message (R253). -/
def LinkMsg.headSlot (m : LinkMsg) : BitVec 512 :=
  let flags := m.vc % 4 + 4 * b2n m.pmapValid + 8 * b2n m.reserved + 16 * (m.fmt % 16)
  let pm := m.pmap.foldl (fun a i => a ||| 2 ^ (i % 128)) 0
  BitVec.ofNat 512 (ofBytes (toBytes 1 m.kind ++ toBytes 1 flags ++ toBytes 2 m.len ++ toBytes 2 m.job ++ toBytes 2 m.status ++ toBytes 4 m.src
    ++ toBytes 4 m.dst ++ toBytes 8 m.addr ++ toBytes 8 m.txid ++ toBytes 8 m.amount ++ toBytes 8 m.seq ++ toBytes 16 pm))

/-- Where the data area's first byte lies in its first piece (R255). -/
def LinkMsg.dataOff (m : LinkMsg) : Nat := if m.kind = mkMILLRACE then 0 else m.addr % 32

/-- Bytes as slots of 64. -/
def slotsOf : Nat → List Byte → List (BitVec 512)
  | 0, _ => []
  | n + 1, bs => BitVec.ofNat 512 (ofBytes (bs.take 64)) :: slotsOf n (bs.drop 64)

/-- A message as it crosses a link: its header and its padded data area. -/
def LinkMsg.toSlots (m : LinkMsg) : List (BitVec 512) :=
  m.headSlot :: slotsOf (m.slots - 1) (List.replicate m.dataOff 0 ++ m.data)

/-- The header of a message as its first slot spells it; a set reserved flag and bits [31:17] of SRC or DST are reserved fields. -/
def headerOf (x : BitVec 512) : LinkMsg :=
  let at8 (o n : Nat) : Nat := fld x (8 * (o + n) - 1) (8 * o)
  let flags := at8 1 1
  { kind := at8 0 1, vc := flags % 4, pmapValid := nbits flags 2 2 == 1,
    reserved := nbits flags 3 3 == 1 || nbits (at8 8 4) 31 17 != 0 || nbits (at8 0xC 4) 31 17 != 0,
    fmt := flags / 16, len := at8 2 2, job := at8 4 2, status := at8 6 2, src := at8 8 4 % 2 ^ 17, dst := at8 0xC 4 % 2 ^ 17,
    addr := at8 0x10 8, txid := at8 0x18 8, amount := at8 0x20 8, seq := at8 0x28 8,
    pmap := (upTo 128).filter (fun i => bit x (384 + i)) }

/-- The data that slots after a header carry. -/
def LinkMsg.fill (m : LinkMsg) (body : List (BitVec 512)) : LinkMsg :=
  let bs := (body.map (fun x => toBytes 64 x.toNat)).flatten
  { m with data := (bs.drop m.dataOff).take (if m.kind = mkMILLRACE then 4096 else m.len) }

/-- The messages that a stream of slots completes, and the slots left over (R277); an unused slot is skipped (R254). -/
def parseSlots : Nat → List (BitVec 512) → List LinkMsg × List (BitVec 512)
  | 0, xs => ([], xs)
  | _ + 1, [] => ([], [])
  | fuel + 1, x :: rest =>
    let m := headerOf x
    if m.kind = 0 then parseSlots fuel rest
    else if rest.length < m.slots - 1 then ([], x :: rest)
    else
      let (ms, left) := parseSlots fuel (rest.drop (m.slots - 1))
      (m.fill (rest.take (m.slots - 1)) :: ms, left)

/-! ### Flit headers (R276) -/

def ftIDLE : Nat := 0
def ftDATA : Nat := 1
def ftCTRL : Nat := 2
def ftDRESSING : Nat := 3

def fType (h : Word64) : Nat := fld h 63 60
def fSeq (h : Word64) : Nat := fld h 59 48
def fAck (h : Word64) : Nat := fld h 47 36
def fNak (h : Word64) : Bool := bit h 35
def fAdm (h : Word64) : Bool := bit h 34
def fEpoch (h : Word64) : Nat := fld h 33 27
def fCr0 (h : Word64) : Nat := fld h 26 18
def fCr1 (h : Word64) : Nat := fld h 17 9
def fCr2 (h : Word64) : Nat := fld h 8 0

/-- A flit header from its fields. -/
def mkHeader (type seq ack : Nat) (nak adm : Bool) (epoch cr0 cr1 cr2 : Nat) : Word64 :=
  BitVec.ofNat 64 (type % 16 * 2 ^ 60 + seq % 4096 * 2 ^ 48 + ack % 4096 * 2 ^ 36 + b2n nak * 2 ^ 35 + b2n adm * 2 ^ 34 + epoch % 128 * 2 ^ 27
    + cr0 % 512 * 2 ^ 18 + cr1 % 512 * 2 ^ 9 + cr2 % 512)

end Sys2Proof.Machine
end

