-- ==== Sys2Proof/Machine/LinkOps.lean ====
section
/-! DEFINITION. Flume links: what a change of state does (R280, R282, R284, R291), discovery's judgement (R301), the fabric state (R302) and what routes do when a
link comes or goes (R305). -/

namespace Sys2Proof.Machine

/-! ### Windows and rates

The spec's sliding windows are measured on a clock that no command carries: how many of the occurrences counted before still lie in the window is a free value, and so is
whether a rate limit has passed (log 23). -/

/-- The count in a sliding window after one more occurrence, `old` having been counted before. -/
def State.windowed (s : State) (old : Nat) : Nat × State :=
  let (v, s1) := s.fresh
  (v.toNat % (old + 1) + 1, s1)

/-- Whether a rate-limited event is raised now: the first always, a later one as the time since decides. -/
def State.rateOk (s : State) (before : Bool) : Bool × State :=
  if before then
    let (v, s1) := s.fresh
    (bit v 0, s1)
  else (true, s)

/-- A reading of the always-on microsecond counter, bits [31:0] (R290, R368). -/
def State.clock32 (s : State) : Nat × State :=
  let (v, s1) := s.fresh
  (fld v 31 0, s1)

/-! ### Registers and events of a link -/

def flREPLAYS : Nat := 0x38
def flRETRAINS : Nat := 0x40

def linkEvent (s : State) (f code a0 a1 a2 : Nat) : Event :=
  { code := code, part := s.linkPart f, kind := 6, index := f, arg0 := a0, arg1 := a1, arg2 := a2 }

/-- FL.STATUS.REASON (R293). -/
def State.linkReason (s : State) (f r : Nat) : State := s.wf (flRegs f) 23 16 r
/-- FL.STATUS.WIDTH. -/
def State.linkWidth (s : State) (f w : Nat) : State := s.wf (flRegs f) 10 8 w
/-- FL.STATUS.CMD_REJECT. -/
def State.linkReject (s : State) (f : Nat) : State := s.wb (flRegs f) 11 true

/-- A link may be trained: a coordinate is held, the image does not mark it unused, and at level 2 the committed plan names a peer (R295, R298, R300). -/
def State.trainable (s : State) (f : Nat) : Bool :=
  s.module.coord.isSome && !s.flumeUnused f && !s.lostRegions.contains (f / 8) && (linkLevel f == 1 || (s.planOf f).isSome)

/-! ### The fabric state (R302) -/

/-- The planned level-1 links of a partition, with the peer's member number. -/
def State.planned1 (s : State) (p : Nat) : List (Nat × Nat) :=
  (s.partLinks p).filterMap (fun f => (s.plan1 f).map (fun e => (f, coMember e.1)))

/-- The planned level-1 members of a partition. -/
def State.plannedMembers (s : State) (p : Nat) : List Nat := (upTo 16).filter (fun m => (s.planned1 p).any (fun e => e.2 == m))

/-- A planned member is present when at least MIN_LINKS of its links are MATCHED. -/
def State.memberPresent (s : State) (p m : Nat) : Bool :=
  decide (s.minLinks ≤ ((s.planned1 p).filter (fun e => e.2 == m && s.outcome e.1 == .matched)).length)

/-- The map of missing members. -/
def State.missingMap (s : State) (p : Nat) : Nat :=
  (((s.plannedMembers p).filter (fun m => !s.memberPresent p m)).map (fun m => 2 ^ m)).sum

def State.presentCount (s : State) (p : Nat) : Nat := ((s.plannedMembers p).filter (s.memberPresent p)).length

def State.policyMet (s : State) (p : Nat) : Bool := s.degradeOk && decide (s.minPeers ≤ s.presentCount p)

/-- Every planned level-1 link is MATCHED. -/
def State.allMatched (s : State) (p : Nat) : Bool := (s.planned1 p).all (fun e => s.outcome e.1 == .matched)

/-- The state that the fabric table gives after an outcome change, or at the end of the window. -/
def State.fabNext (s : State) (p : Nat) (windowEnd : Bool) : FabState :=
  match (s.fabric p).st with
  | .noCoord => .noCoord
  | .discovering =>
    if s.allMatched p then .complete
    else if windowEnd then (if s.policyMet p then .degraded else .joinWait) else .discovering
  | .joinWait => if s.allMatched p then .complete else if s.policyMet p then .degraded else .joinWait
  | .complete => if s.allMatched p then .complete else .degraded
  | .degraded => if s.allMatched p then .complete else .degraded

/-- The fabric of a partition is evaluated: entry to JOIN_WAIT sets its alert bit (R429), and MISSING_NEIGHBOUR is raised at the evaluation that leads to DEGRADED or JOIN_WAIT, and when a member joins the map. -/
def State.fabEval (s : State) (p : Nat) (windowEnd : Bool) : State :=
  let x := s.fabric p
  let goal := s.fabNext p windowEnd
  let map := s.missingMap p
  let leads := goal != x.st && (goal == .degraded || goal == .joinWait)
  let joins := (goal == .degraded || goal == .joinWait) && map &&& x.missing != map
  let s0 := s.setFabric p { x with st := goal, missing := map }
  let s1 := if goal == .joinWait && x.st != .joinWait then s0.alertSet 4 else s0
  if leads || joins then s1.raise (partEvent p evMissingNeighbour map 0 0) else s1

/-! ### Routes when links come and go (R305) -/

/-- A direct link carries requests again: the route returns to DIRECT, and what was held leaves. -/
def State.routeUp (s : State) (p key : Nat) : State :=
  let s1 := s.endReqs (fun q => match q.src with
    | .probe p' k' _ => p' == p && k' == key
    | _ => false)
  (s1.setRoute p key { s1.route p key with st := .direct, relays := [], probes := [] }).releaseHeld p key

/-- The routes of the destination that a link serves, when it has become ACTIVE and MATCHED. -/
def State.linkServes (s : State) (f : Nat) : State :=
  match s.planOf f with
  | none => s
  | some (c, _) =>
    let p := s.linkPart f
    let key := s.routeKey p c
    if (s.directLinks p key).contains f then s.routeUp p key else s

/-- A link has left ACTIVE: when it was the last direct link of its destination, that destination's route is probed, and so are the routes that relay through it. -/
def State.routesLost (s : State) (f : Nat) : State :=
  match s.planOf f with
  | none => s
  | some (c, _) =>
    let p := s.linkPart f
    let key := s.routeKey p c
    if !(s.directLinks p key).isEmpty then s
    else
      let e := s.l2Entry p (key - 16)
      let served := if key < 16 then linkLevel f == 1 else linkLevel f == 2 && bit e 63 && bit e (25 + ord2 f)
      let s1 := if served then s.probeRoute p key none else s
      forEach ((s1.fabric p).routes.filter (fun r => r.1 != key && r.2.st == .relay && r.2.relays.contains key)) s1
        (fun s r => s.probeRoute p r.1 (some key))

/-! ### Leaving ACTIVE for good, and changes of state (R280, R282, R284) -/

/-- A link leaves ACTIVE without resuming: its requests end (R257), its replay buffer and unsent messages are gone, and a MATCHED outcome becomes WAITING (R301). -/
def State.linkLost (s : State) (f : Nat) : State :=
  let x := s.link f
  let s1 := s.setLink f { x with txMsgs := [], txSlots := [], unacked := [], replay := 0, rxSlots := [], resuming := false, saved := none }
  let s2 := if s1.outcome f = .matched then s1.setOutcome f .waiting else s1
  (s2.endLinkReqs f).fabEval (s2.linkPart f) false

/-- Whether a link's SEQ numbering and replay buffer live on in a state: ACTIVE, and a retrain that may resume (R282). -/
def resumable : LinkState → Bool
  | .active | .retraining | .keying => true
  | _ => false

/-- A link changes its state. The keys are destroyed on leaving IDENTIFIED or ACTIVE for any state but RETRAINING (R284); a link that had been ACTIVE and
cannot resume is lost (R282), and every departure from ACTIVE is told to the routes (R305). -/
def State.linkGo (s : State) (f : Nat) (goal : LinkState) : State :=
  let x := s.link f
  let active := x.st == .active
  let up := active || x.st == .identified
  let stays := goal == .identified || goal == .active || goal == .retraining
  let carrying := s.carries f
  let lost := (active || x.resuming) && !resumable goal
  let y := { x with
    st := goal, keys := if up && !stays then false else x.keys,
    txKey := if up && !stays then 0 else x.txKey, rxKey := if up && !stays then 0 else x.rxKey,
    txSalt := if up && !stays then 0 else x.txSalt, rxSalt := if up && !stays then 0 else x.rxSalt,
    keyTx := 0, ephemeral := 0,
    resuming := (goal == .retraining && (active || x.resuming)) || (goal == .keying && x.resuming),
    keyRecs := 0, holdIdle := false, peer := if up && !stays then none else x.peer, gap := false, nakDue := false }
  let s1 := s.setLink f y
  let s2 := if up && !stays then s1.wb (flRegs f + 0x10) 63 false else s1
  let s3 := match goal with
    | .down | .training | .fenced | .disabled => s2.linkWidth f 0
    | _ => s2
  let s4 := if lost then s3.linkLost f else s3
  if carrying && goal != .active then s4.routesLost f else s4

/-- A link enters FENCED (R280, R291). -/
def State.fence (s : State) (f reason : Nat) : State :=
  ((s.linkReason f reason).linkGo f .fenced).raise (linkEvent s f evFlumeFenced 0 0 0)

/-- A link in IDENTIFIED or ACTIVE enters RETRAINING; the fourth retrain in 60 s fences it (R280, R291). -/
def State.retrain (s : State) (f : Nat) : State :=
  let x := s.link f
  if x.st ≠ .identified && x.st ≠ .active then s
  else
    let (n, s1) := s.windowed x.retrain60s
    let s2 := s1.setLink f { s1.link f with retrain60s := n }
    let s3 := ((s2.bump (flRegs f + flRETRAINS) 31 0 1).linkGo f .retraining).raise (linkEvent s f evFlumeRetrain 0 0 0)
    if 4 ≤ n then s3.fence f 5 else s3

/-- A link in one of the states 1 to 6 can be fenced by a threshold (R280). -/
def fenceable : LinkState → Bool
  | .training | .negotiating | .keying | .identified | .active | .retraining => true
  | _ => false

/-- A violation on a link (R289 to R291): counted, logged, told at most once per second, and weighed against the thresholds. -/
def State.violation (s : State) (f code kind vc : Nat) : State :=
  let (t, s1) := s.clock32
  let (n, s2) := s1.windowed (s1.link f).viol1s
  let (tell, s3) := s2.rateOk (s2.link f).violEvent
  let x := s3.link f
  let s4 := (s3.setLink f { x with viol1s := n, violEvent := true, viols := ((t, kind, vc, code) :: x.viols).take 16 }).bump (flRegs f + 0x48) 31 0 1
  let s5 := if tell then s4.raise (linkEvent s f evLinkViolation (f + code * 256) 0 0) else s4
  if 64 ≤ n && fenceable x.st then s5.fence f 4
  else if n = 16 then s5.retrain f
  else s5

/-- A flit with an uncorrectable codeword (R279, R291). -/
def State.uncorrectable (s : State) (f : Nat) : State :=
  let (n, s1) := s.windowed (s.link f).uncorr1s
  let s2 := (s1.setLink f { s1.link f with uncorr1s := n }).bump (flRegs f + 0x28) 63 0 1
  if n = 64 then s2.retrain f else s2

/-! ### Keying (R284, R285) and discovery (R301) -/

/-- A keying fails: the link holds electrical idle, or is fenced at the third failure in a row. -/
def State.keyFail (s : State) (f : Nat) : State :=
  let x := s.link f
  let s1 := s.setLink f { x with keyFails := x.keyFails + 1, holdIdle := true, keyRecs := 0, keyTx := 0 }
  if 3 ≤ x.keyFails + 1 then s1.fence f 3 else s1

/-- A link enters KEYING; the generator may refuse the HELLO random (R285, R395). The CTRL flits of a keying that may resume have a numbering of their own (log 40). -/
def State.enterKeying (s : State) (f : Nat) : State :=
  let s1 := s.linkGo f .keying
  let x := s1.link f
  let s2 := if x.resuming && x.saved.isNone then
      s1.setLink f { x with saved := some (x.unacked, x.txSeq, x.rxNext, x.lastAck), unacked := [], replay := 0, txSeq := 0, rxNext := 0, lastAck := 4095 }
    else s1
  if s2.module.trngFault then s2.keyFail f
  else
    let (r, s3) := s2.freshKey
    s3.setLink f { s3.link f with random := r }

/-- Write an outcome; its event is raised once for each change (R301). -/
def State.judged (s : State) (f : Nat) (o : LinkOutcome) (code : Option Nat) (peer : Nat) : State :=
  let old := s.outcome f
  let s1 := s.setOutcome f o
  let planned := ((s.planOf f).map (fun e => e.1)).getD 0
  match code with
  | some k => if old = o then s1 else s1.raise (linkEvent s f k f planned peer)
  | none => s1

/-- A link has reached IDENTIFIED: the miller compares its peer with the plan (R301). -/
def State.judge (s : State) (f : Nat) : State :=
  let p := s.linkPart f
  match (s.link f).peer with
  | none => s
  | some q =>
    let twin := (upTo 96).any (fun g => g != f && s.outcome g == .matched && (match (s.link g).peer with
      | some r => r.coord == q.coord && r.link == q.link
      | none => false))
    if q.coord = s.coordOf p then (s.judged f .miswired (some evCoordConflict) q.coord).fabEval p false
    else match s.planOf f with
    | none => (s.judged f .unexpected (some evUnexpectedNeighbour) q.coord).fabEval p false
    | some (c, l) =>
      if c ≠ q.coord || l ≠ q.link || twin then (s.judged f .miswired (some evMiswiredLink) q.coord).fabEval p false
      else (((s.judged f .matched none q.coord).linkGo f .active).fabEval p false).linkServes f

/-- The sequence number up to which the peer has acknowledged. -/
def Link.ackedTo (l : Link) : Nat := match l.unacked with
  | (q, _) :: _ => (q + 4095) % 4096
  | [] => (l.txSeq + 4095) % 4096

/-- Whether the own records come first in the transcript: those of the end with the lower (plane, group, member, link) (R284). -/
def State.ownFirst (s : State) (f : Nat) : Bool :=
  let own := coPackage (s.coordOf (s.linkPart f))
  let q := (s.link f).hello
  decide (own < coPackage q.coord) || (own == coPackage q.coord && decide (f < q.link))

/-- What the two ends derive (R284): outputs 0 and 1 the key of the first and of the second end, 2 and 3 their salts, 4 the finish key. -/
def State.linkSecret (s : State) (f n : Nat) : BitVec 384 :=
  let x := s.link f
  let z := Config.ecdh x.ephemeral x.peerPub
  if s.ownFirst f then Config.linkKdf z x.random x.peerRandom n else Config.linkKdf z x.peerRandom x.random n

/-- FINISH is verified: new keys at epoch 0, the ephemeral key is gone, the peer is known, and the link resumes or is identified and judged (R282, R284, R287). A resume asks for the same
identity, coordinate and link number. -/
def State.identify (s : State) (f : Nat) (replayKept : Bool) : State :=
  let x := s.link f
  let q := x.hello
  let same := match x.peer with
    | some p => p.identity == q.identity && p.coord == q.coord && p.link == q.link
    | none => false
  let resume := x.resuming && same && replayKept
  let r := flRegs f
  let me := if s.ownFirst f then 0 else 1
  let s1 := (s.wr (r + 0x10) (BitVec.ofNat 64 (2 ^ 63 + q.link % 256 * 2 ^ 48 + q.feed % 16 * 2 ^ 17 + q.coord % 2 ^ 17))).wr (r + 0x18) q.identity
  let s2 := s1.setLink f { x with
    keys := true, epochTx := 0, epochRx := 0, keyFails := 0, peer := some q, ephemeral := 0, txCtr := 0, rxCtr := 0,
    txKey := (s.linkSecret f me).setWidth 256, rxKey := (s.linkSecret f (1 - me)).setWidth 256,
    txSalt := (s.linkSecret f (2 + me)).setWidth 32, rxSalt := (s.linkSecret f (3 - me)).setWidth 32 }
  if resume then
    let s3 := (s2.linkGo f .active).linkServes f
    let y := match (s3.link f).saved with
      | some (us, q1, q2, q3) => { s3.link f with unacked := us, txSeq := q1, rxNext := q2, lastAck := q3, saved := none }
      | none => s3.link f
    s3.setLink f { y with replay := y.unacked.length, replayFrom := y.ackedTo }
  else
    let s3 := s2.linkGo f .identified
    let s4 := s3.setLink f { s3.link f with
      txMsgs := [], txSlots := [], unacked := [], replay := 0, txSeq := 0, rxNext := 0, lastAck := 4095, replaysNoProgress := 0, rxSlots := [], saved := none,
      cr0 := 1024, cr1 := 1024, cr2 := 512, ret0 := 0, ret1 := 0, ret2 := 0, used0 := 0, used1 := 0, used2 := 0, peerAdm := false }
    s4.judge f

end Sys2Proof.Machine
end

