-- ==== Sys2Proof/Machine/FaultOps.lean ====
section
/-! DEFINITION. The loss of a region and the failure of a partition (R24, R213, R371, R372). -/

namespace Sys2Proof.Machine

/-- SEC registers of a partition (R412). -/
def secBase (p : Nat) : Nat := 0x0A01_0000 + p * 0x1000

/-- The lost regions of a partition, as a map. -/
def State.lostMap (s : State) (p : Nat) : Nat := ((s.partRegions p).filter s.lostRegions.contains |>.map (fun r => 2 ^ r)).sum

/-- A partition fails (R371, R372): FAILING, PARTITION_FAILED, and FREEZE on every cell of a region that is not lost;
DUMPING at once when no cell has to stop. -/
def State.failPartition (s : State) (p code : Nat) : State :=
  if (s.part p).st ≠ .ready then s
  else
    let s1 := s.setPart p { s.part p with st := .failing, cause := code }
    let s2 := s1.raise (partEvent p evPartitionFailed (code + s.lostMap p * 2 ^ 16) 0 0)
    (forEach ((s2.partCells p).filter (fun c => !s2.lostRegions.contains (cellRegion c))) s2 (fun s c =>
      match (s.cell c).st with
      | .armed | .fetching | .running => s.setCell c { s.cell c with st := .freezing, prior := (s.cell c).st }
      | _ => s)).failSettle p

/-! ### Event records and dump headers (R368, R387) -/

/-- A 48-byte event record (R368). -/
def LogRec.bytes (r : LogRec) : List Byte :=
  toBytes 8 r.index ++ toBytes 2 r.ev.code ++ toBytes 1 r.ev.part ++ toBytes 1 (b2n r.package + 2 * b2n r.ev.isRepeat) ++ toBytes 4 r.time.toNat
    ++ toBytes 2 r.ev.job ++ toBytes 2 r.ev.unit ++ toBytes 4 r.ev.arg0 ++ toBytes 8 r.ev.arg1 ++ toBytes 8 r.ev.arg2 ++ toBytes 8 0

/-- The 4 KiB dump header (R387) with a directory given as bytes. -/
def State.dumpHeader (s : State) (p cause time : Nat) (complete : Bool) (nsect : Nat) (directory : List Byte) : List Byte :=
  let h := toBytes 4 0x4446_5357 ++ toBytes 2 1 ++ toBytes 1 (b2n complete) ++ toBytes 1 p ++ toBytes 2 cause ++ toBytes 2 nsect
    ++ toBytes 4 (s.coordOf p) ++ toBytes 4 time ++ toBytes 2 (s.lostMap p) ++ List.replicate 42 0 ++ directory
  h ++ List.replicate (4096 - h.length) 0

/-- The summary of a partition (R387): a header, and the last 256 records of its event log. -/
def State.keepSummary (s : State) (p cause time : Nat) : State :=
  let recs := (s.log p).drop ((s.log p).length - 256)
  let sum := s.dumpHeader p cause time true 0 [] ++ (recs.map LogRec.bytes).flatten
  s.setPart p { s.part p with dump := { (s.part p).dump with summary := sum } }

/-! ### The end of a dressing on the links and the guest port (R273, R292) -/

/-- Dressing of a partition ends, done or failed: its links go to KEYING, and the guest port trains again unless the weir is KILLED. -/
def State.dressLinks (s : State) (p : Nat) : State :=
  let s1 := forEach (s.partLinks p) s (fun s f =>
    if (s.link f).st = .dressing then
      (s.setLink f { s.link f with txSeq := 0, rxNext := 0, lastAck := 4095, unacked := [], replay := 0 }).enterKeying f
    else s)
  if s1.guestPart = some p then
    let s2 := { s1 with weir := { s1.weir with held := s1.weir.killed } }
    if s2.weir.killed then s2 else s2.setLeat 54 { s2.leat 54 with st := .training, fails := 0 }
  else s1

/-- A partition's memory keys are destroyed: what its session wrote to the far tier reads no more, but for kept dump keys (R396, R398). -/
def State.loseKeys (s : State) (p : Nat) : State := s.setPart p { s.part p with keys := false, k1 := 0, k2 := 0, kt := 0, epoch := (s.part p).epoch + 1 }

/-- Dressing fails (R410): FAILED, or STOPPED when the package stops; keys destroyed, DRESSING_FAILED, the summary kept. -/
def State.dressFail (s : State) (p cause : Nat) : State :=
  let (us, s1) := s.clock32
  let s2 := (s1.loseKeys p).setPart p { (s1.loseKeys p).part p with st := if cause = 2 then .stopped else .failed, dress := 0, cause := evDressingFailed }
  let s3 := (s2.wr (secBase p + 0x28) (BitVec.ofNat 64 (us * 2 ^ 32 + 2 * 2 ^ 8 + cause))).raise (partEvent p evDressingFailed cause 0 0)
  (s3.keepSummary p evDressingFailed us).dressLinks p

/-! ### Package stops (R372, R421, R424) -/

/-- Every rail but the always-on rail is off: the units without power hold nothing, and only the always-on domain, the fuses, the flash and the expanders
keep what they hold; the suspect blocks stay known to the next start-up (R378). -/
def State.unpower (s : State) (st : PState) : State :=
  let boot := [0, 8, 0x10, 0x18].map (fun o => (o, s.rd (0x0B00_0000 + o)))
  let base : State := { State.reset with
    pending := s.pending, far := s.far, farPoison := s.farPoison, cfg := s.cfg, board := s.board, freeCtr := s.freeCtr, weir := {},
    module := { s.module with held := true, starting := false, hostUp := false, seeded := false, xchk := [] },
    power := { s.power with
      railsOff := (upTo 32).drop 1, corr := 0, below := 0, msSamples := 0, capHold := 0, capKept := false, hotStacks := [], holdover := false, source := 0,
      telemetry := List.replicate 64 0, secTelem := List.replicate 64 0, history := [], telemSeq := 0 } }
  let s1 := forEach boot base (fun t e => t.wr (0x0B00_0000 + e.1) e.2)
  forEach (upTo 6) s1 (fun t p => t.setPart p { st := if s.partValid p then st else .ready, dump := (s.part p).dump, keys := false, epoch := (s.part p).epoch + 1 })

/-- When the dumps of a package fatal have ended, every partition is STOPPED; after a THERMAL_TRIP the rails go off (R362, R372). -/
def State.stopSettle (s : State) : State :=
  if s.module.fatal = 0 || s.validParts.any (fun p => (s.part p).st == .failing || (s.part p).st == .dumping) then s
  else
    let s1 := forEach s.validParts s (fun s p => s.setPart p { s.part p with st := .stopped })
    if s.module.fatal = evThermalTrip then s1.unpower .stopped else s1

/-- The package stops (R23, R372): every partition that runs fails at once, a dressing fails with cause 2, and the alert bit is set. -/
def State.packageFatal (s : State) (code : Nat) : State :=
  if s.module.fatal ≠ 0 then s
  else
    let s1 := { s with module := { s.module with fatal := code } }.alertSet 2
    (forEach s1.validParts s1 (fun s p =>
      if (s.part p).st = .dressing then s.dressFail p 2 else s.failPartition p code)).stopSettle

/-- A failure exit of the module (R424): START_FAILED, the exit code and the event in the summary, every rail but the always-on rail off. -/
def State.moduleExit (s : State) (code step : Nat) : State :=
  let e : Event := { code := evStartFailed, part := 6, arg0 := code + step * 256 }
  let (t, s1) := s.clock32
  let s2 := (s1.wf 0x0B00_0000 31 24 code).alertSet 0
  let sum := s2.dumpHeader 0 evStartFailed t true 0 [] ++ LogRec.bytes { index := 0, time := BitVec.ofNat 32 t, ev := { e with part := 0 }, package := true }
  let s3 := s2.setPart 0 { s2.part 0 with dump := { (s2.part 0).dump with summary := sum } }
  (s3.unpower .starting).wf 0x0B00_0000 31 24 code

/-- A failure exit of a partition (R424): FAILED with CAUSE START_FAILED until the next start-up; the first exit recorded stays in BOOT.STATUS. -/
def State.partExit (s : State) (p code step : Nat) : State :=
  let s1 := s.setPart p { s.part p with st := .failed, cause := evStartFailed }
  let s2 := if s1.rf 0x0B00_0000 31 24 = 0 then s1.wf 0x0B00_0000 31 24 code else s1
  s2.raise (partEvent p evStartFailed (code + step * 256) 0 0)

/-- Whether start-up has brought no partition to READY or beyond: then a package fault is a failure exit of the module (R424). -/
def State.inStartup (s : State) : Bool := s.module.starting || s.validParts.all (fun p => (s.part p).st == .starting)

/-- Whether a counter lies in a region. -/
def ctrInRegion (k r : Nat) : Bool := match ctrRegion k with
  | some x => x == r
  | none => false

/-- Waiters of the counters of a lost region are released with LOST (R205). -/
def State.loseCounters (s : State) (r : Nat) : State :=
  forEach (s.counters.filter (fun e => ctrInRegion e.1 r)) s (fun s e =>
    forEach e.2.waiters s (fun s w => s.releaseWaiter e.1 w .lost))

/-- Lines with a participant in a lost region break with cause 2 (R213). -/
def State.loseLines (s : State) (r : Nat) : State :=
  let p := s.regionPart r
  forEach (upTo 32) s (fun s n =>
    if (s.participants p n).any (fun c => cellRegion c == r) then s.breakLine p n 2 r else s)

/-- The region that a message of this package comes from (R266): a request's sender, or the memory that a READ_RESP has been read from. -/
def State.msgRegion (s : State) (m : LinkMsg) : Option Nat :=
  if m.kind = mkRESP then (match m.addr / 2 ^ 52 with
    | 0 => if m.addr < s.partSize (coPart m.src) then some (stackRegion (s.stackOf (coPart m.src) m.addr)) else none
    | 2 => some (m.addr % 2 ^ 52 / 0x1000_0000)
    | 3 => some (cellRegion (m.addr % 2 ^ 52 / 0x80_0000))
    | _ => none)
  else match s.reqs.find? (fun r => r.txid == m.txid && r.peer == m.dst) with
    | some r => srcRegion r.src
    | none => none

/-- The router discards a lost region's own messages that have not passed it (R266): those that wait for a link, and those that no leat port has sent. -/
def State.loseMessages (s : State) (r : Nat) : State :=
  let mine (m : LinkMsg) : Bool := s.msgRegion m == some r
  let sent (m : LinkMsg) : Bool := s.leats.any (fun e => e.2.unacked.any (fun u => u.2 == m))
  let s1 := { s with selfMsgs := s.selfMsgs.filter (fun x => !(mine x.msg && !sent x.msg)) }
  forEach (s.links.map (fun e => e.1)) s1 (fun s f => s.setLink f { s.link f with txMsgs := (s.link f).txMsgs.filter (fun m => !mine m) })

/-- The flume links of a lost region fall silent. -/
def State.loseLinks (s : State) (r : Nat) : State :=
  forEach (upTo 8) s (fun s j =>
    let f := 8 * r + j
    match (s.link f).st with
    | .disabled | .fenced | .down => s
    | _ => (s.linkReason f 0).linkGo f .down)

/-- A region is lost (R24, R266, R371): REGION_LOST, its interface clamped, and its partition fails; a dressing fails with cause 1 (R410), and a start-up ends. -/
def State.regionLost (s : State) (r cause : Nat) : State :=
  if s.lostRegions.contains r then s
  else
    let p := s.regionPart r
    let s1 := ({ s with lostRegions := s.lostRegions ++ [r] }).raise { code := evRegionLost, part := p, kind := 2, index := r, arg0 := cause }
    let s2 := (((s1.loseMessages r).loseCounters r).loseLines r).loseLinks r
    match (s2.part p).st with
    | .dressing => s2.dressFail p 1
    | .starting => s2.setPart p { s2.part p with st := .failed, cause := evRegionLost }
    | _ => s2.failPartition p evRegionLost

end Sys2Proof.Machine
end

