-- ==== Sys2Proof/Machine/Links.lean ====
section
/-! DEFINITION. Flume commands: flits and replay (R275 to R279, R288, R289), training, keying and the states of a link (R280 to R287, R292, R293). -/

namespace Sys2Proof.Machine

/-! ### Sending flits (R276 to R279) -/

/-- Credits held for a VC; none beyond VC 2. -/
def Link.credit (l : Link) (vc : Nat) : Nat := match vc with
  | 0 => l.cr0 | 1 => l.cr1 | 2 => l.cr2 | _ => 0

def Link.spend (l : Link) (vc n : Nat) : Link := match vc with
  | 0 => { l with cr0 := l.cr0 - n } | 1 => { l with cr1 := l.cr1 - n } | 2 => { l with cr2 := l.cr2 - n } | _ => l

/-- Whether a message may start (R278): the peer admits, the credits cover it, and its kind's feature is negotiated. -/
def Link.maySend (l : Link) (m : LinkMsg) : Bool :=
  l.peerAdm && decide (m.slots ≤ l.credit m.vc) && (match kindFeature m.kind with
    | some b => l.has b
    | none => true)

/-- The next message to start: the oldest of each VC waits its turn, so that a VC keeps its order (R258). -/
def Link.nextMsg (l : Link) : Option Nat :=
  (upTo l.txMsgs.length).find? (fun i => match l.txMsgs[i]? with
    | some m => l.maySend m && !(l.txMsgs.take i).any (fun x => x.vc == m.vc)
    | none => false)

/-- Put messages into the slot stream until a flit is full or none may start. -/
def Link.fillTx : Nat → Link → Link
  | 0, l => l
  | n + 1, l =>
    if 80 ≤ l.txSlots.length then l
    else match l.nextMsg with
    | none => l
    | some i => match l.txMsgs[i]? with
      | none => l
      | some m => Link.fillTx n ({ l with txMsgs := dropAt l.txMsgs i, txSlots := l.txSlots ++ m.toSlots }.spend m.vc m.slots)

/-- The header of a flit that leaves now, with ACK, NAK and the credits to return; encrypted flits carry the epoch. -/
def Link.header (l : Link) (type seq : Nat) : Word64 :=
  mkHeader type seq l.lastAck l.nakDue (l.st == .active) (if l.keys then l.epochTx else 0) (min l.ret0 511) (min l.ret1 511) (min l.ret2 511)

/-- The nonce of the flit that leaves now (R286): salt, epoch and flit counter. -/
def Link.nonce (l : Link) : Option (BitVec 96) :=
  if l.keys && (l.st == .active || l.st == .identified) then
    some (BitVec.ofNat 96 (l.txSalt.toNat * 2 ^ 64 + l.epochTx % 2 ^ 32 * 2 ^ 32 + l.txCtr % 2 ^ 32))
  else none

/-- The body of a flit under its key, and its 96-bit tag (R286): AES-256-GCM, the header being the additional authenticated data. -/
def Flit.seal (fl : Flit) (key : BitVec 256) : List Nat :=
  let body := ((fl.slots ++ List.replicate (80 - fl.slots.length) (0 : BitVec 512)).map (fun x => leNats 64 x.toNat)).flatten
  match fl.nonce with
  | some n => (gcmSeal (keyNats key) (beNats 12 n.toNat) (leNats 8 fl.header.toNat) body).take 5132
  | none => body ++ List.replicate 12 0

/-- A flit leaves: the NAK and the credits have gone with it, and a boundary is counted (R286). -/
def Link.sent (l : Link) (fl : Flit) : Link :=
  { l with
    out := some { fl with nonce := l.nonce }, nakDue := false, ret0 := l.ret0 - min l.ret0 511, ret1 := l.ret1 - min l.ret1 511, ret2 := l.ret2 - min l.ret2 511
    txCtr := if l.keys then l.txCtr + 1 else l.txCtr }

/-- A new numbered flit leaves and is kept until it is acknowledged. -/
def Link.sendNew (l : Link) (type : Nat) (slots : List (BitVec 512)) (carries : Option CtrlRec) : Link :=
  let fl : Flit := { header := l.header type l.txSeq, slots := slots, carries := carries }
  let l1 := l.sent fl
  { l1 with unacked := l1.unacked ++ [(l.txSeq, fl)], txSeq := (l.txSeq + 1) % 4096 }

/-- An IDLE flit. -/
def Link.sendIdle (l : Link) : Link := l.sent { header := l.header ftIDLE 0 }

/-- The oldest flit still to be resent in a replay leaves, sealed afresh (R279). -/
def State.resend (s : State) (f : Nat) : State :=
  let l := s.link f
  match l.unacked[l.unacked.length - l.replay]? with
  | none => s.setLink f { l with replay := 0 }
  | some (q, fl) =>
    let again : Flit := { header := l.header (fType fl.header) q, slots := fl.slots, carries := fl.carries }
    (s.setLink f { l.sent again with replay := l.replay - 1 }).bump (flRegs f + flREPLAYS) 63 0 1

/-- The versions that this package offers on a flume link, lowest first: 1.0 to the image's maximum (R267, R418). -/
def State.flumeVersions (s : State) : List (Nat × Nat) :=
  [(1, 0), (1, 1)].filter (fun v => decide (v.1 < s.cfgB 0x0B0) || (v.1 == s.cfgB 0x0B0 && decide (v.2 ≤ s.cfgB 0x0B1)))

/-- The ADVERTISE record of this package on a flume link (R267). -/
def State.flumeAdvert (s : State) : Advertise :=
  let lo := s.flumeVersions.headD (0, 0)
  let hi := (s.flumeVersions.getLast?).getD (0, 0)
  { minMajor := BitVec.ofNat 8 lo.1, minMinor := BitVec.ofNat 8 lo.2, maxMajor := BitVec.ofNat 8 hi.1, maxMinor := BitVec.ofNat 8 hi.2
    features := BitVec.ofNat 32 (s.cfgN 0x0B4 4) }

/-- The own record that is due next on a link in NEGOTIATING or KEYING, if any (R284): ADVERTISE; or HELLO, CERT, KEX and FINISH in this order, FINISH once the peer's KEX is in. -/
def State.nextRec (s : State) (f : Nat) : Option CtrlRec :=
  let l := s.link f
  match l.st, l.keyTx with
  | .negotiating, 0 => some (.advertise s.flumeAdvert)
  | .keying, 0 => some (.hello l.random (s.coordOf (s.linkPart f)) f s.feedId)
  | .keying, 1 => some (.cert s.module.identity)
  | .keying, 2 => some (.kex (Config.ecPublic l.ephemeral) (Config.linkSign s.module.identity l.random l.peerRandom (Config.ecPublic l.ephemeral)))
  | .keying, 3 =>
    if l.keyRecs < 3 then none
    else some (.finish (if s.ownFirst f then Config.linkFinish (s.linkSecret f 4) l.random l.peerRandom (Config.ecPublic l.ephemeral) l.peerPub
      else Config.linkFinish (s.linkSecret f 4) l.peerRandom l.random l.peerPub (Config.ecPublic l.ephemeral)))
  | _, _ => none

/-- A CTRL flit leaves, with the own record that is due (R279, R284). The ephemeral key is drawn for KEX; a generator that refuses it fails the keying (R285). -/
def State.sendCtrl (s : State) (f : Nat) : State :=
  let l := s.link f
  if l.st = .keying && l.keyTx == 2 && s.module.trngFault then s.keyFail f
  else
    let s1 := if l.st = .keying && l.keyTx == 2 then
        let (a, s1) := s.freshKey
        let (b, s2) := s1.freshKey
        s2.setLink f { s2.link f with ephemeral := a.setWidth 384 ||| (b.setWidth 384 <<< 256) }
      else s
    match s1.nextRec f with
    | some r => s1.setLink f { (s1.link f).sendNew ftCTRL [] (some r) with keyTx := (s1.link f).keyTx + 1 }
    | none => s1.setLink f ((s1.link f).sendNew ftCTRL [] none)

/-- A flit boundary (R277, R279). -/
def execFlitSend (f : LinkId) (s : State) : Out := powered s <|
  let l := s.link f
  let idle : State := s.setLink f l.sendIdle
  match l.st with
  | .active =>
    .next (if 0 < l.replay then s.resend f
    else if 64 ≤ l.unacked.length then idle
    else
      let l1 := Link.fillTx 81 l
      if l1.txSlots.isEmpty then idle
      else (s.setLink f ({ l1 with txSlots := l1.txSlots.drop 80 }.sendNew ftDATA (l1.txSlots.take 80) none)).bump (flRegs f + 0x68) 63 0 5120)
  | .identified => .next idle
  | .peerDressing => .next idle
  | .negotiating | .keying =>
    if l.holdIdle then .next (s.setLink f { l with out := none })
    else if 0 < l.replay then .next (s.resend f)
    else if 64 ≤ l.unacked.length then .next idle
    else done s (s.sendCtrl f)
  | .dressing => .next (s.setLink f { l with out := some { header := mkHeader ftDRESSING 0 0 false false 0 0 0 0 } })
  | _ => .next (s.setLink f { l with out := none })

/-! ### Receiving flits (R278, R279, R287 to R289) -/

/-- Discard a flit of the numbered stream: the first discard of a gap sets NAK. -/
def Link.nak (l : Link) : Link := if l.gap then l else { l with gap := true, nakDue := true }

/-- Start a replay of everything unacknowledged; eight from one ACK without progress retrain the link (R291). -/
def State.startReplay (s : State) (f ack : Nat) : State :=
  let l := s.link f
  if l.unacked.isEmpty || (0 < l.replay && l.replayFrom == ack) then s
  else
    let n := l.replaysNoProgress + 1
    let s1 := s.setLink f { l with replay := l.unacked.length, replayFrom := ack, replaysNoProgress := n }
    if 8 ≤ n then s1.retrain f else s1

/-- Act on a verified header: ACK frees the flits it covers, NAK starts a replay, ADM and the credits are taken over. -/
def State.headerIn (s : State) (f : Nat) (h : Word64) : State :=
  let l := s.link f
  let l1 := match findIdx (fun u : Nat × Flit => u.1 == fAck h) l.unacked with
    | some i =>
      let rest := l.unacked.drop (i + 1)
      { l with unacked := rest, replay := min l.replay rest.length, replaysNoProgress := 0 }
    | none => l
  let s1 := s.setLink f { l1 with peerAdm := fAdm h, cr0 := min 1024 (l1.cr0 + fCr0 h), cr1 := min 1024 (l1.cr1 + fCr1 h), cr2 := min 512 (l1.cr2 + fCr2 h) }
  if fNak h then s1.startReplay f (fAck h) else s1

/-- Slots of the receive buffer that a VC may hold (R278). -/
def vcSlots : Nat → Nat
  | 0 => 1024 | 1 => 1024 | 2 => 512 | _ => 0

def Link.used (l : Link) (vc : Nat) : Nat := match vc with
  | 0 => l.used0 | 1 => l.used1 | 2 => l.used2 | _ => 0

def Link.use (l : Link) (vc n : Nat) : Link := match vc with
  | 0 => { l with used0 := l.used0 + n } | 1 => { l with used1 := l.used1 + n } | 2 => { l with used2 := l.used2 + n } | _ => l

/-- A message leaves the receive buffer, and its slots are credited back. -/
def Link.release (l : Link) (vc n : Nat) : Link := match vc with
  | 0 => { l with used0 := l.used0 - n, ret0 := l.ret0 + min n l.used0 }
  | 1 => { l with used1 := l.used1 - n, ret1 := l.ret1 + min n l.used1 }
  | 2 => { l with used2 := l.used2 - n, ret2 := l.ret2 + min n l.used2 }
  | _ => l

/-- A message enters the receive buffer, or overruns its credit (R289). -/
def State.deliver (s : State) (f : Nat) (m : LinkMsg) : State :=
  let l := s.link f
  if vcSlots m.vc < l.used m.vc + m.slots then s.violation f 0x10 m.kind m.vc
  else s.setLink f ({ l with inbox := l.inbox ++ [(m, l.st == LinkState.active)] }.use m.vc m.slots)

/-- A DATA flit that the header checks let pass: the next expected SEQ is delivered, any other is discarded. -/
def State.dataIn (s : State) (f : Nat) (fl : Flit) : State :=
  let l := s.link f
  if fSeq fl.header ≠ l.rxNext then s.setLink f l.nak
  else
    let (ms, left) := parseSlots (l.rxSlots.length + fl.slots.length + 1) (l.rxSlots ++ fl.slots)
    let s1 := (s.setLink f { l with rxNext := (l.rxNext + 1) % 4096, lastAck := l.rxNext, gap := false, rxSlots := left }).bump (flRegs f + 0x70) 63 0 5120
    forEach ms s1 (fun s m => s.deliver f m)

/-- A flit on a link with keys: IDENTIFIED or ACTIVE. -/
def State.sealedFlit (s : State) (f : Nat) (fl : Flit) : State :=
  let h := fl.header
  let nakIf (b : Bool) (s : State) : State := if b then s.setLink f (s.link f).nak else s
  let data := fType h == ftDATA
  if 3 < fType h || fType h = ftCTRL then s.violation f 0x11 0 0
  else if fType h = ftDRESSING then s.linkGo f .peerDressing
  else if fEpoch h ≠ (s.link f).epochRx % 128 then (nakIf true s).violation f 0x14 0 0
  else if fl.tagBad then ((nakIf true s).bump (flRegs f + 0x30) 63 0 1).violation f 0x13 0 0
  else if data && !fAdm h then (nakIf true s).violation f 0x11 0 0
  else
    let s1 := s.headerIn f h
    if data && ((s1.link f).st == .active || (s1.link f).st == .identified) then s1.dataIn f fl else s1

/-- A flit on a link without keys: NEGOTIATING, KEYING or PEER_DRESSING. -/
def State.openFlit (s : State) (f : Nat) (fl : Flit) : State :=
  let h := fl.header
  let l := s.link f
  if 3 < fType h then s.violation f 0x11 0 0
  else if fType h = ftDATA then (s.setLink f l.nak).violation f 0x11 0 0
  else if fType h = ftCTRL then
    if l.st = .peerDressing then (s.setLink f { l with txSeq := 0, rxNext := (fSeq h + 1) % 4096, lastAck := fSeq h }).enterKeying f
    else
      let s1 := s.headerIn f h
      let l1 := s1.link f
      if fSeq h ≠ l1.rxNext then s1.setLink f l1.nak
      else s1.setLink f { l1 with rxNext := (l1.rxNext + 1) % 4096, lastAck := l1.rxNext, gap := false }
  else if fType h = ftIDLE && l.st ≠ .peerDressing then s.headerIn f h
  else s

/-- A flit arrives (R279). -/
def execFlitReceive (f : LinkId) (flit : Flit) (s : State) : Out := powered s <|
  let l := s.link f
  let up := l.st == .active || l.st == .identified
  let half := (l.st == .negotiating || l.st == .keying) && !l.holdIdle || l.st == .peerDressing
  if !up && !half then .next s
  else
    let s0 := if l.keys then s.setLink f { l with rxCtr := l.rxCtr + 1 } else s
    let s1 := s0.bump (flRegs f + 0x20) 63 0 flit.fecSymbols
    done s (if flit.fecBad then (s1.setLink f (s1.link f).nak).uncorrectable f
      else if up then s1.sealedFlit f flit
      else s1.openFlit f flit)

/-- A gap has lasted 4 µs: NAK is set again (R279). -/
def execGapNakTimer (f : LinkId) (s : State) : Out := powered s <|
  .next (if (s.link f).gap then s.setLink f { s.link f with nakDue := true } else s)

/-- Unacknowledged flits have been held for 4 µs without progress (R279). -/
def execReplayTimeout (f : LinkId) (s : State) : Out := powered s <|
  done s (match (s.link f).st with
  | .active | .negotiating | .keying => if (s.link f).holdIdle then s else s.startReplay f (s.link f).ackedTo
  | _ => s)

/-! ### Training (R280, R281, R283) -/

/-- Flit lock (R280, R283): `halfOnly` says that only one pair of lanes has codeword lock. -/
def execFlitLock (f : LinkId) (halfOnly : Bool) (s : State) : Out := powered s <|
  let l := s.link f
  let half := s.rf (flRegs f) 10 8 == 4 && l.has featHALF && nbits (s.cfgB 0x016) 2 2 == 1
  match l.st with
  | .training =>
    if halfOnly then .next s
    else
      let s1 := (s.linkWidth f 4).linkGo f .negotiating
      .next (s1.setLink f { s1.link f with unacked := [], replay := 0, txSeq := 0, rxNext := 0, lastAck := 4095 })
  | .retraining =>
    if !halfOnly then done s ((s.linkWidth f 4).enterKeying f)
    else if half then done s (((s.linkWidth f 2).raise (linkEvent s f evLinkHalfWidth 0 0 0)).enterKeying f)
    else done s (s.linkGo f .training)
  | _ => .next s

/-- No lock for 50 ms: TRAINING, or RETRAINING by the TRAINING rows (R280, R283), returns to DOWN. -/
def execTrainingTimeout (f : LinkId) (s : State) : Out := powered s <|
  match (s.link f).st with
  | .training | .retraining => done s ((s.linkReason f 1).linkGo f .down)
  | _ => .next s

/-- The 1 s retry timer of a DOWN link (R280, R295, R300). -/
def execLinkRetryTimer (f : LinkId) (s : State) : Out := powered s <|
  done s (if (s.link f).st = .down && s.trainable f then s.linkGo f .training else s)

/-- Codeword lock is lost (R280). -/
def execCodewordLockLoss (f : LinkId) (s : State) : Out := powered s <| done s (s.retrain f)

/-! ### Keying (R267, R284, R285, R287) -/

/-- Whether a version lies in an advertised range. -/
def inRange (v lo hi : Nat × Nat) : Bool :=
  (decide (lo.1 < v.1) || (lo.1 == v.1 && decide (lo.2 ≤ v.2))) && (decide (v.1 < hi.1) || (v.1 == hi.1 && decide (v.2 ≤ hi.2)))

/-- The bits that a flume version defines (R267). -/
def flumeFeatures (v : Nat × Nat) : Nat := if v = (1, 0) then 7 else 15

/-- An ADVERTISE of the peer (R267, R280): the highest common version and the common features, or FENCED. -/
def State.negotiate (s : State) (f : Nat) (lo hi : Nat × Nat) (features : Nat) : State :=
  match (s.flumeVersions.filter (fun v => inRange v lo hi)).getLast? with
  | none => (s.raise (linkEvent s f evLinkViolation f 0 0)).fence f 2
  | some v =>
    let fs := (features &&& s.cfgN 0x0B4 4) &&& flumeFeatures v
    let s1 := ((s.wf (flRegs f) 47 40 v.1).wf (flRegs f) 39 32 v.2).wf (flRegs f) 31 24 fs
    (s1.setLink f { s1.link f with features := fs }).enterKeying f

/-- A keying record arrives: the four records of the peer in their order, each as its checks find it. -/
def execKeyingRecord (f : LinkId) (kr : KeyRec) (s : State) : Out := powered s <|
  let l := s.link f
  let next (n : Nat) (ok : Bool) : State := if ok then s.setLink f { l with keyRecs := n } else s.keyFail f
  match l.st with
  | .negotiating => match kr with
    | .advertise a b c d fs => done s (s.negotiate f (a.toNat, b.toNat) (c.toNat, d.toNat) fs.toNat)
    | _ => .next s
  | .keying =>
    if l.holdIdle then .next s
    else match kr with
    | .hello q r => done s (if l.keyRecs = 0 then s.setLink f { l with keyRecs := 1, hello := q, peerRandom := r } else s.keyFail f)
    | .cert ok => done s (next 2 (ok && l.keyRecs == 1))
    | .kex pub ok => done s (if ok && l.keyRecs == 2 then s.setLink f { l with keyRecs := 3, peerPub := pub } else s.keyFail f)
    | .finish ok kept => done s (if ok && l.keyRecs == 3 then s.identify f kept else s.keyFail f)
    | .advertise _ _ _ _ _ => done s (s.keyFail f)
    | .malformed => done s (s.keyFail f)
  | _ => .next s

/-- A record, or the whole keying, is late (R285). -/
def execKeyingTimeout (f : LinkId) (s : State) : Out := powered s <|
  done s (if (s.link f).st = .keying && !(s.link f).holdIdle then s.keyFail f else s)

/-- The electrical idle after a failed keying ends (R285). -/
def execKeyingIdleEnd (f : LinkId) (s : State) : Out := powered s <|
  done s (if (s.link f).st = .keying && (s.link f).holdIdle then s.linkGo f (if s.trainable f then .training else .down) else s)

/-- The key of epoch e + 1 (R287): the first 32 bytes of HMAC-SHA-384 under the old key of "EPOCH" and e + 1 as a u32. -/
def nextKey (key : BitVec 256) (e : Nat) : BitVec 256 :=
  BitVec.ofNat 256 (hmac384 (toBytes 32 key.toNat) ([0x45, 0x50, 0x4F, 0x43, 0x48] ++ toBytes 4 (e + 1))).toNat

/-- Both ends move to the next key epoch, and the flit counters start again (R287). -/
def execEpochRoll (f : LinkId) (s : State) : Out := powered s <|
  let l := s.link f
  .next (match l.st with
  | .identified | .active => s.setLink f { l with
      epochTx := (l.epochTx + 1) % 2 ^ 32, epochRx := (l.epochRx + 1) % 2 ^ 32, txCtr := 0, rxCtr := 0
      txKey := nextKey l.txKey l.epochTx, rxKey := nextKey l.rxKey l.epochRx }
  | _ => s)

/-! ### FL.CTRL (R280, R293) -/

/-- RETRAIN: a DOWN link trains, an IDENTIFIED or ACTIVE one retrains; rejected elsewhere. -/
def execFlRetrain (f : LinkId) (s : State) : Out := powered s <|
  match (s.link f).st with
  | .down => done s (if s.trainable f then s.linkGo f .training else s.linkReject f)
  | .identified | .active => done s (s.retrain f)
  | _ => .next (s.linkReject f)

/-- UNFENCE: a FENCED link trains, its keying count at zero; rejected elsewhere (R280, R285). -/
def execFlUnfence (f : LinkId) (s : State) : Out := powered s <|
  match (s.link f).st with
  | .fenced => done s ((s.setLink f { s.link f with keyFails := 0 }).linkGo f (if s.trainable f then .training else .down))
  | _ => .next (s.linkReject f)

/-- DISABLE: any state. -/
def execFlDisable (f : LinkId) (s : State) : Out := powered s <|
  done s (if (s.link f).st = .disabled then s else (s.linkReason f 6).linkGo f .disabled)

end Sys2Proof.Machine
end

