-- ==== Sys2Proof/Machine/Leats.lean ====
section
/-! DEFINITION. Leat ports (R16, R17, R259 to R266) and the weir (R268 to R273, R294). -/

namespace Sys2Proof.Machine

/-! ### Ports, pairs and registers (R293, R369) -/

/-- Whether a leat port exists: the end of the rows has no neighbour, and only -1536G has a guest port (R293, R263). -/
def State.leatExists (s : State) (p : Nat) : Bool :=
  if p < 48 then
    match p % 8 with
    | 0 | 1 => p / 8 % 3 != 0
    | 2 | 3 => p / 8 % 3 != 2
    | 7 => false
    | _ => true
  else if p < 54 then true else s.module.guestSite

/-- The port at the other end. -/
def leatPeer (p : Nat) : Option Nat :=
  if p < 48 then
    let b := p / 8
    match p % 8 with
    | 0 => some (8 * (b - 1) + 2) | 1 => some (8 * (b - 1) + 3)
    | 2 => some (8 * (b + 1)) | 3 => some (8 * (b + 1) + 1)
    | 4 => some (8 * ((b + 3) % 6) + 4) | 5 => some (8 * ((b + 3) % 6) + 5)
    | 6 => some (48 + b)
    | _ => none
  else if p < 54 then some (8 * (p - 48) + 6) else none

/-- The node of a port: its bedstone, or 6, the hurst. -/
def leatNode (p : Nat) : Nat := if p < 48 then p / 8 else 6

/-- The other port of a pair; a spoke stands alone. -/
def leatMate (p : Nat) : Option Nat :=
  if p < 48 && p % 8 < 6 then some (if p % 2 = 0 then p + 1 else p - 1) else none

/-- Where a pair keeps its sequence and its replay state. -/
def leatPair (p : Nat) : Nat := if p < 48 && p % 8 < 6 then p / 2 * 2 else p

def guestPort : Nat := 54

def leatBase (p : Nat) : Nat := if p < 48 then bedBase (p / 8) + 0x20_0000 + p % 8 * 0x1000 else 0x0300_0000 + (p - 48) * 0x1000

def LeatState.code : LeatState → Nat
  | .down => 0 | .training => 1 | .up => 2 | .retraining => 3 | .outOfService => 4 | .held => 5 | .unused => 6

def leatEvent (s : State) (p code a0 : Nat) : Event :=
  { code := code, part := if p < 48 then s.bedPart (p / 8) else if p < 54 then s.bedPart (p - 48) else s.guestPart.getD 0, kind := 7, index := p, arg0 := a0 }

def State.leatGo (s : State) (p : Nat) (st : LeatState) : State := s.setLeat p { s.leat p with st := st }
def State.leatReason (s : State) (p r : Nat) : State := s.wf (leatBase p) 15 8 r
def State.leatReject (s : State) (p : Nat) : State := s.wb (leatBase p) 4 true

/-! ### The weir's kill switch (R272) -/

def weirBase : Nat := 0x0500_0000

def weirEvent (s : State) (a0 a1 : Nat) : Event :=
  { code := evWeirViolation, part := s.guestPart.getD 0, kind := 10, index := 0, arg0 := a0, arg1 := a1 }

/-- The weir kills the guest site: 1 driver, 2 threshold, 3 training. The event's number for the cause KILL is not stated, and is a free value (log 25). -/
def State.weirKill (s : State) (cause : Nat) : State :=
  if s.weir.killed || !s.module.guestSite then s
  else
    let (v, s1) := s.fresh
    let s2 := ({ s1 with weir := { s1.weir with killed := true, held := true, waiting := [] } }.wf (weirBase + 8) 15 8 cause).leatGo guestPort .held
    s2.raise (weirEvent s2 (fld v 7 0) 0)

/-! ### What a lost port takes with it (R16, R265) -/

/-- A port is in service: it is UP at both its ends (R17, R265). -/
def State.leatLive (s : State) (p : Nat) : Bool :=
  s.leatExists p && (s.leat p).st == .up && (match leatPeer p with
    | some q => (s.leat q).st == .up
    | none => true)

/-- A port, at either of its ends, is OUT_OF_SERVICE. -/
def State.leatDead (s : State) (p : Nat) : Bool :=
  (s.leat p).st == .outOfService || (match leatPeer p with
    | some q => (s.leat q).st == .outOfService
    | none => false)

/-- The bedstones on the way from one to another: along the row first, across rows second (R16). -/
def leatPath (i j : Nat) : List Nat :=
  let row := i / 3 * 3
  let a := i % 3
  let b := j % 3
  let along := if a ≤ b then (upTo (b - a + 1)).map (fun k => row + a + k) else (upTo (a - b + 1)).map (fun k => row + a - k)
  if i / 3 = j / 3 then along else along ++ [j]

/-- Whether a path crosses the edge between two bedstones. -/
def crosses (path : List Nat) (x y : Nat) : Bool :=
  (path.zip (path.drop 1)).any (fun e => e.1 == x && e.2 == y || e.1 == y && e.2 == x)

/-- The partitions whose traffic R16 routes across a pair. -/
def State.pairUsers (s : State) (p : Nat) : List Nat :=
  match leatPeer p with
  | none => []
  | some q =>
    let x := p / 8
    let y := q / 8
    s.validParts.filter (fun pt => (s.partBeds pt).any (fun i => (s.partBeds pt).any (fun j => crosses (leatPath i j) x y)))

/-- What a sending end has not had acknowledged is resent on the other port of its pair (R261): what the receiver has accepted it discards there as a duplicate. -/
def State.leatReplay (s : State) (p : Nat) : State := match leatMate p with
  | some m => s.bump (leatBase m + 0x28) 63 0 (s.leat (leatPair p)).unacked.length
  | none => s

/-- A port leaves service at both its ends (R17, R261, R265): LEAT_PORT_DOWN, the replay on the other port, and the partitions that lose their paths. -/
def State.leatOut (s : State) (p reason : Nat) : State :=
  let s1 := ((s.leatReason p reason).leatGo p .outOfService).raise (leatEvent s p evLeatPortDown 0)
  let s2 := match leatPeer p with
    | some q => if (s1.leat q).st = .outOfService then s1 else (s1.leatReason q reason).leatGo q .outOfService
    | none => s1
  match leatMate p with
  | some m =>
    if s2.leatDead m then forEach (s2.pairUsers p) s2 (fun s pt => s.failPartition pt evLeatPortDown)
    else
      let s3 := s2.leatReplay p
      match leatPeer p with
      | some q => s3.leatReplay q
      | none => s3
  | none =>
    if p = guestPort then s2
    else s2.failPartition (s2.bedPart (if p < 48 then p / 8 else p - 48)) evLeatPortDown

/-- Pieces of a message on a leat port: two of its header and those of its data area (R253, R262). -/
def LinkMsg.leatPieces (m : LinkMsg) : Nat := 2 + m.pieces

def Leat.credit (x : Leat) : Nat → Nat
  | 0 => x.cr0 | 1 => x.cr1 | _ => x.cr2

def Leat.spend (x : Leat) (vc n : Nat) : Leat := match vc with
  | 0 => { x with cr0 := x.cr0 - n } | 1 => { x with cr1 := x.cr1 - n } | _ => { x with cr2 := x.cr2 - n }

/-! ### Commands of the ports -/

/-- Credits return to the sender at a port (R262). -/
def execLeatCreditReturn (p : LeatId) (vc : Fin 3) (pieces : Nat) (s : State) : Out := powered s <|
  let x := s.leat p
  .next (s.setLeat p (match vc.val with
    | 0 => { x with cr0 := min 2048 (x.cr0 + pieces) }
    | 1 => { x with cr1 := min 2048 (x.cr1 + pieces) }
    | _ => { x with cr2 := min 1024 (x.cr2 + pieces) }))

/-- A port goes out of service (R17, R265). -/
def execLeatPortOut (p : LeatId) (s : State) : Out := powered s <|
  if !s.leatExists p then .next s
  else match (s.leat p).st with
  | .up | .retraining => done s (s.leatOut p (if s.rf (leatBase p) 15 8 = 4 then 4 else 3))
  | _ => .next s

/-- One end of a port starts to retrain. -/
def State.leatEndRetrain (s : State) (p reason : Nat) : State :=
  let s1 := ((s.leatReason p reason).bump (leatBase p + 0x30) 31 0 1)
  s1.setLeat p { s1.leat p with st := .retraining, fails := 0, restore := false, hdrErrs := 0 }

/-- A port retrains, at both its ends (R265); four retrains of the guest port in 60 s kill the guest (R291). -/
def State.leatRetrain (s : State) (p reason : Nat) : State :=
  let s1 := s.leatEndRetrain p reason
  let s2 := match leatPeer p with
    | some q => if (s1.leat q).st = .up then s1.leatEndRetrain q reason else s1
    | none => s1
  if p ≠ guestPort then s2
  else
    let (n, s3) := s2.windowed s2.weir.retrain60s
    let s4 := { s3 with weir := { s3.weir with retrain60s := n } }
    if 4 ≤ n then s4.weirKill 2 else s4

/-- Header errors or a lost forwarded clock start a retrain (R265). -/
def execLeatRetrainCause (p : LeatId) (clockLost : Bool) (s : State) : Out := powered s <|
  done s (if (s.leat p).st = .up && s.leatExists p && (clockLost || decide (16 ≤ (s.leat p).hdrErrs)) then s.leatRetrain p (if clockLost then 4 else 0) else s)

/-- LEAT.CTRL.RETRAIN: an UP port; rejected in any other state (R293). -/
def execLeatRetrain (p : LeatId) (s : State) : Out := powered s <|
  done s (if (s.leat p).st = .up && s.leatExists p then s.leatRetrain p 0 else s.leatReject p)

/-- LEAT.CTRL.RESTORE: an OUT_OF_SERVICE port trains; rejected in any other state (R265, R293). -/
def execLeatRestore (p : LeatId) (s : State) : Out := powered s <|
  .next (if (s.leat p).st = .outOfService && s.leatExists p then s.setLeat p { s.leat p with st := .training, fails := 0, restore := true }
    else s.leatReject p)

/-! ### Version exchange (R267) -/

/-- Whether a version lies in an advertised range. -/
def Advertise.spans (a : Advertise) (v : Nat × Nat) : Bool := inRange v (a.minMajor.toNat, a.minMinor.toNat) (a.maxMajor.toNat, a.maxMinor.toNat)

/-- The bits that a version of the guest interface defines. -/
def guestFeatures (v : Nat × Nat) : Nat := if v = (1, 0) then 4 else if v = (1, 1) then 5 else 7

/-- The versions that this end offers on a port, lowest first: 2.0 in F-mode, 1.0 to the image's maximum at the guest port (R418). -/
def State.leatVersions (s : State) (p : Nat) : List (Nat × Nat) :=
  if p ≠ guestPort then [(2, 0)]
  else [(1, 0), (1, 1), (1, 2)].filter (fun v => decide (v.1 < s.cfgB 0x0B8) || (v.1 == s.cfgB 0x0B8 && decide (v.2 ≤ s.cfgB 0x0B9)))

def State.leatMask (s : State) (p : Nat) : Nat := if p ≠ guestPort then 0 else s.cfgN 0x0BC 4

/-- The ADVERTISE record that an end of a port sends on the sideband. -/
def State.leatAdvert (s : State) (p : Nat) : Advertise :=
  let lo := (s.leatVersions p).headD (0, 0)
  let hi := ((s.leatVersions p).getLast?).getD (0, 0)
  { minMajor := BitVec.ofNat 8 lo.1, minMinor := BitVec.ofNat 8 lo.2, maxMajor := BitVec.ofNat 8 hi.1, maxMinor := BitVec.ofNat 8 hi.2
    features := BitVec.ofNat 32 (s.leatMask p) }

/-- The version and the features that both ends take; none: no common version. -/
def State.leatAgreed (s : State) (p : Nat) (adv : Advertise) : Option ((Nat × Nat) × Nat) :=
  (((s.leatVersions p).filter adv.spans).getLast?).map (fun v => (v, if p = guestPort then (adv.features.toNat &&& s.leatMask p) &&& guestFeatures v else 0))

/-- A port comes UP (R263, R264, R267): its repair map, its version and its features are shown, and its credits start anew. -/
def State.leatUp (s : State) (p spares exhausted major minor features : Nat) : State :=
  let a := leatBase p
  let s1 := ((((((s.leatReason p 0).wf a 39 32 major).wf a 31 24 minor).wf a 23 16 features).wb a 3 (p == guestPort)).wf (a + 0x10) 31 16 spares).wf (a + 0x10) 15 0 exhausted
  let s2 := s1.setLeat p { s1.leat p with st := .up, fails := 0, restore := false, hdrErrs := 0, cr0 := 2048, cr1 := 2048, cr2 := 1024 }
  if p = guestPort then { s2 with weir := { s2.weir with verMajor := major, verMinor := minor, features := features, held := false, waiting := [] } } else s2

/-- A bedstone port is not trained at start-up: the partitions it serves that are starting take the exit LEAT (R263, R424). -/
def State.leatExit (s : State) (p : Nat) : State :=
  if p = guestPort then s
  else
    let ps := if (leatMate p).isSome then s.pairUsers p else [s.bedPart (if p < 48 then p / 8 else p - 48)]
    forEach (ps.filter (fun pt => (s.part pt).st == .starting)) s (fun s pt => s.partExit pt 8 (s.part pt).step)

/-- A training fails: once more is tried; then a retrain or a restore leaves the port OUT_OF_SERVICE, and a start-up training leaves it DOWN (R263, R265). -/
def State.leatFailed (s : State) (p : Nat) : State :=
  let x := s.leat p
  if x.fails = 0 then s.setLeat p { x with fails := 1 }
  else if x.st = .retraining then s.leatOut p (if s.rf (leatBase p) 15 8 = 4 then 4 else 3)
  else if x.restore then s.leatOut p 1
  else
    let s1 := (s.leatReason p 1).leatGo p .down
    if p = guestPort then s1.weirKill 3 else s1.leatExit p

/-- The training or retraining of a port ends (R263 to R267). -/
def execLeatPortTrained (p : LeatId) (t : TrainResult) (s : State) : Out := powered s <|
  let x := s.leat p
  if !s.leatExists p || (x.st ≠ .training && x.st ≠ .retraining) then .next s
  else match t with
  | .up spares exhausted adv =>
    let s0 := s.setLeat p { x with advert := some (s.leatAdvert p) }
    match s.leatAgreed p adv with
    | some (v, fs) => done s (s0.leatUp p spares.toNat exhausted.toNat v.1 v.2 fs)
    | none =>
      let s1 := ((s0.leatReason p 2).leatGo p .down).raise (leatEvent s p evLinkViolation p)
      done s (if p.val = guestPort then s1.weirKill 3 else s1.leatExit p)
  | .failed => done s (s.leatFailed p)

/-! ### The weir's checks (R268 to R271) -/

def wkPOISON : Nat := 0
def wkSIGNAL : Nat := 1

def Weir.has (w : Weir) (feature : Nat) : Bool := nbits w.features feature feature == 1

def State.weirLimits (s : State) : Nat := s.cfgN 0x0C8 8
def State.weirMaxOut (s : State) : Nat := nbits s.weirLimits 47 32
/-- The largest LEN: 256 at version 1.0 of the guest interface, else MAX_BYTES (R267). -/
def State.weirMaxBytes (s : State) : Nat :=
  let m := nbits s.weirLimits 12 0
  if s.weir.verMajor = 1 && s.weir.verMinor = 0 then min 256 m else m

def State.winBase (s : State) (w : Nat) : Nat := nbits (s.cfgN (0x0D0 + 16 * w) 8) 56 12 * 4096
def State.winCfg (s : State) (w : Nat) : Nat := s.cfgN (0x0D8 + 16 * w) 8

/-- The device address and the length that a guest request touches. -/
def guestSpan (m : LinkMsg) : Nat × Nat :=
  if m.kind = mkSIGNAL then (4 * 2 ^ 52 + m.addr, 8)
  else (m.addr % 2 ^ 57, if m.kind = mkREAD then m.amount else m.len)

/-- The first valid window that holds every byte of a request (R269). -/
def State.windowOf (s : State) (m : LinkMsg) : Option Nat :=
  let (a, n) := guestSpan m
  (upTo 16).find? (fun w =>
    let c := s.winCfg w
    nbits c 63 63 == 1 && decide (m.addr < if m.kind = mkSIGNAL then 2 ^ 52 else 2 ^ 57) && decide (s.winBase w ≤ a) && decide (a + n ≤ s.winBase w + 2 ^ nbits c 13 8))

/-- Whether a window grants what a kind needs: READ, WRITE or SIGNAL; a space 4 window permits SIGNAL only. -/
def State.windowRight (s : State) (w kind : Nat) : Bool :=
  let c := s.winCfg w
  let ctr := decide (s.winBase w / 2 ^ 52 = 4)
  if kind = mkSIGNAL then nbits c 2 2 == 1
  else if ctr then false
  else if kind = mkWRITE then nbits c 1 1 == 1 else nbits c 0 0 == 1

/-- Whether what a guest request addresses exists for its partition (R32, R33). -/
def State.guestReaches (s : State) (p : Nat) (m : LinkMsg) : Bool :=
  if m.kind = mkSIGNAL then (s.ctrKey p m.addr).isSome
  else
    let n := if m.kind = mkREAD then m.amount else m.len
    n == 0 || (match s.locate { part := p } (m.kind == mkWRITE) m.addr n with
      | .mem _ => true
      | .far _ => true
      | _ => false)

/-- The weir's checks in their order: the status of the refusal and the code that counts it (R256, R268 to R271). An address fault inside a window is refused too (R33); that it is
counted as WEIR_RIGHTS is a DESIGN CHOICE (log 25). -/
def State.weirCheck (s : State) (m : LinkMsg) : Option (Nat × Nat) :=
  let kindOk := m.kind == mkWRITE || m.kind == mkREAD || (m.kind == mkSIGNAL && s.weir.has wkSIGNAL)
  let amount := if m.kind = mkREAD then m.amount else m.len
  if s.rf (weirBase + 0x10) 15 0 = 0 then some (stOWNER, 0x31)
  else if !kindOk then some (stBADKIND, stBADKIND)
  else if m.kind ≠ mkWRITE && m.len ≠ 0 then some (stBADLEN, stBADLEN)
  else if m.vc ≠ 0 then some (stBADVC, stBADVC)
  else if m.reserved || m.status ≠ 0 || m.fmt ≠ 0 || (m.pmapValid && !s.weir.has wkPOISON) then some (stRESERVED, stRESERVED)
  else if m.kind ≠ mkSIGNAL && decide (s.weirMaxBytes < amount) then some (stBADLEN, 0x32)
  else if m.kind ≠ mkSIGNAL && decide (128 * 32 < m.addr % 32 + amount) then some (stBADLEN, 0x32)
  else match s.windowOf m with
  | none => some (stRIGHTS, 0x30)
  | some w =>
    if !s.windowRight w m.kind then some (stRIGHTS, 0x31)
    else if !s.guestReaches (s.guestPart.getD 0) m then some (stRIGHTS, 0x31)
    else if s.weirMaxOut ≤ s.weir.outstanding then some (stBUSY, 0x33)
    else none

/-- A response leaves for the guest die. -/
def State.weirAnswer (s : State) (m : LinkMsg) : State := { s with weir := { s.weir with answers := m :: s.weir.answers } }

/-- A violation at the weir (R269, R290, R291): counted, logged with the request's ADDR, told at most once per millisecond; 256 in 1 s kill the guest. -/
def State.weirViolation (s : State) (code : Nat) (m : LinkMsg) : State :=
  let (t, s1) := s.clock32
  let (n, s2) := s1.windowed s1.weir.viol1s
  let (tell, s3) := s2.rateOk s2.weir.evented
  let s4 := { s3 with weir := { s3.weir with viol1s := n, evented := true } }
  let s5 := ((s4.bump (weirBase + 0x20) 31 0 1).wr (weirBase + 0x28) (BitVec.ofNat 64 (t * 2 ^ 32 + m.kind % 256 * 2 ^ 16 + m.vc % 4 * 2 ^ 8 + code))).wr
    (weirBase + 0x30) (BitVec.ofNat 64 (m.addr % 2 ^ 57))
  let s6 := if tell then s5.raise (weirEvent s5 code (m.addr % 2 ^ 57)) else s5
  if 256 ≤ n then s6.weirKill 2 else s6

/-- The token buckets gain what their rates give since the last request: a free amount, up to 64 KiB (R270). -/
def State.weirRefill (s : State) : State :=
  let (a, s1) := s.fresh
  let (b, s2) := s1.fresh
  { s2 with weir := { s2.weir with
      rdTokens := min 65536 (s2.weir.rdTokens + a.toNat % 65537), wrTokens := min 65536 (s2.weir.wrTokens + b.toNat % 65537) } }

/-- A request that passes goes on as the guest site's, under WEIR.JOB (R269). -/
def State.weirPass (s : State) (p : Nat) (m : LinkMsg) : State :=
  let w := s.weir
  let own := s.coordOf p
  let w1 := { w with
    outstanding := w.outstanding + 1,
    rdTokens := if m.kind = mkREAD then w.rdTokens - m.amount else w.rdTokens,
    wrTokens := if m.kind = mkWRITE then w.wrTokens - m.len else w.wrTokens }
  let m1 := { m with src := own, dst := own, job := s.rf (weirBase + 0x10) 15 0 }
  let s1 := { s with weir := w1, selfMsgs := s.selfMsgs ++ [{ via := .guest, msg := m1, node := 6, goal := (s.msgHome m1).getD 6 }] }
  if m.kind = mkWRITE then s1.bump (weirBase + 0x148) 63 0 m.len else s1

/-- Pieces that the requests in the guest port's buffer hold of a VC (R262). -/
def State.guestHolds (s : State) (vc : Nat) : Nat := ((s.weir.waiting.filter (fun m => m.vc == vc)).map LinkMsg.leatPieces).sum

/-- The credits that the hurst grants the guest's port, in pieces (R262). -/
def leatGrant : Nat → Nat
  | 0 => 2048 | 1 => 2048 | 2 => 1024 | _ => 0

/-- A request in the guest port's buffer is judged (R268 to R271): refused, kept back while a bucket is empty, or passed on. THROTTLE gains a free number of microseconds when what was
kept back goes on (log 25). -/
def State.guestJudge (s : State) (p : Nat) (m : LinkMsg) : State :=
  let waited := s.weir.waiting.contains m
  let gone (s : State) : State :=
    if waited then
      let (v, s1) := s.fresh
      { s1 with weir := { s1.weir with waiting := s1.weir.waiting.drop 1 } }.bump (weirBase + 0x38) 63 0 v.toNat
    else s
  match s.weirCheck m with
  | some (st, code) => ((gone s).weirAnswer (m.answer (s.coordOf p) st)).weirViolation code m
  | none =>
    let s1 := s.weirRefill
    let empty := if m.kind = mkREAD then decide (s1.weir.rdTokens < m.amount) else if m.kind = mkWRITE then decide (s1.weir.wrTokens < m.len) else false
    if !empty then (gone s1).weirPass p m
    else if waited then s1
    else { s1 with weir := { s1.weir with waiting := s1.weir.waiting ++ [m] } }

/-- A request of the guest die (R268 to R273): a killed or held guest passes nothing. A request that finds others kept back waits behind them (R258); one sent without credit is
discarded and counted (R262, R289). -/
def execGuestRequest (m : LinkMsg) (s : State) : Out := powered s <|
  match s.guestPart with
  | none => .next s
  | some p =>
    if s.weir.killed || s.weir.held || (s.leat guestPort).st ≠ .up then .next s
    else if s.weir.waiting.head? = some m then done s (s.guestJudge p m)
    else if leatGrant m.vc < s.guestHolds m.vc + m.leatPieces then done s (s.weirViolation 0x10 m)
    else if !s.weir.waiting.isEmpty then
      .next (if s.weir.waiting.contains m then s else { s with weir := { s.weir with waiting := s.weir.waiting ++ [m] } })
    else done s (s.guestJudge p m)

/-- WEIR.CTRL.KILL (R272). -/
def execWeirCtrlKill (s : State) : Out := powered s <| done s (s.weirKill 1)

/-- WEIR.JOB: the job of requests that reach the weir from now on (R294). -/
def execWeirJobWrite (v : Word64) (s : State) : Out := powered s <| .next (s.wf (weirBase + 0x10) 15 0 (fld v 15 0))

end Sys2Proof.Machine
end

