-- ==== Sys2Proof/Machine/Fabric.lean ====
section
/-! DEFINITION. The fabric's commands (R295 to R310): the coordinate, the discovery window, level-2 commits and route probes. -/

namespace Sys2Proof.Machine

/-- A link retrains and will not resume: it is judged afresh (R296, R300). -/
def State.retrainAfresh (s : State) (f : Nat) : State :=
  let s1 := s.retrain f
  if (s1.link f).resuming then s1.linkLost f else s1

/-- A triple is accepted only below GROUP_SIZE, in NO_COORD, or after discovery with every cell idle and no counter in use (R295, R296). -/
def State.coordOk (s : State) (plane group member : Nat) : Bool :=
  decide (plane < 16) && decide (group < 64) && decide (member < s.groupSize) && decide (member < 16)
    && (s.validParts.all (fun p => (s.fabric p).st == .noCoord)
      || (s.validParts.all (fun p => (s.fabric p).st != .discovering)
        && (upTo 576).all (fun c => (s.cell c).st == .idle)
        && s.counters.all (fun e => e.2.st != .owned && e.2.st != .frozen)))

/-- The fabric registers of the level-2 plan and routes are cleared. -/
def State.clearLevel2 (s : State) (p : Nat) : State :=
  let s1 := forEach ((upTo 96).filter (fun f => linkLevel f == 2)) s (fun s f => s.wr (fabBase p + 0x1000 + 16 * f) 0)
  let s2 := forEach (upTo 1024) s1 (fun s d => s.wr (fabBase p + 0x4000 + 8 * d) 0)
  s2.wr (fabBase p + 0x20) 0

/-- Whether start-up has brought a partition to the step that applies the coordinate (R422, R425). -/
def State.fabricOn (s : State) (p : Nat) : Bool := !((s.part p).st == .starting && decide ((s.part p).step < 8))

/-- Discovery starts in a partition, and its untrained level-1 links train (R295, R302). -/
def State.discover (s : State) (p : Nat) (train : Bool) : State :=
  let s1 := s.setFabric p { st := .discovering, outcomes := (s.planned1 p).foldl (fun t e => t.put .unplanned e.1 .waiting) [] }
  let s2 := if train then forEach (s1.partLinks p) s1 (fun s f => if (s.link f).st = .down && s.trainable f then s.linkGo f .training else s) else s1
  s2.fabEval p false

/-- A triple is accepted (R295, R296): links in use retrain, keyings restart, the plan is computed anew, and discovery starts; a partition still before step 7 of its
start-up holds it (R425). -/
def State.acceptCoord (s : State) (plane group member : Nat) : State :=
  let first := s.module.coord.isNone
  let ps := s.validParts.filter s.fabricOn
  let s0 := { s with module := { s.module with coord := none } }
  let s1 := forEach ps s0 (fun s p => (s.clearLevel2 p).setFabric p {})
  let s2 := forEach ((upTo 96).filter (fun f => ps.contains (s.linkPart f))) s1 (fun s f =>
    match (s.link f).st with
    | .identified | .active => s.retrainAfresh f
    | .keying =>
      let s1 := if (s.link f).resuming then s.linkLost f else s
      let (r, s2) := s1.freshKey
      s2.setLink f { s2.link f with keyRecs := 0, keyTx := 0, random := r }
    | .retraining => if (s.link f).resuming then s.linkLost f else s
    | _ => s)
  let s3 := { s2 with module := { s2.module with coord := some (plane, group, member) } }
  forEach ps s3 (fun s p => s.discover p first)

/-- The discovery window ends (R301, R302): a planned link that is not IDENTIFIED is MISSING, and the policy decides. -/
def execDiscWindowExpire (p : PartId) (s : State) : Out := powered s <|
  if (s.fabric p).st ≠ .discovering then .next s
  else
    let s1 := forEach (s.planned1 p) s (fun s e => if s.outcome e.1 = .waiting then s.setOutcome e.1 .missing else s)
    done s (s1.fabEval p true)

/-- L2STATUS.BUSY (R310). -/
def State.l2Busy (s : State) (p : Nat) : Bool := s.rb (fabBase p + 0x20) 0
def State.l2Reject (s : State) (p : Nat) : State := s.wb (fabBase p + 0x20) 2 true

/-- The level-2 links of a partition. -/
def State.links2 (s : State) (p : Nat) : List Nat := (s.partLinks p).filter (fun f => linkLevel f == 2)

/-- FAB.L2CTRL.COMMIT (R300). -/
def execL2Commit (p : PartId) (s : State) : Out := powered s <|
  if s.l2Busy p || !(s.partCells p).all (fun c => (s.cell c).st == .idle) then .next (s.l2Reject p)
  else
    let staged (f : Nat) : Word64 := s.rd (fabBase p + 0x1000 + 16 * f)
    let fab := s.fabric p
    let changed := (s.links2 p).filter (fun f => staged f != fab.plan2.get 0 f)
    let s1 := (s.wb (fabBase p + 0x20) 0 true).wb (fabBase p + 0x20) 1 false
    let s2 := forEach changed s1 (fun s f =>
      match (s.link f).st with
      | .identified | .active => s.retrainAfresh f
      | _ => s)
    let fab2 := s2.fabric p
    let keys := (fab2.routes.filter (fun r => decide (16 ≤ r.1))).map (fun r => r.1)
    let s3 := s2.setFabric p { fab2 with
      plan2 := (s.links2 p).foldl (fun t f => t.put 0 f (staged f)) []
      route2 := (upTo 1024).foldl (fun t d => t.put 0 d (s.rd (fabBase p + 0x4000 + 8 * d))) [] }
    let s4 := forEach changed s3 (fun s f => s.setOutcome f (if fld (staged f) 63 62 = 2 then .waiting else .unplanned))
    let s5 := forEach keys s4 (fun s k => (s.setRoute p k { held := (s.route p k).held }).releaseHeld p k)
    done s (forEach (s5.links2 p) s5 (fun s f => if (s.link f).st = .down && s.trainable f then s.linkGo f .training else s))

/-- The commit ends (R300): BUSY falls, DONE rises, and L2STATUS holds the counts. -/
def execL2CommitEnd (p : PartId) (s : State) : Out := powered s <|
  if !s.l2Busy p then .next s
  else
    let planned := (s.links2 p).filter (fun f => (s.planOf f).isSome)
    let s1 := forEach planned s (fun s f => if s.outcome f = .waiting then s.setOutcome f .missing else s)
    let count (o : LinkOutcome) : Nat := (planned.filter (fun f => s1.outcome f == o)).length
    let a := fabBase p + 0x20
    .next (((((s1.wb a 0 false).wb a 1 true).wf a 47 40 (count .matched)).wf a 39 32 (count .miswired)).wf a 31 24 (count .missing))

/-- A staging write (R310). -/
def execPlanStageWrite (p : PartId) (e : PlanEntry) (v : Word64) (s : State) : Out := powered s <|
  .next (match e with
  | .plan f =>
    if s.linkPart f ≠ p then s
    else if linkLevel f ≠ 2 || fld v 63 62 = 1 || fld v 63 62 = 3 || s.l2Busy p then s.l2Reject p
    else s.wr (fabBase p + 0x1000 + 16 * f) (v &&& 0xC0FF_0000_0001_FFFF)
  | .route d => if s.l2Busy p then s.l2Reject p else s.wr (fabBase p + 0x4000 + 8 * d) (v &&& 0xFFFF_FFFF_FE0F_FFFF))

/-- The route key of a destination 16 × group + member. -/
def State.destKey (s : State) (p d : Nat) : Nat := if d / 16 = coGroup (s.coordOf p) then d % 16 else 16 + d

/-- The window of a route's probes ends (R305). -/
def execProbeWindowEnd (p : PartId) (d : BitVec 10) (s : State) : Out := powered s <| done s (s.resolveRoute p (s.destKey p d.toNat))

/-- A RELAY or UNREACHABLE route is probed again (R305). -/
def execRouteReprobeTimer (p : PartId) (d : BitVec 10) (s : State) : Out := powered s <|
  let key := s.destKey p d.toNat
  done s (match (s.route p key).st with
  | .relay | .unreachable => s.probeRoute p key none
  | _ => s)

end Sys2Proof.Machine
end

