-- ==== Sys2Proof/Machine/Messages.lean ====
section
/-! DEFINITION. Link messages at a router (R255 to R257, R266, R297, R303, R306): the checks, what each kind does, relaying, and responses. -/

namespace Sys2Proof.Machine

/-! ### Arrival -/

/-- A message that arrives: the way it came, the message, whether its link admits requests, and the state without it. -/
structure Arrival where
  via : Via
  msg : LinkMsg
  admitted : Bool
  state : State

/-- The port of a receiving port's pair that a message uses while both are in service (R17): bit 12 of the destination address of what names memory, .0 for the rest. -/
def LinkMsg.leatPort (m : LinkMsg) : Nat :=
  if m.kind = mkWRITE || m.kind = mkGRIST || m.kind = mkREAD || m.kind = mkRESP then nbits m.addr 12 12 else 0

/-- Whether a message may use a receiving port: the one R17 gives it, or the other while that one is not in service at both its ends. -/
def State.leatRight (s : State) (p : Nat) (m : LinkMsg) : Bool := match leatMate p with
  | none => true
  | some q => p % 2 == m.leatPort || !s.leatLive q

/-- The next node on the way: along the row first, across rows second, and to or from the hurst over the spoke of the bedstone where the traffic starts or ends (R16). -/
def leatNext (i j : Nat) : Option Nat :=
  if i = j then none else if i = 6 then some j else if j = 6 then some 6 else (leatPath i j)[1]?

/-- Whether a message waits at the sending end of a receiving port, on its way. -/
def State.leatQueued (s : State) (p : Nat) (x : Transit) : Bool :=
  ((leatPeer p).map leatNode) == some x.node && leatNext x.node x.goal == some (leatNode p) && s.leatRight p x.msg

/-- Where the message stands that is the next of its VC on a port (R258); none when the one named is not. -/
def State.leatFirst (s : State) (p : Nat) (m : LinkMsg) : Option Nat :=
  match findIdx (fun x => s.leatQueued p x && x.msg.vc == m.vc) s.selfMsgs with
  | some i => if (s.selfMsgs[i]?).map (fun x => x.msg) = some m then some i else none
  | none => none

/-- A message leaves the sending end of a port, its header still to be judged at the receiving end: with credits for the whole of it and a place among the 256 that await
acknowledgement (R261, R262); a message that a NAK has left unaccepted goes first, with the sequence that it has. The place of the message, and the state. -/
def State.leatSend (s : State) (p : Nat) (m : LinkMsg) : Option (Nat × State) :=
  if !s.leatLive p then none
  else match leatPeer p, s.leatFirst p m with
  | some q, some i =>
    let k := leatPair q
    let x := s.leat k
    let next := (s.leat (leatPair p)).rxNext
    if next ≠ x.txSeq then
      (if x.unacked.any (fun u => u.1 == next && u.2 == m) then some (i, s.bump (leatBase q + 0x28) 63 0 1) else none)
    else if (s.leat q).credit m.vc < m.leatPieces || 256 ≤ x.unacked.length then none
    else
      let s1 := s.setLeat q ((s.leat q).spend m.vc m.leatPieces)
      some (i, s1.setLeat k { s1.leat k with unacked := (s1.leat k).unacked ++ [(x.txSeq, m)], txSeq := (x.txSeq + 1) % 2 ^ 16 })
  | _, _ => none

/-- The message with the pieces of its data area that an error has turned to poison on the way (R260). -/
def LinkMsg.hurt (m : LinkMsg) (ue : List Nat) : LinkMsg :=
  let bad := ue.eraseDups.filter (fun i => decide (i < m.pieces))
  if bad.isEmpty then m else { m with pmapValid := true, pmap := (if m.pmapValid then m.pmap else []) ++ bad.filter (fun i => !(m.pmapValid && m.pmap.contains i)) }

/-- A message crosses a port and is accepted in sequence (R260, R261): where it stands, and the state with it at the next node. -/
def State.leatCarry (s : State) (p : Nat) (m : LinkMsg) (ce : Nat) (ue : List Nat) : Option (Nat × State) :=
  (s.leatSend p m).map (fun (i, s1) =>
    let k := leatPair p
    let n := (ue.eraseDups.filter (fun j => decide (j < m.pieces))).length
    let s2 := s1.setLeat k { s1.leat k with rxNext := ((s1.leat k).rxNext + 1) % 2 ^ 16 }
    let s3 := ((s2.bump (leatBase p + 0x38) 63 0 (32 * m.leatPieces)).bump (leatBase p + 0x18) 31 0 ce).bump (leatBase p + 0x20) 31 0 n
    (i, { s3 with selfMsgs := match s3.selfMsgs[i]? with
      | some x => setAt s3.selfMsgs i { x with msg := m.hurt ue, node := leatNode p }
      | none => s3.selfMsgs }))

/-- What a row's message comes to: nothing, a hop on its way, or its destination's router. -/
inductive Came where
  | no
  | onward (s : State)
  | here (a : Arrival)

/-- The message that stands at a place of the leat's list, taken at the router of its destination; one that has further to go stays on its way. -/
def State.takeAt (s : State) (i : Nat) : Came := match s.selfMsgs[i]? with
  | none => .no
  | some x => if x.node = x.goal then .here { via := x.via, msg := x.msg, admitted := true, state := { s with selfMsgs := dropAt s.selfMsgs i } } else .onward s

/-- The message that a row names, when it is there and of a kind of that row. -/
def State.arrive (s : State) (m : MsgIn) (kindOk : Nat → Bool) : Came :=
  match m with
  | .inbox f => match (s.link f).inbox with
    | [] => .no
    | (x, adm) :: rest =>
      if !kindOk x.kind then .no
      else .here { via := .flume f, msg := x, admitted := adm, state := s.setLink f ({ s.link f with inbox := rest }.release x.vc x.slots) }
  | .leat p x ce ue =>
    if !kindOk x.kind then .no
    else match s.leatCarry p x ce ue with
    | some (i, s1) => s1.takeAt i
    | none => .no
  | .self x =>
    if !kindOk x.kind then .no
    else match findIdx (fun y : Transit => y.node == y.goal && y.msg == x) s.selfMsgs with
    | some i => s.takeAt i
    | none => .no

/-- An uncorrectable header piece at a receiving port (R260, R265): the message is discarded and counted, and the NAK makes the sender send it again from its sequence. -/
def execLeatHeaderNak (p : LeatId) (m : LinkMsg) (s : State) : Out := powered s <|
  let x := s.leat p
  if x.st ≠ .up then .next s
  else match (if p.val = guestPort then some (0, s) else s.leatSend p m) with
  | none => .next s
  | some (_, s1) =>
    let (n, s2) := s1.windowed x.hdrErrs
    .next ((s2.setLeat p { s2.leat p with hdrErrs := n }).bump (leatBase p + 0x20) 63 32 1)

/-- The receiving router's acknowledgement frees every message up to a sequence that it has accepted (R261). -/
def execLeatSeqAck (p : LeatId) (seq : Nat) (s : State) : Out := powered s <|
  let k := leatPair p
  let x := s.leat k
  let next := match leatPeer p with
    | some q => (s.leat (leatPair q)).rxNext
    | none => x.txSeq
  let accepted := x.unacked.length - (x.txSeq + 2 ^ 16 - next) % 2 ^ 16
  .next (match findIdx (fun u : Nat × LinkMsg => u.1 == seq % 2 ^ 16) x.unacked with
    | some i => if i < accepted then s.setLeat k { x with unacked := x.unacked.drop (i + 1) } else s
    | none => s)

/-- The partition at whose router a message arrives. -/
def State.arrivalPart (s : State) (a : Arrival) : Nat := match a.via with
  | .flume f => s.linkPart f
  | _ => coPart a.msg.dst

/-! ### Refusals and responses -/

def isRequest (kind : Nat) : Bool := decide (1 ≤ kind) && decide (kind ≤ 5)

/-- Count a violation on the link that a message came over. -/
def State.msgViolation (s : State) (via : Via) (code : Nat) (m : LinkMsg) : State := match via with
  | .flume f => s.violation f code m.kind m.vc
  | _ => s

/-- The node that answers a request: the one that holds what it addresses, else the one where it started. -/
def State.answerNode (s : State) (via : Via) (m : LinkMsg) : Nat := (s.msgHome m).getD (match via with
  | .guest => 6
  | .flume f => f / 16
  | _ => match s.reqs.find? (fun r => r.txid == m.txid && r.via == .self) with
    | some r => srcNode r.src
    | none => 6)

/-- Answer a request with a status and no data. -/
def State.reply (s : State) (p : Nat) (via : Via) (m : LinkMsg) (status : Nat) : State :=
  s.respond p via (s.answerNode via m) (m.answer (s.coordOf p) status)

/-- Answer a READ_REQ with data. -/
def State.replyData (s : State) (p : Nat) (via : Via) (m : LinkMsg) (bs : List PByte) : State :=
  s.respond p via (s.answerNode via m) ((m.answer (s.coordOf p) stOK).withData bs)

/-- Bytes that a request's data area, or its response's, covers. -/
def LinkMsg.span (m : LinkMsg) : Nat := if m.kind = mkREAD then m.amount else m.len

/-- LEN or the data area breaks R255, or the kind's own length rule (R254, R256). -/
def LinkMsg.badLength (m : LinkMsg) : Bool :=
  if m.kind = mkMILLRACE then m.len != 4096
  else if (m.kind = mkREAD || m.kind = mkSIGNAL) && m.len ≠ 0 then true
  else if m.kind = mkGRIST && (m.len % 256 ≠ 0 || m.addr % 256 ≠ 0) then true
  else if m.kind = mkSIGNAL then false
  else decide (4096 < m.span) || decide (128 * 32 < m.addr % 32 + m.span)

/-- The checks of a received request that are violations, in ascending order of status (R256). -/
def State.requestFault (s : State) (a : Arrival) : Option Nat :=
  let m := a.msg
  let featureOk := match a.via, kindFeature m.kind with
    | .flume f, some b => (s.link f).has b
    | _, _ => true
  if !isRequest m.kind then some stBADKIND
  else if m.badLength then some stBADLEN
  else if m.vc ≠ 0 && m.vc ≠ 2 then some stBADVC
  else if m.reserved || m.status ≠ 0 || (if m.kind = mkGRIST then decide (4 < m.fmt) else m.fmt != 0) then some stRESERVED
  else if !featureOk then some stFEATURE
  else if !a.admitted then some stNOTADM
  else none

/-- A route probe (R306). -/
def LinkMsg.isProbe (m : LinkMsg) : Bool := m.kind == mkREAD && m.job == 0 && m.addr == 0 && m.amount == 0

/-! ### Relaying (R303, R304) -/

/-- A request for another package: forwarded on VC 2 over this package's direct links, or answered NO_ROUTE or FEATURE. -/
def State.relay (s : State) (p : Nat) (a : Arrival) : State :=
  let m := a.msg
  let key := s.routeKey p m.dst
  let forwardOk := match a.via with
    | .flume f => (s.link f).has featFORWARD
    | _ => true
  if m.vc = 2 then s.reply p a.via m stNOROUTE
  else if !forwardOk then
    (if m.isProbe then s.reply p a.via m stFEATURE else (s.reply p a.via m stFEATURE).msgViolation a.via stFEATURE m)
  else if coPlane m.dst ≠ coPlane (s.coordOf p) then s.reply p a.via m stNOROUTE
  else match s.directLinks p key with
  | [] => s.reply p a.via m stNOROUTE
  | fs =>
    let g := pickLink fs m.hash
    let ok := match kindFeature m.kind with
      | some b => (s.link g).has b
      | none => true
    if !ok then s.reply p a.via m stFEATURE
    else
      let s1 := (s.queueTx g { m with vc := 2 }).bump (fabBase p + 0x28) 63 0 1
      { s1 with reqs := s1.reqs ++ [{ txid := m.txid, kind := m.kind, via := .flume g, src := .relay a.via m.txid, addr := m.addr, peer := m.src }] }

/-- A response for another package goes on over a direct link, on VC 2: one that a relay set has brought here (R304), or one whose request's link is no longer ACTIVE. -/
def State.forwardResp (s : State) (p : Nat) (m : LinkMsg) : State :=
  match s.directLinks p (s.routeKey p m.dst) with
  | [] => s
  | fs => (s.queueTx (pickLink fs m.hash) { m with vc := 2 }).bump (fabBase p + 0x28) 63 0 1

/-- A response for another package goes back over the link that its request came on while that link is ACTIVE, else like a request, on VC 2 (R304). -/
def State.relayBack (s : State) (p : Nat) (r : Req) (m : LinkMsg) : State :=
  let s1 := s.dropReq r
  match r.src with
  | .relay (.flume f) _ =>
    if (s1.link f).st = .active then (s1.queueTx f { m with vc := 2 }).bump (fabBase p + 0x28) 63 0 1 else s1.forwardResp p m
  | _ => s1

/-! ### Requests of this package (R256, R266, R306, R372) -/

/-- Whether a partition answers as a lost region does: it fails, has failed or has stopped (R266, R372). -/
def State.partDead (s : State) (p : Nat) : Bool := match (s.part p).st with
  | .failing | .dumping | .failed | .stopped => true
  | _ => false

/-- Whether a partition answers every request with BUSY: it is being dressed (R256, R292) or has not started. -/
def State.partBusy (s : State) (p : Nat) : Bool := (s.part p).st == .dressing || (s.part p).st == .starting

/-- Poison of a READ_REQ's whole data area (R266). -/
def LinkMsg.allPoison (m : LinkMsg) : List PByte := List.replicate m.amount (0, true)

/-- Judge a request and, if it is sound and addressed to a live partition of this package, give it its effect. -/
def State.request (s : State) (a : Arrival) (f : State → Nat → State) : State :=
  let m := a.msg
  let p := s.arrivalPart a
  match s.requestFault a with
  | some st => if m.isProbe then s.reply p a.via m st else (s.reply p a.via m st).msgViolation a.via st m
  | none =>
    let d := coPart m.dst
    if coPackage m.dst ≠ coPackage (s.coordOf p) then s.relay p a
    else if !s.partValid d then s.reply p a.via m stNOPART
    else if m.isProbe then s.reply p a.via m (if (s.part d).st = .dressing then stBUSY else stOK)
    else if s.partBusy d then s.reply p a.via m stBUSY
    else if s.partDead d then (if m.kind = mkREAD then s.replyData p a.via m m.allPoison else s.reply p a.via m stBUSY)
    else f s d

/-- Whether a data address names a space that remote operations may target: 0, 2 or 3 (R36). -/
def spaceOk (addr : Nat) : Bool := decide (addr < 4 * 2 ^ 52) && (addr / 2 ^ 52 == 0 || addr / 2 ^ 52 == 2 || addr / 2 ^ 52 == 3)

/-- The same for a request's way: a guest request that passed the weir is no remote operation, and may name space 1 as well (R269). -/
def msgSpaceOk (via : Via) (addr : Nat) : Bool := spaceOk addr || (via == .guest && addr / 2 ^ 52 == 1)

/-- The pond unit's incoming slot (R382). -/
def State.incomingSlot (s : State) (p : Nat) : Nat := s.pondBase p + (1 - (s.part p).pond.cur) * s.slotSize p

/-- Bytes of a generation header in a slot: the number at an offset. -/
def State.slotNum (s : State) (p slotBase o n : Nat) : Nat := ofBytes (s.readB (memKey0 p (slotBase + o)) n)

/-- A far entry that the drain leaves unfinished is INCOMPLETE (R385): its header's STATE byte is 0. -/
def State.stopDrain (s : State) (p : Nat) : State :=
  let x := (s.part p).pond
  if !x.draining then s
  else
    let b := pondBaseReg p
    let gens := s.rf (b + 0x70) 63 60
    let prev := s.pondBase p + (1 - x.cur) * s.slotSize p
    let entry := s.slotNum p prev 0x14 4 % gens
    let off := s.rf (b + 0x70) 56 12 * 4096 % 2 ^ 52 + entry * s.slotSize p
    let s1 := if off + 8 ≤ s.farAvail p then s.setFarByte p (s.farStart p + off + 4) 0 else s
    s1.pondPut p { x with draining := false }

/-- A copy's WRITE at the holder (R382): into the incoming slot; a COMPLETE header makes that slot current and starts the far drain of the previous one (R386). -/
def State.pondHold (s : State) (p : Nat) (m : LinkMsg) : State :=
  let s0 := s.stopDrain p
  let slot := s0.incomingSlot p
  let s1 := s0.storePB (memKey0 p (slot + m.addr)) m.bytes
  let complete := decide (m.addr ≤ 4) && decide (4 < m.addr + m.len) && s1.slotNum p slot 0 4 == 0x444E_4F50 && s1.slotNum p slot 4 1 == 1
  if !complete then s1
  else
    let x := (s1.part p).pond
    let b := pondBaseReg p
    let s2 := s1.pondPut p { x with cur := 1 - x.cur, curValid := true, curGen := s1.slotNum p slot 0x14 4, draining := x.curValid && s1.rf (b + 0x70) 63 60 != 0 }
    s2.wr (b + 0x80) (BitVec.ofNat 64 (s1.slotNum p slot 8 8))

/-- A WRITE of JOB 0x0000 (R382, R386): returned data while ACCEPTING from its sender, or a copy from the POND.HOLD coordinate; any other is refused. -/
def State.writeJob0 (s : State) (p : Nat) (m : LinkMsg) : Nat × State :=
  let b := pondBaseReg p
  if (s.part p).pond.accepting && s.rb (b + 0x68) 63 && s.rf (b + 0x68) 16 0 = m.src then
    (if s.userTop p < m.addr + m.len then (stRIGHTS, s)
     else if s.runLost (memKey0 p m.addr) m.len then (stBUSY, s)
     else (stOK, s.storePB (memKey0 p m.addr) m.bytes))
  else if s.rb (b + 8) 63 && s.rf (b + 8) 16 0 = m.src && m.addr + m.len ≤ s.slotSize p then (stOK, s.pondHold p m)
  else (stRIGHTS, s)

/-- A WRITE to a partition (R233, R255, R256). -/
def State.writeMsg (s : State) (p : Nat) (via : Via) (m : LinkMsg) : Nat × State :=
  if m.job = 0 then s.writeJob0 p m
  else if !msgSpaceOk via m.addr then (stSPACE, s)
  else if m.len = 0 then (stOK, s)
  else match s.locate { part := p } true m.addr m.len with
  | .mem k => if s.runLost k m.len then (stBUSY, s) else (stOK, s.storePB k m.bytes)
  | .far b => if s.farUp b m.len then (stOK, s.farStore p b m.bytes) else (stBUSY, s)
  | _ => (stRIGHTS, s)

/-- The busy set that a sound request's access waits for, if any (R35, R113). -/
def State.msgHeld (s : State) (a : Arrival) : Option (Nat × Nat) :=
  let m := a.msg
  if (s.requestFault a).isNone && coPackage m.dst == coPackage (s.coordOf (s.arrivalPart a)) && spaceOk m.addr then
    s.waitsOn { part := coPart m.dst } (m.kind == mkWRITE) m.addr m.span
  else none

/-- A WRITE, or a reserved kind, reaches a router (R256). -/
def execMsgWrite (m : MsgIn) (s : State) : Out := powered s <|
  match s.arrive m (fun k => k == mkWRITE || !(isRequest k || k == mkRESP || k == mkACK)) with
  | .no => .next s
  | .onward s1 => .next s1
  | .here a => match s.msgHeld a with
    | some d => .next (s.hold d (.cmd (.msgWrite m)))
    | none => done s ((a.state.unhold (.cmd (.msgWrite m))).request a (fun s p =>
      let (st, s1) := s.writeMsg p a.via a.msg
      s1.reply p a.via a.msg st))

/-- A GRIST (R236, R256). -/
def State.gristMsg (s : State) (p : Nat) (m : LinkMsg) : Nat × State :=
  if m.addr / 2 ^ 52 ≠ 0 then (stSPACE, s)
  else if m.len = 0 then (stOK, s)
  else match s.locate { part := p } true m.addr m.len with
  | .mem k =>
    if s.runLost k m.len then (stBUSY, s)
    else
    let bs := m.bytes
    (stOK, forEach (upTo (m.len / 256)) s (fun s i =>
      let g := (bs.drop (256 * i)).take 256
      s.gristGranule (k + 256 * i) m.fmt (g.map (fun x => x.1)) (g.any (fun x => x.2))))
  | _ => (stRIGHTS, s)

/-- A GRIST reaches a router (R256). -/
def execMsgGrist (m : MsgIn) (s : State) : Out := powered s <|
  match s.arrive m (fun k => k == mkGRIST) with
  | .no => .next s
  | .onward s1 => .next s1
  | .here a => done s (a.state.request a (fun s p =>
      let (st, s1) := s.gristMsg p a.msg
      s1.reply p a.via a.msg st))

/-- A READ_REQ reaches a router (R256). -/
def execMsgReadReq (m : MsgIn) (s : State) : Out := powered s <|
  match s.arrive m (fun k => k == mkREAD) with
  | .no => .next s
  | .onward s1 => .next s1
  | .here a => match s.msgHeld a with
    | some d => .next (s.hold d (.cmd (.msgReadReq m)))
    | none => done s ((a.state.unhold (.cmd (.msgReadReq m))).request a (fun s p =>
      let x := a.msg
      if !msgSpaceOk a.via x.addr then s.reply p a.via x stSPACE
      else if x.amount = 0 then s.reply p a.via x stOK
      else match s.locate { part := p } false x.addr x.amount with
      | .mem k =>
        let (bs, s1) := s.loadPB k x.amount
        s1.replyData p a.via x bs
      | .far b =>
        if s.farUp b x.amount then
          let (bs, s1) := s.farLoad p b x.amount
          s1.replyData p a.via x bs
        else s.reply p a.via x stBUSY
      | _ => s.reply p a.via x stRIGHTS))

/-- The status that answers a SIGNAL (R256, R266). -/
def signalStatus : SyncStatus → Nat
  | .ok => stOK
  | .owner => stOWNER
  | .abandoned => stABANDONED
  | .lost => stBUSY
  | _ => stRIGHTS

/-- A SIGNAL reaches a router (R197, R208, R256). -/
def execMsgSignal (m : MsgIn) (s : State) : Out := powered s <|
  match s.arrive m (fun k => k == mkSIGNAL) with
  | .no => .next s
  | .onward s1 => .next s1
  | .here a => done s (a.state.request a (fun s p =>
      let x := a.msg
      if 2 ^ 52 ≤ x.addr then s.reply p a.via x stSPACE
      else
        let g : Signal := { part := p, offset := x.addr, amount := BitVec.ofNat 64 x.amount, job := x.job, src := .remote x.src (BitVec.ofNat 64 x.seq) }
        let (st, s1) := s.landSignal g
        s1.reply p a.via x (signalStatus st)))

/-- The tile that a MILLRACE message carries (R126, R254). -/
def LinkMsg.tile (m : LinkMsg) : Tile :=
  { tag := m.amount % 2 ^ 16, job := m.job, elems := (upTo 1024).map (fun i => BitVec.ofNat 32 (ofBytes ((m.data.drop (4 * i)).take 4))),
    poison := if m.pmapValid then m.pmap else [] }

/-- Whether a MILLRACE message finds the receive buffer of its cell full: it waits (R127). -/
def State.millraceWaits (s : State) (a : Arrival) : Bool :=
  let m := a.msg
  let c := m.addr % 1024
  (s.requestFault a).isNone && coPackage m.dst == coPackage (s.coordOf (s.arrivalPart a)) && decide (c < 576)
    && s.tileOk c m.src (m.seq % 1024) m.job && decide (2 ≤ (s.cell c).rxTiles.length)

/-- A MILLRACE reaches a router (R128, R129, R256). -/
def execMsgMillrace (m : MsgIn) (s : State) : Out := powered s <|
  match s.arrive m (fun k => k == mkMILLRACE) with
  | .no => .next s
  | .onward s1 => .next s1
  | .here a =>
    if s.millraceWaits a then .next s
    else done s (a.state.request a (fun s p =>
      let x := a.msg
      let c := x.addr % 1024
      if 576 ≤ c || s.cellPart c ≠ p then s.reply p a.via x stRIGHTS
      else if s.tileOk c x.src (x.seq % 1024) x.job then (s.tileIn c x.tile).reply p a.via x stOK
      else (s.tileRefused c).reply p a.via x stJOB))

/-! ### Responses (R257, R271, R289) -/

/-- A response to a request of the guest die: its data goes on as R271 says, or is discarded once the guest is killed. -/
def State.guestResponse (s : State) (m : LinkMsg) : State :=
  let s1 := { s with weir := { s.weir with outstanding := s.weir.outstanding - 1 } }
  if s.weir.killed then s1
  else if m.pmapValid && !s.weir.has wkPOISON then s1.weirAnswer { m with status := stRIGHTS, data := [], len := 0, pmap := [], pmapValid := false }
  else (s1.weirAnswer m).bump (weirBase + 0x140) 63 0 m.len

/-- The outstanding request that a response answers. -/
def State.requestOf (s : State) (m : LinkMsg) : Option Req :=
  s.reqs.find? (fun r => r.txid == m.txid && !r.retry && (r.kind == mkREAD) == (m.kind == mkRESP) && (match r.src with
    | .relay _ _ => r.peer == m.dst
    | _ => r.peer == m.src))

/-- A stray response is discarded (R257, R289): it counts as a violation, but for one whose request has ended without a response. -/
def State.stray (s : State) (via : Via) (m : LinkMsg) : State :=
  if s.ended.any (fun e => e.1 == m.txid && (e.2 == m.src || e.2 == m.dst)) then s else s.msgViolation via 0x12 m

/-- A response arrives. -/
def State.response (s : State) (a : Arrival) : State :=
  let m := a.msg
  let p := s.arrivalPart a
  if a.via = .guest then s.guestResponse m
  else if m.vc = 0 then (s.reply p a.via m stBADKIND).msgViolation a.via stBADKIND m
  else if m.vc = 3 then s.msgViolation a.via stBADVC m
  else if m.reserved then s.msgViolation a.via stRESERVED m
  else match s.requestOf m with
  | none => if coPackage m.dst ≠ coPackage (s.coordOf p) && m.vc == 1 then s.forwardResp p m else s.stray a.via m
  | some r => match r.src with
    | .relay _ _ => s.relayBack p r m
    | _ =>
      if m.kind = mkRESP && m.status = stOK && m.len ≠ r.amount then s.msgViolation a.via stBADLEN m
      else s.endReq r (some m)

/-- A READ_RESP reaches a router (R257). -/
def execMsgReadResp (m : MsgIn) (s : State) : Out := powered s <|
  match s.arrive m (fun k => k == mkRESP) with
  | .no => .next s
  | .onward s1 => .next s1
  | .here a => done s (a.state.response a)

/-- An ACK reaches a router (R257). -/
def execMsgAck (m : MsgIn) (s : State) : Out := powered s <|
  match s.arrive m (fun k => k == mkACK) with
  | .no => .next s
  | .onward s1 => .next s1
  | .here a => done s (a.state.response a)

end Sys2Proof.Machine
end

