-- ==== Sys2Proof/Machine/EngineBegin.lean ====
section
/-! DEFINITION. How an engine begins the command at the head of its queue (R61, R65, R67, R78, R112, R119, R159, R202), and accesses to busy sets (R35, R113). -/

namespace Sys2Proof.Machine

/-! ### Busy sets (R113) -/

/-- Whether the requester of a held access still wants it. -/
def State.heldAlive (s : State) (h : Held) : Bool :=
  match h.who with
  | .core c q => (s.cell c).sts.any (fun t => t.seq == q) || (s.cell c).ld.any (fun l => l.seq == q)
  | .fetch c => !(s.cell c).fetches.isEmpty
  | .desc b ch q => (s.slotOf b ch q).isSome
  | .cmd _ => true

/-- Whether an access held on a set of a cell is still to be performed. -/
def State.setWanted (s : State) (d n : Nat) : Bool := s.held.any (fun h => h.cell == d && h.set == n && s.heldAlive h)

/-! ### Beginning (R61) -/

/-- A command whose unit is the grid's issue stage; the others use the tailrace (R119). -/
def usesGrid (w : Word128) : Bool := wcode w == cTDLD || wcode w == cAFILL || wcode w == cMMA

/-- Whether a begun command keeps the unit that `w` needs (R119): the grid's issue stage, the tailrace with its adders, or the millrace port. An MRED keeps the port until it
finishes, and the adders only while it does not wait for a tile, for credit or for acceptance. -/
def ArrX.keeps (y : ArrX) (w : Word128) : Bool :=
  !y.finished && (if usesGrid w then usesGrid y.cmd.word
    else if wcode w == cMRED then !usesGrid y.cmd.word
    else !usesGrid y.cmd.word && y.wait == .none)

/-- Whether the array may begin a command: its unit and its set are free, and no held access waits for the set (R112, R113, R119). -/
def State.arrayFree (s : State) (c : Nat) (w : Word128) : Bool :=
  let x := s.cell c
  let n := fld w 111 110
  !x.xArray.any (fun y => y.keeps w) && (wcode w == cTDLD || (!x.setBusy n && !s.setWanted c n))

/-- Whether the sluice queue's head may begin (R159). -/
def State.sluiceFree (s : State) (c : Nat) (w : Word128) : Bool :=
  let b := cellBlock c
  let ch := cellChan c (fld w 111 110)
  let x := s.chan b ch
  !(s.cell c).xSluice.any (fun y => !y.2) && (
    if wcode w = cSDESC then decide (x.slots.length < 4) && !s.chHalted b ch && x.armed.isNone
    else if wcode w = cSARM then x.armed.isNone || !x.slots.any Desc.persist
    else true)

/-- Whether the sync engine may begin a command (R202). -/
def Cell.syncFree (x : Cell) (w : Word128) : Bool :=
  !x.xSync.any (fun y => match y.ph with
    | .begun | .flying | .waiting | .shutWait => true
    | _ => false)
  && (wcode w != cSIGR || decide ((x.xSync.filter (fun y => y.ph == .ackWait)).length < 8))

/-- Whether an engine of a cell is free for a command. The vector engine begins one when the previous one's last group has issued, or, if that has no groups, when it has completed
(R148). -/
def State.engineFree (s : State) (c : Nat) (u : CUnit) (w : Word128) : Bool :=
  match u with
  | .array => s.arrayFree c w
  | .vector => (s.cell c).xVector.all (fun y => y.total != 0 && y.groups == y.total)
  | .sluice => s.sluiceFree c w
  | .sync => (s.cell c).syncFree w
  | .core => false

/-- Whether a cell's state lets queued commands begin (R78). -/
def CellState.begins : CellState → Bool
  | .running | .draining | .fetching => true
  | _ => false

/-- Move a command from its queue to its engine. -/
def Cell.begin (x : Cell) (u : CUnit) (q : QCmd) (nanCfg : Nat) : Cell :=
  match u with
  | .array => { x with xArray := x.xArray ++ [{ cmd := q, nanCfg := nanCfg }] }
  | .vector => { x with xVector := x.xVector ++ [{ cmd := q, nanCfg := nanCfg }] }
  | .sluice => { x with xSluice := x.xSluice ++ [(q, false)] }
  | .sync => { x with xSync := x.xSync ++ [{ cmd := q }] }
  | .core => x

/-- The scope of a counter of space 4, by its offset (R67). -/
def ctrScope (off : Nat) : Nat := if off < 0x8000 then 3 else if off < 0x20_0000 then 2 else 1

/-- The counter that a descriptor signals is its LCTR, or its RCTR when the destination is remote (R160). -/
def Desc.relScope (d : Desc) : Nat :=
  if d.remote = 2 then (if d.rctrEn then 4 else 0) else if d.lctrEn then ctrScope d.lctr else 0

/-- The release scope of a command (R67): that of the counter it signals. -/
def State.relScope (s : State) (c : Nat) (w : Word128) : Nat :=
  let code := wcode w
  if code = cSIG then ctrScope (syOffset w)
  else if code = cSIGR then 4
  else if code = cSDESC then Desc.relScope { raw := BitVec.ofNat 512 (ofBytes (s.readB (cellKey c (fld w 109 88)) 64)), cell := c, seq := 0, job := 0 }
  else if code = cSARM then ((s.chan (cellBlock c) (cellChan c (fld w 111 110))).armed.map Desc.relScope).getD 0
  else 0

/-- An engine begins the command at the head of its queue (R61): the engine is free, no fence holds the queue, a release waits for everything earlier (R67), and the
cell's state lets it. -/
def execEngineCommandBegin (c : CellId) (u : CUnit) (s : State) : Out := powered s <|
  let x := s.cell c
  match x.queue u with
  | [] => .next s
  | q :: rest =>
    if !x.st.begins || !s.clocked c || x.fenceHolds u q.seq || (wREL q.word && !x.earlierDone 31 (s.relScope c q.word) q.seq) || !s.engineFree c u q.word then .next s
    else .next (s.setCell c ((x.setQueue u rest).begin u q (s.nanCfg c)))

end Sys2Proof.Machine
end

