-- ==== Sys2Proof/Machine/Envelope.lean ====
section
/-! DEFINITION. The wire form of Huaza messages (R315, R316, R320), the keys of a session (R319), sealed units (R330), and the frames of the shared port (R311, R312). -/

namespace Sys2Proof

open Sys2Proof.Machine

/-- The fields of a header as they are judged. -/
def HzHead.version (h : HzHead) : Nat := h.major.toNat * 256 + h.minor.toNat
def HzHead.response (h : HzHead) : Bool := bit h.flags 0
def HzHead.sealedMsg (h : HzHead) : Bool := bit h.flags 1
/-- A reserved field or flag of a request is not zero (R315, R324); a request that claims to be a response has a flag its type does not define (log 32). -/
def HzHead.reserved (h : HzHead) : Bool := h.response || fld h.flags 7 2 != 0 || h.status != 0 || h.rsvd != 0 || h.bodyRsvd

end Sys2Proof

namespace Sys2Proof.Machine

/-! ### The header (R315) -/

/-- The 24-byte header of a message. -/
def hzHeader (version type flags bodyLen status session seq : Nat) : List Byte :=
  toBytes 1 (version / 256) ++ toBytes 1 version ++ toBytes 1 type ++ toBytes 1 flags ++ toBytes 2 bodyLen ++ toBytes 2 status ++ toBytes 4 session
    ++ toBytes 4 0 ++ toBytes 8 seq

/-- The TYPE and the header that a payload begins with. -/
def parseHuaza (src : BitVec 128) (tagOk : Bool) (bs : List Byte) : Nat × HzHead :=
  let at8 (o n : Nat) : Nat := ofBytes ((bs.drop o).take n)
  (at8 2 1, { src := src, major := BitVec.ofNat 8 (at8 0 1), minor := BitVec.ofNat 8 (at8 1 1), flags := BitVec.ofNat 8 (at8 3 1), bodyLen := BitVec.ofNat 16 (at8 4 2)
              status := BitVec.ofNat 16 (at8 6 2), session := BitVec.ofNat 32 (at8 8 4), rsvd := BitVec.ofNat 32 (at8 0xC 4), seq := BitVec.ofNat 64 (at8 0x10 8), tagOk := tagOk })

/-! ### Nonces and keys (R319, R320) -/

/-- The nonce of a sealed management message: the direction's salt, FLAGS.RESPONSE, SEQ[62:0]. -/
def hzNonce (salt : BitVec 32) (response : Bool) (seq : Nat) : BitVec 96 :=
  BitVec.ofNat 96 (salt.toNat * 2 ^ 64 + b2n response * 2 ^ 63 + seq % 2 ^ 63)

/-- A response of a session: sealed, under the version of the session. -/
def Session.reply (x : Session) (type : Nat) (seq : Word64) (st : Nat) (body : List Byte) : HostOut :=
  .response type seq x.id st body x.version (some (hzNonce x.txSalt true seq.toNat))

/-- An EVENT of a session. -/
def Session.eventOut (x : Session) (m : EventMsg) : HostOut := .event x.id m x.version (hzNonce x.txSalt false m.seq)

/-- The `n` bytes, at most 48, that the SPDM key schedule's bin-concat expansion of an application secret gives for a label: HKDF-Expand over length, version prefix and label
(SPDM's layout, PRESUMED, log 3). -/
def spdmExpand (secret : BitVec 384) (label : List Nat) (n : Nat) : Nat :=
  let info := toBytes 2 n ++ natBytes ([0x73, 0x70, 0x64, 0x6D, 0x31, 0x2E, 0x33, 0x20] ++ label)
  (hmac384 (toBytes 48 secret.toNat) (info ++ [1])).toNat % 2 ^ (8 * n)

def hzLABEL : List Nat := [0x68, 0x7A, 0x20]
/-- "hz key", "hz salt", "hz bulk key" and "hz bulk salt". -/
def labelKEY : List Nat := hzLABEL ++ [0x6B, 0x65, 0x79]
def labelSALT : List Nat := hzLABEL ++ [0x73, 0x61, 0x6C, 0x74]
def labelBULK : List Nat := hzLABEL ++ [0x62, 0x75, 0x6C, 0x6B, 0x20]

/-- The session holds the four values of each direction that its application secrets give (R319). -/
def Session.keyed (x : Session) (handshake : Word64) : Session :=
  let rx := Config.spdmSecret handshake 0
  let tx := Config.spdmSecret handshake 1
  { x with
    rxKey := BitVec.ofNat 256 (spdmExpand rx labelKEY 32), rxSalt := BitVec.ofNat 32 (spdmExpand rx labelSALT 4)
    rxBulk := BitVec.ofNat 256 (spdmExpand rx (labelBULK ++ [0x6B, 0x65, 0x79]) 32), rxBulkSalt := BitVec.ofNat 32 (spdmExpand rx (labelBULK ++ [0x73, 0x61, 0x6C, 0x74]) 4)
    txKey := BitVec.ofNat 256 (spdmExpand tx labelKEY 32), txSalt := BitVec.ofNat 32 (spdmExpand tx labelSALT 4)
    txBulk := BitVec.ofNat 256 (spdmExpand tx (labelBULK ++ [0x6B, 0x65, 0x79]) 32), txBulkSalt := BitVec.ofNat 32 (spdmExpand tx (labelBULK ++ [0x73, 0x61, 0x6C, 0x74]) 4) }

/-! ### The payload of a message that leaves -/

/-- The body of an EVENT (R316): INDEX, COUNT, RECORD_BYTES, GAP and the records. -/
def EventMsg.body (m : EventMsg) : List Byte :=
  toBytes 8 m.index ++ toBytes 2 m.recs.length ++ toBytes 2 48 ++ toBytes 4 m.gap ++ (m.recs.map LogRec.bytes).flatten

def HostOut.body : HostOut → List Byte
  | .response _ _ _ _ body _ _ => body
  | .event _ m _ _ => m.body
  | .spdm _ _ _ body _ => body
  | _ => []

/-- The Huaza header of a message that leaves; none has one that is no Huaza message. -/
def HostOut.header (o : HostOut) : List Byte :=
  let n := o.body.length
  match o with
  | .response type seq id st _ v nonce => hzHeader v type (1 + 2 * b2n nonce.isSome) n st id seq.toNat
  | .event id m v _ => hzHeader v 0x31 2 n 0 id m.seq
  | .spdm seq id _ _ v => hzHeader v 2 1 n 0 id seq.toNat
  | _ => []

/-- The UDP payload of a Huaza message that leaves: header and body, or header, ciphertext and tag, the header being the additional authenticated data (R315, R320). -/
def HostOut.payload (o : HostOut) (key : BitVec 256) : List Byte :=
  let closed (n : BitVec 96) : List Byte := natBytes (gcmSeal (keyNats key) (beNats 12 n.toNat) (byteNats o.header) (byteNats o.body))
  match o with
  | .response _ _ _ _ _ _ (some n) => o.header ++ closed n
  | .event _ _ _ n => o.header ++ closed n
  | _ => o.header ++ o.body

/-! ### Sealed units (R330) -/

/-- Nonce and additional authenticated data of a unit: bulk salt and counter; device address, 4,096 and RKEY. -/
def unitNonce (salt : BitVec 32) (ctr : Nat) : List Nat := beNats 12 (salt.toNat * 2 ^ 64 + ctr % 2 ^ 64)
def unitAad (addr rkey : Nat) : List Nat := leNats 8 addr ++ leNats 4 4096 ++ leNats 4 rkey

/-- A unit: counter, ciphertext, tag. -/
def sealUnit (key : BitVec 256) (salt : BitVec 32) (ctr addr rkey : Nat) (plain : List Byte) : List Byte :=
  toBytes 8 ctr ++ natBytes (gcmSeal (keyNats key) (unitNonce salt ctr) (unitAad addr rkey) (byteNats plain))

/-- The plaintext of a unit. -/
def openUnit (key : BitVec 256) (salt : BitVec 32) (unit : List Byte) : List Byte :=
  natBytes (gcmCtr (keyNats key) (unitNonce salt (ofBytes (unit.take 8))) 257 2 (byteNats ((unit.drop 8).take 4096)))

/-! ### The shared port (R311, R312) -/

def epBase (p : Nat) : Nat := 0x0710_0000 + p * 0x1_0000

/-- An endpoint's MAC address: the module's base address and the partition number. -/
def State.epMac (s : State) (p : Nat) : Nat := (s.module.mac.toNat + p) % 2 ^ 48

/-- The addresses of an endpoint: of the image, and the link-local one formed from its MAC address (modified EUI-64, PRESUMED, log 33). -/
def State.epAddr (s : State) (p : Nat) (onLocal : Bool) : BitVec 128 :=
  let m := s.epMac p
  if onLocal then BitVec.ofNat 128 (0xFE80 * 2 ^ 112 + (m / 2 ^ 24 ^^^ 2 ^ 17) * 2 ^ 40 + 0xFFFE * 2 ^ 24 + m % 2 ^ 24)
  else BitVec.ofNat 128 (s.cfgN (cfgPart p + 0x10) 8 * 2 ^ 64 + s.cfgN (cfgPart p + 0x08) 8)

/-- An endpoint's priority, and whether the image names it for priority flow control. -/
def State.epPcp (s : State) (p : Nat) : Nat := nbits (s.cfgN (cfgPart p + 0x1A) 2) 15 13
def State.epPfc (s : State) (p : Nat) : Bool := nbits (s.cfgB (cfgPart p + 0x1C)) (s.epPcp p) (s.epPcp p) == 1

/-- The far end has paused the endpoint's priority. -/
def State.epPaused (s : State) (p : Nat) : Bool := s.epPfc p && bit s.port.paused (s.epPcp p)

/-- Each partition's share of the 8 MiB receive buffer. -/
def State.rxShare (s : State) : Nat := 2 ^ 23 / max 1 s.validParts.length

/-- A message leaves an endpoint. Its frame's length is not stated, and the byte counters advance by a free value (log 2). -/
def State.portSend (s : State) (p : Nat) (o : HostOut) : State :=
  let (v, s0) := s.fresh
  let s1 := (s0.bump (epBase p + 0x80) 63 0 (fld v 13 0)).bump 0x0700_0030 63 0 (fld v 13 0)
  let s2 := s1.setEndpoint p { s1.endpoint p with out := o :: (s1.endpoint p).out }
  { s2 with port := { s2.port with order := p :: s2.port.order } }

/-- An endpoint sends a message: it leaves, waits while its priority is paused, or is lost with the link (R312, R313). -/
def State.hostSend (s : State) (p : Nat) (o : HostOut) : State :=
  if !s.module.hostUp then s
  else if s.epPaused p then s.setEndpoint p { s.endpoint p with queued := (s.endpoint p).queued ++ [o] }
  else s.portSend p o

/-- The partition whose waiting frame leaves next: round-robin from the one behind the last (R312). -/
def State.nextEgress (s : State) : Option Nat :=
  ((upTo 6).map (fun i => (s.port.order.headD 5 + 1 + i) % 6)).find? (fun p => !(s.endpoint p).queued.isEmpty && !s.epPaused p)

/-- Waiting frames leave, one at a time. -/
def State.drainEgress : Nat → State → State
  | 0, s => s
  | n + 1, s => match s.nextEgress with
    | none => s
    | some p => match (s.endpoint p).queued with
      | [] => s
      | o :: rest => State.drainEgress n ((s.setEndpoint p { s.endpoint p with queued := rest }).portSend p o)

/-- A partition's share fills or has room again: on a priority that uses it, flow control is asserted or released (R312). -/
def State.setFull (s : State) (p : Nat) (b : Bool) : State :=
  if (s.endpoint p).full = b then s
  else (s.setEndpoint p { s.endpoint p with full := b }).portSend p (.pfc (BitVec.ofNat 8 (if b then 2 ^ s.epPcp p else 0)))

end Sys2Proof.Machine
end

