-- ==== Sys2Proof/Machine/MemCmd.lean ====
section
/-! DEFINITION. The memory controllers, the grist units and the far-tier ports as commands (spec/08). -/

namespace Sys2Proof.Machine

/-- MEM.STATUS.STATE LOST: the controller takes no access (R235). -/
def State.stackLost (s : State) (st : Nat) : Bool := s.rf (memBase st + 8) 2 0 == 3 || s.lostRegions.contains (stackRegion st)

/-- Read one piece of a stack as the controller does (R227, R228, R244); `tagErr` says that the tag held is found changed. -/
def State.readPiece (s : State) (st piece : Nat) (err : List (Nat × Byte)) (tagErr : Bool) : State :=
  (s.readUnit st (s.stackKey st (piece * 32)) [(piece % 8, err)] tagErr).1

/-- STACK_READ (R227, R228, R244). -/
def execStackRead (st : StackId) (piece : BitVec 31) (err : List (Nat × Byte)) (tagErr : Bool) (s : State) : Out := powered s <|
  if s.stackLost st then .next s
  else done s ((s.readPiece st piece.toNat err tagErr).bump (memBase st + mRDBYTES) 63 0 32)

/-- Store the enabled bytes of a partial write. -/
def State.storeEnabled (s : State) (k : Nat) : List (Option Byte) → State
  | [] => s
  | some b :: bs => State.storeEnabled (s.setMemB k b) (k + 1) bs
  | none :: bs => State.storeEnabled s (k + 1) bs

/-- The wrong symbols that a unit is found to hold, by piece. -/
def foundErrs (r : UnitRead) : List (Nat × List (Nat × Byte)) := r.errs.map (fun e => (e.1.val, e.2))

/-- STACK_WRITE (R233, R245): the bytes lie in one piece, from a local address on; what would leave the piece is not part of the access. Of a tagged unit, the write reads and
checks the unit first, with the errors and the changed tag that the command names, and is discarded when the check fails. -/
def execStackWrite (st : StackId) (addr : BitVec 36) (data : StackData) (s : State) : Out := powered s <|
  let a := addr.toNat
  let bytes := data.bytes.take (32 - a % 32)
  let k := s.stackKey st a
  let n := (bytes.filter Option.isSome).length
  if s.stackLost st || n == 0 then .next s
  else
    let (s0, missed) := if s.tagged k then s.readUnit st k (foundErrs data.read) data.read.tagErr else (s, false)
    if missed then done s s0
    else
      let s1 := ((s0.newTag k).bump (memBase st + mWRBYTES) 63 0 n).tollTouch k bytes.length
      if n == 32 then done s ((s1.storeEnabled k bytes).setPoison k false)
      else if s0.poisoned k then done s (s1.bump (memBase st + mPOISONKEEP) 63 0 1)
      else done s (s1.storeEnabled k bytes)

/-- GRIST_ADD (R236–R239): one whole source granule into one granule of the stack. The destination is read first, with the errors of its pieces and the changed tag that the
command names; a piece that is uncorrectable, and a unit whose check fails, is poison before the add. -/
def execGristAdd (st : StackId) (granule : BitVec 28) (fmt : Fin 5) (src : GristSource) (dst : UnitRead) (s : State) : Out := powered s <|
  let k := s.stackKey st (granule.toNat * 256)
  if s.stackLost st || src.bytes.length != 256 then .next s
  else done s ((s.readUnit st k (foundErrs dst) dst.tagErr).1.gristGranule k fmt src.bytes src.poison)

/-- PATROL_SCRUB (R229): the piece at SCRUB_POS is treated, and the position moves on. -/
def execPatrolScrub (st : StackId) (err : List (Nat × Byte)) (s : State) : Out := powered s <|
  let m := memBase st
  if s.stackLost st || !s.rb (m + 0x20) 8 then .next s
  else
    let piece := s.rf (m + 0x28) 30 0
    let s1 := s.treatKept st (s.stackKey st (piece * 32)) err
    done s (s1.wf (m + 0x28) 30 0 (piece + 1))

/-- CE_WINDOW_EXPIRE (R230): CE_THRESHOLD with the count, and a new window. -/
def execCeWindowExpire (st : StackId) (s : State) : Out := powered s <|
  let n := s.ceWin.get 0 st
  let s1 := { s with ceWin := s.ceWin.put 0 st 0 }
  if s.rf (memBase st + 0x38) 31 0 < n then done s (s1.raise (stackEvent s evCeThreshold st n 0)) else .next s1

/-- PRIO_AGE_EXPIRE (R224): a bulk request is served as a priority request; a zero age disables ageing. -/
def execPrioAgeExpire (st : StackId) (s : State) : Out := powered s <|
  if s.rf (memBase st + 0x18) 15 0 = 0 then .next s else .next (s.bump (memBase st + 0x90) 63 0 1)

/-- The cause code of a stack's loss. -/
def stackCause : StackCause → Nat
  | .retrain => 1 | .clock => 2 | .temperature => 3

/-- A stack is lost (R235): STACK_LOST, and its region with it. -/
def State.loseStack (s : State) (st : Nat) (cause : Nat) : State :=
  if s.rf (memBase st + 8) 2 0 = 3 then s
  else ((s.wf (memBase st + 8) 2 0 3).raise (stackEvent s evStackLost st cause 0)).regionLost (stackRegion st) 4

/-- STACK_LOSS (R235). -/
def execStackLoss (st : StackId) (cause : StackCause) (s : State) : Out := powered s <| done s (s.loseStack st (stackCause cause))

/-! ### The far tier (R246–R251) -/

/-- The far-tier bytes of an access by partition offset, when they lie in the partition's attached range (R248). -/
def State.farSpan (s : State) (p : Nat) : FarAccess → Option (Nat × Nat)
  | .read off n _ => if 0 < n && off.toNat + n ≤ s.farAvail p then some (s.farStart p + off.toNat, n) else none
  | .write off d _ => if 0 < d.length && off.toNat + d.length ≤ s.farAvail p then some (s.farStart p + off.toNat, d.length) else none

/-- The far-tier pieces that the expander marks poisoned in a read, counted from the piece of its first byte (R249): they stay so until they are written (log 55). -/
def State.farMark (s : State) (b n : Nat) (marks : List Nat) : State :=
  { s with farPoison := (marks.filter (fun m => decide (m < (b % 32 + n + 31) / 32))).foldl (fun t m => t.put false (b / 32 + m) true) s.farPoison }

/-- FAR_ACCESS (R248–R250): `ok` says that the expander completes it; an access that is not performed changes nothing here. -/
def execFarAccess (p : PartId) (acc : FarAccess) (ok : Bool) (s : State) : Out := powered s <|
  match s.farSpan p acc with
  | none => .next s
  | some (b, n) =>
    if !ok || !s.farUp b n then .next s
    else match acc with
      | .read _ _ marks => .next ((s.farMark b n marks).farLoad p b n).2
      | .write _ d pz => .next (s.farStore p b (d.map (fun x => (x, pz))))

def State.farErr (s : State) (q code : Nat) : State := s.wf (farBase q + 0x10) 7 0 code

/-- FAR_COMPLETION_TIMEOUT (R251): the access fails as not performed, code 0x02. -/
def execFarCompletionTimeout (q : FarPortId) (s : State) : Out := powered s <|
  if s.farState q = 2 then .next (s.farErr q 2) else .next s

/-- A far-tier port is DISABLED until the next start-up, and FAR_PORT_DOWN is raised (R251). -/
def State.farDisable (s : State) (q code : Nat) : State :=
  (((s.wf (farBase q) 2 0 4).wf (farBase q) 15 6 0).farErr q code).raise
    { code := evFarPortDown, part := 6, kind := 9, index := q, arg0 := code }

/-- A far-tier link goes down or its retrain fails (R251): another retrain while RETRAIN_MAX allows it, else DISABLED with code 0x05. -/
def State.farRetrain (s : State) (q code : Nat) : State :=
  let tries := s.farTries.get 0 q
  if tries < s.rf (farBase q + 0x40) 2 0 then
    (((({ s with farTries := s.farTries.put 0 q (tries + 1) }).wf (farBase q) 2 0 3).wf (farBase q) 15 6 0).farErr q code).bump (farBase q + 0x28) 63 0 1
  else s.farDisable q 5

/-- FAR_LINK_DOWN (R251). -/
def execFarLinkDown (q : FarPortId) (s : State) : Out := powered s <|
  if s.farState q = 2 || s.farState q = 3 then done s (s.farRetrain q 1) else .next s

/-- FAR_VIRAL (R251): as retraining exhausted, code 0x03. -/
def execFarViral (q : FarPortId) (s : State) : Out := powered s <|
  if s.farState q = 2 || s.farState q = 3 then done s (s.farDisable q 3) else .next s

/-- FAR_MALFORMED (R251): counted; the 16th violation within 1 s retrains and the 64th disables. -/
def execFarMalformed (q : FarPortId) (in1s : Nat) (s : State) : Out := powered s <|
  if s.farState q != 2 && s.farState q != 3 then .next s
  else
    let s1 := s.bump (farBase q + 0x20) 63 0 1
    if in1s = 64 then done s (s1.farDisable q 4)
    else if in1s = 16 then done s (s1.farRetrain q (s1.rf (farBase q + 0x10) 7 0))
    else .next s1

/-- FAR_PORT_TRAINED (R246, R247, R251): UP with its capacity, ABSENT, DISABLED, or one more retrain. A narrow or slow link is used only where the image
permits it. -/
def execFarPortTrained (q : FarPortId) (t : FarTrain) (s : State) : Out := powered s <|
  if s.farState q != 1 && s.farState q != 3 then .next s
  else match t with
    | .up bytes wide fast =>
      if (wide && fast) || nbits (s.cfgB 0x016) 1 1 == 1 then
        let s1 := ((s.wf (farBase q) 2 0 2).wf (farBase q) 15 8 (if wide then 16 else 8)).wf (farBase q) 7 6 (if fast then 2 else 1)
        let s2 := { s1 with farTries := s1.farTries.put 0 q 0 }
        .next (if s.rd (farBase q + 8) = 0 then s2.wr (farBase q + 8) bytes else s2)
      else done s (s.farRetrain q 1)
    | .absent => if s.farState q = 1 then .next (s.wf (farBase q) 2 0 0) else done s (s.farRetrain q 1)
    | .unsupported => .next ((s.wf (farBase q) 2 0 4).wf (farBase q) 15 6 0)
    | .failed => done s (s.farRetrain q 1)

end Sys2Proof.Machine
end

