-- ==== Sys2Proof/Machine/Power.lean ====
section
/-! DEFINITION. Power, clocks, the governor, the fantail, droop and thermal limits as commands (spec/12). -/

namespace Sys2Proof.Machine

/-- The region power unit (R365). -/
def gov (r : Nat) : Nat := regionBase r + 0x30_0000

/-! ### Rails and the input (R336–R338, R348) -/

/-- What an input fault does (R337): every rail but the always-on rail goes off, and the module waits for MOD_RESET_N or its input. -/
def State.inputFaults (s : State) : State :=
  let s1 := s.raise { code := evInputFault, part := 6 }
  let s2 := { s1 with power := { s1.power with inputOk := false }, module := { s1.module with lastCause := 2 } }
  s2.unpower .stopped

/-- INPUT_FAULT (R337). -/
def execInputFault (s : State) : Out :=
  if !s.module.powered || !s.power.inputOk then .next s else .next s.inputFaults

/-- The rail's own outcome in R338's table, while start-up is over. -/
def State.railOutcome (s : State) (i : Nat) : State :=
  if i = 1 then s.packageFatal evRailFault
  else if i < 14 then s.regionLost (i - 2) 3
  else if i < 20 then (s.regionLost (2 * (i - 14)) 3).regionLost (2 * (i - 14) + 1) 3
  else if i < 26 then
    let (v, s1) := s.fresh
    forEach (upTo 4) s1 (fun s k => s.loseStack (4 * (i - 20) + k) (fld v 31 0))
  else forEach (upTo 16) s (fun s j =>
    let f := 16 * (i - 26) + j
    match (s.link f).st with
    | .disabled | .fenced | .down => s
    | _ => (s.linkReason f 0).linkGo f .down)

/-- The partitions that own a rail (R392, R424). -/
def State.railParts (s : State) (i : Nat) : List Nat :=
  s.validParts.filter (fun p =>
    if i < 14 then s.regionPart (i - 2) == p else s.bedPart ((i - 14) % 6) == p)

/-- The rails ramp in step 3 of start-up (R422). -/
def State.ramping (s : State) : Bool := s.module.starting && s.module.step == 3

/-- RAIL_FAULT (R338, R424): naming the rail, with the outcome of its row; during start-up, an exit. A rail that is off has no fault, one that ramps may have. -/
def execRailFault (rail : Fin 32) (s : State) : Out :=
  let i := rail.val
  if !s.module.powered || (s.power.railsOff.contains i && !s.ramping) || s.power.railFault.contains i then .next s
  else
    let s1 := s.raise { code := evRailFault, part := 6, kind := 11, index := i }
    let s2 := { s1 with power := { s1.power with railFault := i :: s1.power.railFault } }
    if i = 0 then .next s2.inputFaults
    else if s2.inStartup && i = 1 then .next (s2.moduleExit 5 s2.module.step)
    else if s2.module.starting then done s (forEach (s2.railParts i) s2 (fun s p => s.partExit p 5 s.module.step))
    else
      let owners := (s2.railParts i).filter (fun p => (s2.part p).st == .starting)
      if i ≠ 1 && !owners.isEmpty then done s (forEach owners s2 (fun s p => s.partExit p 5 (s.part p).step))
      else done s (s2.railOutcome i)

/-- REF_LOSS (R348): failover to the oscillator, or holdover. -/
def execRefLoss (s : State) : Out := powered s <|
  let p := s.power
  if p.source = 0 || p.holdover then .next s
  else if p.source = 1 && p.oscFitted then
    done s ({ s with power := { p with source := 2, extRef := false } }.raise { code := evRefLost, part := 6, arg0 := 1 })
  else .next ({ s with power := { p with holdover := true, extRef := p.extRef && p.source != 1 } }.bump 0x0800_00C8 63 0 1)

/-- HOLDOVER_EXPIRE (R348): every region's clock is lost, and REF_LOST is raised. -/
def execHoldoverExpire (s : State) : Out := powered s <|
  if !s.power.holdover then .next s
  else
    let s1 := { s with power := { s.power with source := 0, holdover := false } }.raise { code := evRefLost, part := 6, arg0 := 0 }
    done s (forEach (upTo 12) s1 (fun s r => (s.setRegion r { s.region r with clockLost := true }).regionLost r 6))

/-! ### The module loop and telemetry (R342, R344, R345) -/

/-- Bytes of a record replaced from an offset on. -/
def patch (l : List Byte) (o : Nat) (bs : List Byte) : List Byte := l.take o ++ bs ++ l.drop (o + bs.length)

/-- Measured output watts of rails in input watts: every budget quantity is reckoned so (R339). -/
def State.inputWatts (s : State) (w : Nat) : Nat := w * s.cfgN 0x022 2 / 1024

/-- The demand of a region (R357): a resting region and one whose tag is invalid ask for the floor. -/
def State.demand (s : State) (p r : Nat) : Nat :=
  let x := s.region r
  let f := s.rf (fanBase p) 15 0
  if x.resting then f
  else match x.tag with
    | none => f
    | some t => let e := s.fanEntry r t; if e.valid && e.job == x.tagJob then e.demand else 468

/-- Whether a region is held below its demand (R344, R367), once the fantail has allocated. -/
def State.capLimited (s : State) (r : Nat) : Bool :=
  let x := s.region r
  x.granted && decide (x.alloc < s.demand (s.regionPart r) r)

/-- FLAGS of the record (R344). -/
def State.telemFlags (s : State) : Nat :=
  b2n ((upTo 12).any s.capLimited) + 2 * b2n ((upTo 12).any (fun r => (s.region r).thermal != 0)) + 4 * b2n (!s.power.hotStacks.isEmpty)
    + 8 * b2n ((upTo 12).any (fun r => (s.region r).droop))
    + 16 * b2n (s.power.boardLimit != 0 && decide (s.power.boardLimit < s.imageCap))

/-- Number at an offset of a record. -/
def recNum (l : List Byte) (o n : Nat) : Nat := ofBytes ((l.drop o).take n)

/-- The nearest multiple of 50 (R345). -/
def round50 (x : Nat) : Nat := (x + 25) / 50 * 50

/-- The record of secure mode from the last 100 records (R345): averages, or maxima of temperatures; powers to 50 W; FLAGS [5]. -/
def secureRecord (h : List (List Byte)) (last : List Byte) : List Byte :=
  let n := max 1 h.length
  let avg (o : Nat) : Nat := (h.map (fun l => recNum l o 2)).sum / n
  let top (o : Nat) : Nat := h.foldl (fun m l => if sext 8 m < sext 8 (recNum l o 1) then recNum l o 1 else m) (recNum last o 1)
  let flags := h.foldl (fun m l => m ||| recNum l 0x38 2) 0
  last.take 4 ++ toBytes 4 (recNum last 4 4 / 100 * 100) ++ toBytes 2 (avg 8) ++ toBytes 2 (avg 0x0A) ++ toBytes 2 (round50 (avg 0x0C)) ++ toBytes 2 (round50 (avg 0x0E))
    ++ ((upTo 16).map (fun i => toBytes 2 (round50 (avg (0x10 + 2 * i))))).flatten
    ++ ((upTo 8).map (fun i => toBytes 1 (top (0x30 + i)))).flatten ++ toBytes 2 (flags ||| 0x20) ++ (last.drop 0x3A).take 6

/-- Whether a partition is being dressed: telemetry is frozen for every reader (R345). -/
def State.telemFrozen (s : State) : Bool := s.validParts.any (fun p => (s.part p).st == .dressing)

/-- TELEMETRY_RECORD (R344, R345): the measured fields come with the command, the powers of rails as output watts; SEQ, CAP, FLAGS and OPS are the machine's own. While telemetry is frozen readers keep
the record before the dressing. -/
def execTelemetryRecord (rcd : List Byte) (s : State) : Out := powered s <|
  let p := s.power
  let m0 := (rcd ++ List.replicate 64 0).take 64
  let m := patch m0 0x10 ((upTo 16).map (fun i => toBytes 2 (s.inputWatts (recNum m0 (0x10 + 2 * i) 2)))).flatten
  let ops := ((upTo 12).map (fun r => (s.region r).op * 2 ^ (4 * r))).sum
  let l := patch (patch (patch (patch m 0 (toBytes 4 p.telemSeq)) 0x0E (toBytes 2 s.ceff)) 0x38 (toBytes 2 s.telemFlags)) 0x3A (toBytes 6 ops)
  let h := (p.history ++ [l]).drop (p.history.length + 1 - 100)
  let sec := if (p.telemSeq + 1) % 100 = 0 then secureRecord h l else p.secTelem
  let p1 := { p with telemSeq := (p.telemSeq + 1) % 2 ^ 32, history := h }
  .next { s with power := if s.telemFrozen then p1 else { p1 with telemetry := l, secTelem := sec } }

/-- RAIL_SEL_WRITE (R338, R345, R367): the rail's state, and its measurements as free values (log 2); the view is frozen with the telemetry. -/
def execRailSelWrite (_p : PartId) (v : Word64) (s : State) : Out := powered s <|
  let i := fld v 4 0
  let s1 := s.wr 0x0800_0020 (BitVec.ofNat 64 i)
  if s.telemFrozen then .next s1
  else
    let (m, s2) := s1.fresh
    let st := if s.power.railFault.contains i then 3 else if s.power.railsOff.contains i then b2n s.ramping else 2
    .next (s2.wr 0x0800_0028 (BitVec.ofNat 64 (fld m 47 0 + st * 2 ^ 48)))

/-! ### Operating points (R347, R349, R360) -/

/-- The least operating point that the test class CLOCK of a partition permits a region (R431, R432). -/
def State.testOpMin (s : State) (r : Nat) : Nat :=
  let p := s.regionPart r
  let t := 0x0C00_0000 + p * 0x1000
  if s.rb t 2 && s.rf (t + 0x28) 59 48 == r then s.rf (t + 0x28) 35 32 else 0

/-- A region begins the change to its target when it may (R349, R360). -/
def State.startChange (s : State) (r : Nat) : State :=
  let x := s.region r
  if x.step != .none || x.pause != 0 || x.target == x.op || (decide (x.target < x.op) && x.noRaise != 0) then s
  else s.setRegion r { x with toOp := x.target, step := if x.target < x.op then .slewAndLock false false else .lock }

/-- The target is the higher-numbered of the fantail's choice and the thermal limit (R357). -/
def State.retarget (s : State) (r : Nat) : State :=
  let x := s.region r
  (s.setRegion r { x with target := max (max x.chosen x.thermal) (s.testOpMin r) }).startChange r

/-- A change is complete; the next starts no sooner than 50 µs later (R349). -/
def State.changeDone (s : State) (r : Nat) : State :=
  (s.setRegion r { s.region r with step := .none, pause := 6 }).bump (gov r + 0x20) 31 0 1

/-- OP_CHANGE_STEP (R349, R360): a part of the change ends; the clock moves only when droop is not active and 4 µs have passed since. -/
def execOpChangeStep (r : RegionId) (what : OpDone) (s : State) : Out := powered s <|
  let x := s.region r
  let next (st : OpStep) : Out := .next (s.setRegion r { x with step := st })
  match x.step, what with
  | .slewAndLock _ locked, .slewed => if locked then next (.move true) else next (.slewAndLock true false)
  | .slewAndLock slewed _, .locked => if slewed then next (.move true) else next (.slewAndLock false true)
  | .lock, .locked => next (.move false)
  | .move rising, .moved =>
    if x.droop || x.recentDroop != 0 then
      let (v, s1) := s.fresh
      .next (s1.bump (gov r + 0x60) 63 0 (fld v 9 0))
    else
      let s1 := s.setRegion r { x with op := x.toOp, step := .slewDown }
      .next (if rising then s1.changeDone r else s1)
  | .slewDown, .slewed => .next (s.changeDone r)
  | _, _ => .next s

/-- DROOP_EVENT carries the region, the count since the last event, and whether a change was abandoned (R359, R360). -/
def droopEvent (s : State) (r count : Nat) (abandoned : Bool) : Event :=
  { code := evDroop, part := s.regionPart r, kind := 2, index := r, isRepeat := decide (1 < count), arg0 := r + 16 * b2n abandoned, arg1 := count }

/-- CLOCK_MOVE_ABANDON (R360): the move has waited for 1 ms in all. -/
def execClockMoveAbandon (r : RegionId) (s : State) : Out := powered s <|
  let x := s.region r
  match x.step with
  | .move rising =>
    let s1 := (s.setRegion r { x with step := .none, noRaise := if rising then 1000 else x.noRaise, droopSince := 0 }).wb (gov r + 0x48) 2 true
    done s (s1.raise (droopEvent s r x.droopSince true))
  | _ => .next s

/-! ### Droop (R359, R360) -/

/-- DROOP_DETECT (R359): the clock halves; DROOP_EVENT is raised at most once per millisecond per region. -/
def execDroopDetect (r : RegionId) (s : State) : Out := powered s <|
  let x := s.region r
  if x.droop then .next s
  else
    let n := x.droopSince + 1
    let tell := x.droopHold == 0
    let s1 := (s.setRegion r { x with droop := true, recentDroop := 5, droopSince := if tell then 0 else n, droopHold := if tell then 100 else x.droopHold }).bump
      (gov r + 0x50) 63 0 1
    done s (if tell then s1.raise (droopEvent s r n false) else s1)

/-- DROOP_END (R359): the rail has stayed above its level for 64 stretched cycles. -/
def execDroopEnd (r : RegionId) (stretched : Nat) (s : State) : Out := powered s <|
  let x := s.region r
  if !x.droop || stretched < 64 then .next s
  else .next ((s.setRegion r { x with droop := false, recentDroop := 5 }).bump (gov r + 0x58) 63 0 stretched)

/-- TEST_CLOCK_STRETCH (R432, R433): an emulated stretch counts as active droop and in DROOP.STRETCHED, not in DROOP.COUNT. -/
def execTestClockStretch (r : RegionId) (s : State) : Out := powered s <|
  let t := 0x0C00_0000 + s.regionPart r * 0x1000
  if s.rb t 2 && s.rf (t + 0x28) 59 48 == r.val && s.rf (t + 0x28) 31 16 != 0 then
    .next ((s.setRegion r { s.region r with recentDroop := 5 }).bump (gov r + 0x58) 63 0 (s.rf (t + 0x28) 15 0))
  else .next s

/-! ### Sleep (R350, R351) -/

/-- Whether a cell is idle in R350's sense. -/
def State.cellQuiet (s : State) (c : Nat) : Bool :=
  let x := s.cell c
  !x.coreBusy && !x.arrayBusy && !x.vectorBusy && !x.syncBusy && !s.sluiceBusy c && x.qArray.isEmpty && x.qVector.isEmpty && x.qSluice.isEmpty
    && (match s.take c with
      | .stall _ => true
      | _ => false)

/-- CELL_CLOCK_GATE (R350, R354). -/
def execCellClockGate (c : CellId) (s : State) : Out := powered s <|
  let x := s.cell c
  if x.sleep != .awake || !s.cellQuiet c || (s.region (cellRegion c)).floor != 0 then .next s
  else .next (s.setCell c { x with sleep := .clockGated, noPg := s.rf (gov (cellRegion c) + 0x28) 15 0 == 0 })

/-- CELL_POWER_GATE (R350, R366): PG_DELAY as it stood when the cell was clock-gated decides. -/
def execCellPowerGate (c : CellId) (s : State) : Out := powered s <|
  let x := s.cell c
  if x.sleep != .clockGated || x.noPg then .next s else .next (s.setCell c { x with sleep := .powerGated })

/-- CELL_WAKE (R351, R358): the cell resumes, and its region no longer rests. -/
def execCellWake (c : CellId) (s : State) : Out := powered s <|
  let x := s.cell c
  if x.sleep == .awake then .next s
  else
    let s1 := s.setCell c { x with sleep := .awake, noPg := false }
    .next (s1.setRegion (cellRegion c) { s1.region (cellRegion c) with resting := false })

/-- REGION_REST (R358): every cell of the region has been asleep for 10 µs. -/
def execRegionRest (r : RegionId) (s : State) : Out := powered s <|
  if (upTo 48).all (fun i => (s.cell (48 * r + i)).sleep != .awake) then .next (s.setRegion r { s.region r with resting := true }) else .next s

/-! ### The governor (R352–R354) -/

/-- GOVERNOR_WINDOW (R352, R353): the activity index of the window that ends, and the ceiling and floor of the next. -/
def execGovernorWindow (r : RegionId) (s : State) : Out := powered s <|
  let x := s.region r
  let a := min 255 (255 * x.points / 230400)
  let slope := s.cfgB 0x017
  let f := a - slope
  .next (s.setRegion r { x with
    prevA := a, floor := f, ceiling := max f (min (min x.m (a + slope)) 255), points := 0, slotPoints := 0, withheld := false,
    recentDroop := if x.droop then x.recentDroop else x.recentDroop - 1 })

/-- GOVERNOR_SLOT (R353, R354): at the budget, cycles are withheld until the slot ends; at the end of a slot, ballast makes up what its floor lacks. The withheld time is
a free value (log 2). -/
def execGovernorSlot (r : RegionId) (s : State) : Out := powered s <|
  let x := s.region r
  let budget := x.ceiling * 230400 / 2550
  let least := x.floor * 230400 / 2550
  if !x.withheld && budget ≤ x.slotPoints && x.slotPoints != 0 then
    let (v, s1) := s.fresh
    .next ((s1.setRegion r { x with withheld := true }).bump (gov r + 0x10) 63 0 (fld v 6 0))
  else
    let b := least - x.slotPoints
    .next ((s.setRegion r { x with withheld := false, points := x.points + b, slotPoints := 0 }).bump (gov r + 0x18) 63 0 b)

/-! ### The fantail (R356, R357) -/

/-- Compare f_k × min(1, a / (q × F_k / 256)) of two operating points: whether that of `j` is above that of `k` (R357), in exact arithmetic. -/
def opAbove (a q j k : Nat) : Bool :=
  let num := a * 256
  let dj := q * opFactor j
  let dk := q * opFactor k
  decide (opClock k * min num dk * dj < opClock j * min num dj * dk)

/-- The operating point that maximises it; a tie goes to the higher-numbered (R357). -/
def bestOp (a q : Nat) : Nat := [1, 2, 3, 4].foldl (fun best k => if opAbove a q best k then best else k) 0

/-- A region's allocation and operating point are set; with no demand at all the quotient of R357 has no value, and the choice is free (log 2). -/
def State.allocate (s : State) (r a q : Nat) : State :=
  let (k, s1) := if q = 0 then (let (v, s1) := s.fresh; (v.toNat % 5, s1)) else (bestOp a q, s)
  (s1.setRegion r { s1.region r with alloc := a, granted := true, chosen := k }).retarget r

/-- The runner budget of a partition (R357): `np` is the 1 ms average of its stack, SerDes and bedstone-logic rails in output watts. -/
def State.budget (s : State) (p np : Nat) : Nat := s.cp p - s.inputWatts np - s.power.corr * s.cfgB (cfgPart p + 1) / 100

/-- The allocations of a partition are recomputed (R357). -/
def State.recompute (s : State) (p np : Nat) : State :=
  let rs := s.partRegions p
  let n := rs.length
  let f := s.rf (fanBase p) 15 0
  let b := s.budget p np
  let sum := (rs.map (fun r => s.demand p r - f)).sum
  let s1 := ((s.wf (fanBase p + 0x10) 15 0 b).bump (fanBase p + 0x30) 63 0 1)
  forEach rs s1 (fun t r =>
    let q := s.demand p r
    t.allocate r (if b < n * f then b / n else if sum = 0 then b / n else f + (b - n * f) * (q - f) / sum) q)

/-- FANTAIL_RECOMPUTE (R357). -/
def execFantailRecompute (p : PartId) (np : BitVec 16) (s : State) : Out := powered s <|
  .next (if s.partValid p then s.recompute p np.toNat else s)

/-- POWER_SAMPLE (R342): the 100 µs average moves PWR.CORRECTION, and where it exceeds the cap every partition's allocations are recomputed at once, with `np` naming the output watts of each
partition's other rails; the 1 ms average may raise CAP_EXCEEDED, at most once per 100 ms. Times are counted in samples of
10 µs (log 30). -/
def execPowerSample (avg100 : BitVec 16) (rest : SampleRest) (s : State) : Out := powered s <|
  let p := s.power
  let c := s.ceff
  let a := avg100.toNat
  let below := if a < c then p.below + 1 else 0
  let corr := if c < a then min 65535 (p.corr + (a - c)) else if below = 100 then p.corr - 10 else p.corr
  let ms := (p.msSamples + 1) % 100
  let exceeds := decide (c < rest.avg1ms.toNat)
  let tell := exceeds && p.capHold = 0
  let s1 := { s with power := { p with
    corr := corr, below := if below = 100 then 0 else below, msSamples := ms,
    capHold := if tell then 10000 else p.capHold - 1, capKept := exceeds && !tell || p.capKept && !tell } }
  let s2 := if exceeds && ms = 0 then s1.bump 0x0800_0018 63 0 1 else s1
  let s3 := if c < a then forEach s2.validParts s2 (fun s p => s.recompute p ((rest.np.getD p 0).toNat)) else s2
  done s (if tell then s3.raise { code := evCapExceeded, part := 6, isRepeat := p.capKept, arg0 := rest.avg1ms.toNat + c * 65536 } else s3)

/-- TRIM_SAMPLE (R356, R357): every 10 µs the region compares its runner power, of which `watts` is the rail's output, with its allocation, and the occurrence in progress takes a sample. -/
def execTrimSample (r : RegionId) (watts withheldUs : BitVec 16) (s : State) : Out := powered s <|
  let x := s.region r
  let w := s.inputWatts watts.toNat
  let m := if x.alloc < w then x.m - 16 else if w * 100 < 95 * x.alloc then min 255 (x.m + 16) else x.m
  let y := { x with m := m, pause := x.pause - 1, noRaise := x.noRaise - 1, droopHold := x.droopHold - 1 }
  .next ((s.setRegion r (if x.tag.isSome then y.sample w withheldUs.toNat else y)).startChange r)

/-- FAN_CLEAR (R366). -/
def State.clearFan (s : State) (p : Nat) : State :=
  forEach (s.partRegions p) s (fun s r => forEach (upTo 64) s (fun s t => s.setFanEntry r t {}))

def execFanClear (p : PartId) (s : State) : Out := powered s <| .next (s.clearFan p)

/-- FAN_SEL_WRITE (R367): a snapshot of the selected entry; a region the partition does not hold, or above 11, reads as an invalid entry. -/
def execFanSelWrite (p : PartId) (v : Word64) (s : State) : Out := powered s <|
  let r := fld v 9 6
  let e := if r < 12 && s.regionPart r == p.val then s.fanEntry r (fld v 5 0) else {}
  let valid := e.valid && e.job == (s.region r).tagJob
  let s1 := s.wr (fanBase p + 0x18) (BitVec.ofNat 64 (fld v 9 0))
  .next ((s1.wr (fanBase p + 0x20) (BitVec.ofNat 64 (b2n valid * 2 ^ 63 + e.count % 2 ^ 15 * 2 ^ 48 + e.job % 2 ^ 16 * 2 ^ 32 + e.demand % 2 ^ 16 * 2 ^ 16 + e.power % 2 ^ 16))).wr
    (fanBase p + 0x28) (BitVec.ofNat 64 (e.duration % 2 ^ 32)))

/-! ### Thermal limits (R361–R363) -/

/-- THERMAL_STEP (R361, R362): `hottest` is the hottest reading of the region's sensors in 0.25 °C; `twice105` says that a sensor read 105 °C or more in two samples
in a row. One command is one interval of R361: a millisecond while the limit rises, 10 ms while it falls. -/
def execThermalStep (r : RegionId) (hottest : BitVec 16) (index : BitVec 8) (twice105 : Bool) (s : State) : Out := powered s <|
  let x := s.region r
  let t := sext 16 hottest.toNat
  let lim : Int := 4 * ((s.cfgB 0x01D : Nat) : Int)
  let s0 := (s.wf (gov r + 0x88) 23 8 hottest.toNat).wf (gov r + 0x88) 31 24 index.toNat
  let s1 :=
    if lim ≤ t then
      let m := if x.op = 4 && decide (lim + 20 ≤ t) then x.m - 32 else x.m
      let s2 := s0.setRegion r { x with thermal := min 4 (x.thermal + 1), m := m }
      if x.thermal = 0 then
        (s2.bump (gov r + 0xA0) 63 0 1).raise { code := evThermalThrottle, part := s.regionPart r, kind := 2, index := r }
      else s2
    else if t < lim - 20 then s0.setRegion r { x with thermal := x.thermal - 1 }
    else s0
  let s3 := s1.retarget r
  if !twice105 then done s s3
  else
    let s4 := s3.raise { code := evThermalTrip, part := 6 }
    let s5 := forEach (upTo 12) s4 (fun s r => s.setRegion r { s.region r with op := 4, target := 4, thermal := 4, step := .none })
    done s (if s5.inStartup then s5.moduleExit 9 s5.module.step else s5.packageFatal evThermalTrip)

/-- OVERTEMP_COMPARATOR (R362): power leaves every rail except the always-on rail. -/
def execOvertempComparator (s : State) : Out := powered s <|
  if s.module.held then .next s
  else .next ({ s with module := { s.module with lastCause := 4 } }.unpower .stopped)

/-- STACK_TEMPERATURE (R363): throttled at STACK_THROTTLE, lifted below 88 °C, lost above 100 °C. -/
def execStackTemperature (st : StackId) (celsius : Byte) (s : State) : Out := powered s <|
  let t := sext 8 celsius.toNat
  let hot := s.power.hotStacks
  if 100 < t then done s (s.loseStack st 3)
  else if ((s.cfgB 0x01E : Nat) : Int) ≤ t && !hot.contains st.val then
    done s ({ s with power := { s.power with hotStacks := st.val :: hot } }.raise (stackEvent s evStackThrottle st 0 0))
  else if t < 88 && hot.contains st.val then .next { s with power := { s.power with hotStacks := hot.filter (fun x => x != st.val) } }
  else .next s

/-- THERM_SEL_WRITE (R367): a snapshot of the selected sensor, a free value (log 2). -/
def execThermSelWrite (r : RegionId) (v : Word64) (s : State) : Out := powered s <|
  let (m, s1) := (s.wr (gov r + 0x90) (BitVec.ofNat 64 (fld v 5 0))).fresh
  .next (s1.wr (gov r + 0x98) (BitVec.ofNat 64 (fld m 15 0)))

end Sys2Proof.Machine
end

