-- ==== Sys2Proof/Machine/Faults.lean ====
section
/-! DEFINITION. Events written, regions lost, cross-checks, tolls, pond copies and the end of a dump as commands (spec/13). -/

namespace Sys2Proof.Machine

/-! ### The event log and EVENT messages (R323, R368) -/

/-- HOST.EVENT_NEXT (R323). -/
def State.eventNext (s : State) (p : Nat) : Nat := match (s.log p).getLast? with
  | some r => r.index + 1
  | none => 0

/-- Whether a level mask selects a code: bit n selects the events whose top nibble is n (R323). -/
def selects (levels code : Nat) : Bool := nbits levels (code / 4096) (code / 4096) == 1

/-- Set the session of a slot. -/
def State.setSession (s : State) (p slot : Nat) (x : Option Session) : State :=
  s.setEndpoint p { s.endpoint p with sessions := (s.endpoint p).sessions.put none slot x }
def State.session (s : State) (p slot : Nat) : Option Session := (s.endpoint p).sessions.get none slot

/-- Send the next EVENT of every session that may have one: the selected records from its next index on, 32 with EVENT_BATCH, else 1 (R323). -/
def State.sendEvents (s : State) (p : Nat) : State :=
  forEach (upTo 8) s (fun s slot => match s.session p slot with
    | none => s
    | some x =>
      let recs := ((s.log p).filter (fun r => decide (x.nextIdx ≤ r.index) && selects x.levels r.ev.code)).take (if nbits x.features 1 1 == 1 then 32 else 1)
      match recs, recs.getLast? with
      | r :: _, some l =>
        if x.outEvent.isSome then s
        else
          let m : EventMsg := { seq := x.eventSeq + 1, index := r.index, gap := x.gap, recs := recs }
          (s.setSession p slot (some { x with eventSeq := x.eventSeq + 1, outEvent := some m, gap := 0, nextIdx := l.index + 1 })).hostSend p (x.eventOut m)
      | _, _ => s)

/-- A record enters the log of a partition; the oldest of 4,096 is overwritten, which the sessions it was for count, and its level is kept for those that subscribe later (R323). -/
def State.logEvent (s : State) (p : Nat) (e : Event) (time : BitVec 32) : State :=
  let l := s.log p ++ [{ index := s.eventNext p, time := time, ev := { e with part := p }, package := e.part == 6 }]
  let s1 := match l with
    | o :: rest =>
      if l.length ≤ 4096 then s.setLog p l
      else forEach (upTo 8) ((s.setLog p rest).setEndpoint p { s.endpoint p with overwritten := (s.endpoint p).overwritten ++ [o.ev.code / 4096] }) (fun s slot => match s.session p slot with
        | some x => if x.nextIdx ≤ o.index && selects x.levels o.ev.code then s.setSession p slot (some { x with gap := x.gap + 1, nextIdx := o.index + 1 }) else s
        | none => s)
    | [] => s
  s1.sendEvents p

/-- EVENT_RECORD_WRITE (R368, R369): the oldest raised event enters its partition's log; a package event enters every one. -/
def execEventRecordWrite (s : State) : Out := powered s <|
  match s.raised with
  | [] => .next s
  | e :: rest =>
    let (t, s1) := State.clock32 { s with raised := rest }
    .next (forEach (s1.validParts.filter (fun p => e.part == p || e.part == 6)) s1 (fun s p => s.logEvent p e (BitVec.ofNat 32 t)))

/-! ### Failure (R371, R372) -/

/-- REGION_LOSS (R371): causes 1 to 6. -/
def execRegionLoss (r : RegionId) (cause : Fin 7) (s : State) : Out := powered s <|
  if cause.val = 0 then .next s else done s (s.regionLost r cause)

/-- PARTITION_FREEZE_TIMEOUT (R372, R375): cells still FREEZING are killed. -/
def execPartitionFreezeTimeout (p : PartId) (s : State) : Out := powered s <|
  if (s.part p).st ≠ .failing then .next s
  else done s ((forEach ((s.partCells p).filter (fun c => (s.cell c).st == .freezing)) s (fun s c => s.killCell c)).failSettle p)

/-- DUMP_END (R372, R387): the header is COMPLETE; every cell is killed, the shutter lines break, and the partition is FAILED. -/
def State.dumpEnd (s : State) (p : Nat) : State :=
  let d := (s.part p).dump
  let reg := dumpBaseReg p + 0x10
  let far := s.rb reg 3
  let s0 := if s.rf reg 2 0 = 1 then s.wf reg 2 0 (if d.lacking then 3 else 2) else s
  let s1 := if s0.rf reg 2 0 = 4 then s0
    else if far then s0.setFarByte p (s0.farStart p + s0.rf (dumpBaseReg p + 8) 56 12 * 4096 % 2 ^ 52 + 6) 1
    else s0.setMemB (memKey0 p (s0.dumpBase p + 6)) 1
  let s2 := s1.raise (partEvent p evFatalDumpDone (s1.rf reg 2 0 + 8 * b2n far) d.bytes (s1.rf reg 31 16))
  let s3 := forEach ((s2.partCells p).filter (fun c => (s2.cell c).st != .killing && (s2.cell c).st != .killed)) s2 (fun s c => s.killCell c)
  let s4 := forEach (upTo 32) s3 (fun s n => match s.participants p n with
    | c :: _ => s.breakLine p n 1 c
    | [] => s)
  (s4.setPart p { s4.part p with st := .failed, dump := { d with written := false } }).stopSettle

def execDumpEnd (p : PartId) (s : State) : Out := powered s <|
  if (s.part p).st = .dumping && (s.part p).dump.written then done s (s.dumpEnd p) else .next s

/-- DUMP_RELEASE (R388): the kept dump keys are destroyed. -/
def execDumpRelease (p : PartId) (s : State) : Out := powered s <|
  .next (s.setPart p { s.part p with dump := { (s.part p).dump with farKeys := false, k1 := 0, k2 := 0 } })

/-! ### Cross-checks (R376, R377) -/

def xchkBase (r : Nat) : Nat := regionBase r + 0x30_1000

/-- The 66 pairs of blocks in lexical order. -/
def xchkPairs : List (Nat × Nat) := ((upTo 12).map (fun k => ((upTo 12).filter (fun j => decide (k < j))).map (fun j => (k, j)))).flatten

/-- The pair after a pair, with the cell position advanced after each round (R376). -/
def xchkNext (x : Nat × Nat) : Nat × Nat := if x.1 + 1 < 66 then (x.1 + 1, x.2) else (0, (x.2 + 1) % 4)

/-- Engine points count toward the activity index of a region (R352). -/
def State.regionPoints (s : State) (r n : Nat) : State :=
  let x := s.region r
  s.setRegion r { x with points := x.points + n, slotPoints := x.slotPoints + n }

/-- The suspect blocks of a mismatch: the first, the second and the third block of the repeat (R377). -/
def suspectBlocks (k k' : Nat) (l : List (Fin 3)) : List Nat :=
  let k'' := if (k' + 1) % 12 = k then (k' + 2) % 12 else (k' + 1) % 12
  [(0, k), (1, k'), (2, k'')].filter (fun x => l.any (fun i => i.val == x.1)) |>.map (fun x => x.2)

/-- A mismatch makes blocks suspect (R377). -/
def State.markSuspects (s : State) (r cell : Nat) (seed : Nat) (ks : List Nat) : State :=
  let b := xchkBase r
  let p := s.regionPart r
  let s1 := (forEach ks (s.bump (b + 0x18) 63 0 1) (fun s k => s.wb (b + 8) k true)).wb (tollBase p + rUSTATUS) 9 true
  let s2 := { s1 with module := { s1.module with
    suspects := s1.module.suspects ++ (ks.map (fun k => (12 * r + k, s1.rb b 1))).filter (fun x => !s1.module.suspects.any (fun y => y.1 == x.1)) } }
  forEach ks s2 (fun s k => s.raise
    { code := evCrosscheckFail, part := p, kind := 3, index := 12 * r + k, arg0 := s.rf (b + 8) 11 0 + cell * 2 ^ 12, arg1 := s.rf (b + 0x10) 63 0, arg2 := seed })

/-- CROSSCHECK (R376, R377): the next pair of the region, which `first` names by its block k. The seed is the generator's (log 2). -/
def execCrosscheck (r : RegionId) (first : BlockId) (x : XcheckResult) (s : State) : Out := powered s <|
  let b := xchkBase r
  let at' := s.module.xchk.get (0, 0) r
  let (k, k') := xchkPairs.getD at'.1 (0, 1)
  if !s.rb b 0 || s.rf b 15 8 == 0 || s.lostRegions.contains r.val || (s.part (s.regionPart r)).st != .ready || s.module.trngFault
      || (s.region r).withheld || first.val != 12 * r.val + k then .next s
  else
    let (v, s0) := s.fresh
    let s1 := { s0 with module := { s0.module with xchk := s0.module.xchk.put (0, 0) r (xchkNext at') } }
    match x with
    | .abandoned => .next (s1.regionPoints r (3 * fld v 3 0))
    | .agree => .next ((s1.regionPoints r 48).bump (b + 0x10) 63 0 1)
    | .mismatch l => done s (((s1.regionPoints r 120).bump (b + 0x10) 63 0 1).markSuspects r at'.2 (fld v 31 0) (suspectBlocks k k' l))

/-! ### Tolls (R379–R381) -/

/-- TOLL_START (R380, R389): rejected while hashing or exchanging. -/
def execTollStart (p : PartId) (s : State) : Out := powered s <|
  if (s.part p).toll.st != .idle then .next (s.wb (tollBase p + rUSTATUS) 10 true)
  else .next (s.tollBegin p (s.rd (tollBase p + rSTEP)))

/-- Address of a slot of the inbox (R380). -/
def State.inboxSlot (s : State) (p m : Nat) : Nat := s.rf (tollBase p + 8) 56 12 * 4096 + 64 * m

/-- TOLL_HASH_END (R379, R380): the digest, the own slot of the inbox, and the record to every other replica. -/
def execTollHashEnd (p : PartId) (s : State) : Out := powered s <|
  let t := (s.part p).toll
  let b := tollBase p
  if t.st != .hashing then .next s
  else
    let s := forEach t.ranges s (fun s r => match s.locate { part := p } false r.1 r.2 with
      | .mem k => s.checkPB k r.2
      | _ => s)
    let (bytes, pz) := s.tollInput p t.tag t.ranges
    let dig := Config.sha384 bytes
    let self := s.rf b 37 32
    let record := (tollRecord dig t.tag self pz).map (fun x => (x, false))
    let s1 := s.setPart p { s.part p with toll := { t with st := .exchanging, digest := dig, poisoned := pz } }
    let s2 := (((forEach (upTo 6) s1 (fun s w => s.wr (b + 0x80 + 8 * w) (BitVec.ofNat 64 (nbits dig.toNat (64 * w + 63) (64 * w))))).wf (b + rUSTATUS) 2 0 2).wb
      (b + rUSTATUS) 7 pz)
    let s3 := forEach t.ranges s2 (fun s r => match s.locate { part := p } false r.1 4096 with
      | .mem k => s.countRun mRDBYTES (r.2 / 4096 + 2) k r.2
      | _ => s)
    let s4 := match s3.locate { part := p } true (s3.inboxSlot p self) 64 with
      | .mem k => s3.storePB k record
      | _ => s3
    .next (forEach (upTo 64) s4 (fun s m =>
      let e := b + 0x200 + 8 * m
      if m = self || !s.rb e 63 then s
      else match s.sendReq p (.toll p) 0 none
          ({ kind := mkWRITE, dst := s.rf e 16 0, addr := s.inboxSlot p self, job := s.rf b 15 0 : LinkMsg }.withData record) with
        | .sent s1 => s1
        | .held s1 => s1
        | .failed _ s1 => s1))

/-- A record read from the inbox: digest, step tag, index and whether it is POISONED; none when its slot cannot be read. -/
def State.inboxRecord (s : State) (p m : Nat) : Option (Nat × Nat × Nat × Bool) :=
  match s.locate { part := p } false (s.inboxSlot p m) 64 with
  | .mem k =>
    let bs := s.readPB k 64
    let v := bs.map (fun x => x.1)
    if bs.any (fun x => x.2) then none
    else some (recNum v 0 48, recNum v 48 8, recNum v 56 2, nbits (recNum v 58 2) 0 0 == 1)
  | _ => none

/-- A map of a list of replica numbers. -/
def mapOf (l : List Nat) : Nat := (l.map (fun m => 2 ^ m)).sum

/-- The outcome of a round with its odd and missing replicas (R381). `recs` holds the present records: replica, digest, POISONED. -/
def tollOutcome (self r : Nat) (recs : List (Nat × Nat × Bool)) : Nat × List Nat × List Nat :=
  let bad := (recs.filter (fun x => x.2.2)).map (fun x => x.1)
  let good := recs.filter (fun x => !x.2.2)
  let sameAs (d : Nat) : List Nat := (good.filter (fun x => x.2.1 == d)).map (fun x => x.1)
  let best := good.foldl (fun best x => if best.length < (sameAs x.2.1).length then sameAs x.2.1 else best) []
  let missing := (upTo r).filter (fun m => !recs.any (fun x => x.1 == m))
  if 2 * best.length ≤ r then (5, bad, missing)
  else
    let odd := bad ++ ((good.map (fun x => x.1)).filter (fun m => !best.contains m))
    if !best.contains self then (4, odd, missing)
    else if odd.isEmpty && missing.isEmpty then (1, odd, missing)
    else if odd.isEmpty then (2, odd, missing)
    else (3, odd, missing)

/-- The round is decided (R381). -/
def State.tollDecide (s : State) (p : Nat) : State :=
  let b := tollBase p
  let t := (s.part p).toll
  let r := s.rf b 47 41
  let self := s.rf b 37 32
  let recs := ((upTo (min r 64)).map (fun m => match s.inboxRecord p m with
    | some (d, tag, idx, pz) => if tag = t.tag.toNat && idx = m then [(m, d, pz)] else []
    | none => [])).flatten
  let (o, odd, missing) := tollOutcome self r recs
  let s1 := s.setPart p { s.part p with toll := { t with st := .idle } }
  let s2 := ((((s1.wf (b + rUSTATUS) 2 0 3).wf (b + rUSTATUS) 6 4 o).wr (b + 0x58) (BitVec.ofNat 64 (mapOf odd))).wr (b + 0x60) (BitVec.ofNat 64 (mapOf missing)))
  if o = 1 || o = 2 then s2.raise (partEvent p evTollDone o t.tag.toNat (mapOf odd))
  else
    let s3 := s2.raise (partEvent p evDigestMismatch o (mapOf odd) (mapOf missing))
    if o = 4 then s3.raise (partEvent p evReplicaExpelled self t.tag.toNat (mapOf odd)) else s3

/-- TOLL_DECIDE (R380): the inbox counter has reached TOLL.EXPECT. -/
def execTollDecide (p : PartId) (s : State) : Out := powered s <|
  let b := tollBase p
  let reached := match s.ctrKey p (s.rf (b + 0x10) 21 3 * 8) with
    | some k => decide (k < 4096) && ((s.ctr k).st == .owned || (s.ctr k).st == .frozen) && decide ((s.rd (b + 0x40)).toNat ≤ (s.ctr k).value.toNat)
    | none => false
  if (s.part p).toll.st == .exchanging && reached then done s (s.tollDecide p) else .next s

/-- TOLL_TIMEOUT (R380, R381): the round is decided from the records present. -/
def execTollTimeout (p : PartId) (s : State) : Out := powered s <|
  if (s.part p).toll.st == .exchanging then done s (s.tollDecide p) else .next s

/-- TOLL_ABORT (R389): the round in progress ends. -/
def execTollAbort (p : PartId) (s : State) : Out := powered s <|
  if (s.part p).toll.st == .idle then .next s
  else
    let s1 := (s.setPart p { s.part p with toll := { (s.part p).toll with st := .idle } }).wf (tollBase p + rUSTATUS) 2 0 4
    .next { s1 with reqs := s1.reqs.map (fun r => if r.src = .toll p then { r with src := .nobody p 12 } else r) }

/-! ### Pond copies (R382–R386) -/

/-- POND_COPY_END (R385): the header is written COMPLETE, GEN advances and DONE_CTR is signalled. -/
def execPondCopyEnd (p : PartId) (s : State) : Out := powered s <|
  let x := (s.part p).pond
  let b := pondBaseReg p
  if x.st != .copying || x.headerSent || !x.awaiting.isEmpty then .next s
  else
    let s1 := s.pondWrite p (s.rf b 16 0) 0 none ((s.copyHeader p true).map (fun v => (v, false)))
    if (s1.part p).pond.st != .copying then done s s1
    else
      let s2 := (s1.pondPut p { (s1.part p).pond with headerSent := true }).wf (b + rUSTATUS) 63 32 (s1.rf (b + rUSTATUS) 63 32 + 1)
      done s (s2.pondSignal p)

/-- Offset in space 1 of an entry of the far ring (R386). -/
def State.farEntry (s : State) (p entry : Nat) : Nat := s.rf (pondBaseReg p + 0x70) 56 12 * 4096 % 2 ^ 52 + entry * s.slotSize p

/-- POND_FAR_DRAIN (R386): the previous generation goes to its entry of the far ring, its header last; an entry that the attached range or the ports cannot take
is not written. -/
def execPondFarDrain (p : PartId) (s : State) : Out := powered s <|
  let x := (s.part p).pond
  let gens := s.rf (pondBaseReg p + 0x70) 63 60
  if !x.draining then .next s
  else
    let prev := s.pondBase p + (1 - x.cur) * s.slotSize p
    let n := min (s.slotSize p) (4096 + s.slotNum p prev 0x18 8)
    let off := s.farEntry p (s.slotNum p prev 0x14 4 % gens)
    let far := s.farStart p + off
    let s1 := (s.pondPut p { x with draining := false }).checkPB (memKey0 p prev) n
    if gens = 0 || s.farAvail p < off + n || n ≤ 4096 || !s.farUp far n then .next s1
    else .next ((s1.farStore p (far + 4096) (s1.readPB (memKey0 p (prev + 4096)) (n - 4096))).farStore p far (s1.readPB (memKey0 p prev) 4096))

/-- POND_DISARM (R389). -/
def execPondDisarm (p : PartId) (s : State) : Out := powered s <| .next (s.wb (pondBaseReg p + rTRIG) 63 false)

/-- Whether bytes are the header of a COMPLETE generation with a step tag (R382). -/
def headerMatches (h : List Byte) (tag : Nat) : Bool := recNum h 0 4 == 0x444E_4F50 && recNum h 4 1 == 1 && recNum h 8 8 == tag

/-- Where a generation to be returned lies (R386): its header and the reader of its bytes, from a slot, or else from the far ring. -/
def State.findGen (s : State) (p tag : Nat) : Option (List Byte × Bool × Nat) :=
  let slot (i : Nat) : Nat := s.pondBase p + i * s.slotSize p
  let inSlot := [(s.part p).pond.cur, 1 - (s.part p).pond.cur].filter (fun i => decide (4096 ≤ s.slotSize p) && headerMatches (s.readB (memKey0 p (slot i)) 4096) tag)
  let far (e : Nat) : Nat := s.farStart p + s.farEntry p e
  let farHead (e : Nat) : List Byte := ((s.farRead p (far e) 4096).1).map (fun x => x.1)
  let inFar := (upTo (s.rf (pondBaseReg p + 0x70) 63 60)).filter (fun e =>
    decide (s.farEntry p e + 4096 ≤ s.farAvail p) && s.farUp (far e) 4096 && headerMatches (farHead e) tag)
  match inSlot, inFar with
  | i :: _, _ => some (s.readB (memKey0 p (slot i)) 4096, false, memKey0 p (slot i))
  | [], e :: _ => some (farHead e, true, far e)
  | [], [] => none

/-- POND_RETURN (R386): each range goes to its BASE at RET_TO. Rejected while the unit copies or returns, and without a valid RET_TO. -/
def execPondReturn (p : PartId) (s : State) : Out := powered s <|
  let b := pondBaseReg p
  let x := (s.part p).pond
  if x.st != .idle || !s.rb (b + 0x60) 63 then .next (s.wb (b + rUSTATUS) 25 true)
  else
    let step := s.rd (b + 0x58)
    let s1 := s.pondPut p { x with st := .returning, step := step, awaiting := [], headerSent := false, failed := none }
    match s1.findGen p step.toNat with
    | none => done s (s1.pondFail p 2 0x0B)
    | some (h, far, base) =>
      let rs := (upTo (min 8 (recNum h 6 2))).map (fun i => (recNum h (0x50 + 16 * i) 8, recNum h (0x58 + 16 * i) 8))
      let s2 := (s1.pondPut p { (s1.part p).pond with retGen := recNum h 0x14 4 }).wf (b + rUSTATUS) 2 0 2
      let s3 := forEach (chunksOf rs) s2 (fun s (i, a) =>
        let (bs, s) := if far then s.farLoad p (base + 4096 + 4096 * i) 4096
          else
            let s1 := s.checkPB (base + 4096 + 4096 * i) 4096
            (s1.readPB (base + 4096 + 4096 * i) 4096, s1)
        s.pondWrite p (s.rf (b + 0x60) 16 0) a (s.pondPath p i) bs)
      done s (if (s3.part p).pond.st == .returning && (s3.part p).pond.awaiting.isEmpty then s3.pondDone p else s3)

/-- ACCEPT_OPEN (R386). -/
def execAcceptOpen (p : PartId) (s : State) : Out := powered s <| .next (s.pondPut p { (s.part p).pond with accepting := true })

/-- ACCEPT_CLOSE (R386). -/
def execAcceptClose (p : PartId) (s : State) : Out := powered s <| .next (s.pondPut p { (s.part p).pond with accepting := false })

/-- POND_ABORT (R384): a copy, or a return, ends with reason ABORTED. -/
def execPondAbort (p : PartId) (s : State) : Out := powered s <|
  if (s.part p).pond.st == .idle then .next s else done s (s.pondFail p 4 0x0A)

end Sys2Proof.Machine
end

