-- ==== Sys2Proof/Machine/Security.lean ====
section
/-! DEFINITION. The generator, the structural scan, and dressing step by step (R19, R378, R395 to R411). -/

namespace Sys2Proof.Machine

/-- TRNG_HEALTH_FAIL (R395): the generator refuses every request until the next start-up. -/
def State.trngFail (s : State) : State :=
  { s with module := { s.module with trngFault := true, trngFails := (s.module.trngFails + 1) % 65536 } }.raise { code := evTrngFault, part := 6 }

def execTrngHealthFail (s : State) : Out := powered s <| .next s.trngFail

/-! ### The structural scan and the block out of service (R19, R378) -/

/-- The physical block out of service in a region. -/
def State.outBlock (s : State) (r : Nat) : Nat := s.module.spare.get 12 r

/-- The physical block of an active block (R22). -/
def State.physBlock (s : State) (b : Nat) : Nat :=
  let k := b % 12
  if k < s.outBlock (b / 12) then k else k + 1

/-- The physical blocks of a region that the retirement record lists. -/
def State.retiredBlocks (s : State) (r : Nat) : List Nat := (s.module.retired.filter (fun e => e.1 == r)).map (fun e => e.2.1)

/-- The scan of one region (R378): blocks that fail it, and suspect blocks that had RETIRE set, enter the record, which holds 24 entries; R19 then applies. The second
component says whether the region forms twelve active blocks. -/
def State.scanRegion (s : State) (r cause : Nat) (bad : List Nat) : State × Bool :=
  let start := s.rf 0x0B00_0010 31 0
  let old := s.retiredBlocks r
  let sus := (s.module.suspects.filter (fun e => e.1 / 12 == r && e.2)).map (fun e => s.physBlock e.1)
  let newBad := bad.eraseDups.filter (fun b => !old.contains b)
  let newSus := sus.eraseDups.filter (fun b => !old.contains b && !bad.contains b)
  let listed := old ++ newBad ++ newSus
  let m := { s.module with
    retired := (s.module.retired ++ newBad.map (fun b => (r, b, cause, start)) ++ newSus.map (fun b => (r, b, 3, start))).take 24
    suspects := s.module.suspects.filter (fun e => e.1 / 12 != r)
    spare := s.module.spare.put 12 r (match listed with
      | [b] => b
      | _ => s.cfgB (0x030 + r)) }
  ({ s with module := m }.wr (xchkBase r + 8) 0, decide (listed.length ≤ 1))

/-- The scan of a partition's regions; whether every one forms twelve active blocks. -/
def State.scanPart (s : State) (p cause : Nat) (bad : List (Fin 12 × Fin 13)) : State × Bool :=
  (s.partRegions p).foldl (fun (acc : State × Bool) r =>
    let (s1, ok) := acc.1.scanRegion r cause ((bad.filter (fun b => b.1.val == r)).map (fun b => b.2.val))
    (s1, acc.2 && ok)) (s, true)

/-! ### What dressing erases (R407) -/

/-- The partition that holds a memory key: space 0, a region buffer, or a cell's window. -/
def State.keyPart (s : State) (k : Nat) : Nat :=
  if k < 6 * 2 ^ 44 then k / 2 ^ 44
  else if k < 7 * 2 ^ 44 then s.regionPart ((k - 6 * 2 ^ 44) / 0x1000_0000)
  else s.cellPart ((k - 7 * 2 ^ 44) / 0x80_0000)

/-- Step 3: every byte of the partition's space 0, region buffers and stores reads zero, and every hopper, mask, program slot, buffer, tag slot and queue is empty. -/
def State.wipePart (s : State) (p : Nat) : State :=
  let s1 := { s with mem := s.mem.filter (fun e => s.keyPart e.1 != p), poison := s.poison.filter (fun e => s.keyPart (e.1 * 32) != p)
                     stale := s.stale.filter (fun e => s.keyPart (e.1 * 256) != p) }
  let s2 := forEach (s1.partCells p) s1 (fun s c =>
    let x := s.cell c
    s.setCell c { st := x.st, prior := x.prior, frozenCtrs := x.frozenCtrs, sleep := x.sleep, noPg := x.noPg })
  let s3 := forEach (s2.partBlocks p) s2 (fun s b =>
    let s1 := forEach (upTo 16) s (fun s ch => s.setChan b ch {})
    forEach (upTo 64) (s1.setSluice b {}) (fun s n => s.wr (blockBase b + 0x400 + 8 * n) 0))
  s3.setPart p { s3.part p with pond := {} }

/-- The partition whose units a stored register belongs to (R31, R392). -/
def State.regPartOf (s : State) (off : Nat) : Option Nat :=
  let o := off % 2 ^ 40
  if off / 2 ^ 40 ≠ 0 then some (off / 2 ^ 40)
  else if 0x0200_0000 ≤ o && o < 0x0300_0000 then some 0
  else if 0x0300_0000 ≤ o && o < 0x0300_6000 then some (s.bedPart ((o - 0x0300_0000) / 0x1000))
  else if (0x0300_6000 ≤ o && o < 0x0300_7000) || (0x0500_0000 ≤ o && o < 0x0600_0000) then s.guestPart
  else if 0x0600_0000 ≤ o && o < 0x0660_0000 then some ((o - 0x0600_0000) / 0x10_0000)
  else if 0x0710_0000 ≤ o && o < 0x0716_0000 then some ((o - 0x0710_0000) / 0x1_0000)
  else if 0x0801_0000 ≤ o && o < 0x0801_6000 then some ((o - 0x0801_0000) / 0x1000)
  else if 0x0900_0000 ≤ o && o < 0x0906_0000 then some ((o - 0x0900_0000) / 0x1_0000)
  else if 0x0C00_0000 ≤ o && o < 0x0C00_6000 then some ((o - 0x0C00_0000) / 0x1000)
  else if 0x1000_0000 ≤ o && o < 0x1600_0000 then some (s.bedPart ((o - 0x1000_0000) / 0x0100_0000))
  else if 0x2000_0000 ≤ o && o < 0x2C00_0000 then some (s.regionPart ((o - 0x2000_0000) / 0x0100_0000))
  else none

/-- Registers that show what training left and dressing does not undo (R218, R292, R407): MEM.CFG, STATUS and REPAIR, LEAT.STATUS and REPAIR, FL.STATUS; and WEIR.STATUS,
whose KILLED lasts until the next start-up (R272). -/
def keptInDressing (off : Nat) : Bool :=
  let o := off % 2 ^ 40
  if 0x2000_0000 ≤ o then
    let rel := (o - 0x2000_0000) % 0x0100_0000
    (0x10_0000 ≤ rel && rel < 0x12_0000 && decide (rel % 0x1_0000 < 0x18)) || (0x20_0000 ≤ rel && rel < 0x20_8000 && decide (rel % 0x1000 < 8))
  else if 0x1000_0000 ≤ o || (0x0300_0000 ≤ o && o < 0x0300_7000) then
    let rel := if 0x1000_0000 ≤ o then (o - 0x1000_0000) % 0x0100_0000 else 0x20_0000 + (o - 0x0300_0000)
    0x20_0000 ≤ rel && rel < 0x20_7000 && (rel % 0x1000 == 0 || rel % 0x1000 == 0x10)
  else o == 0x0500_0008

/-- Every counter of a partition goes FREE (R196); its signals on the way are gone with their senders. -/
def State.freeCounters (s : State) (p : Nat) : State :=
  let mine (k : Nat) : Bool := match ctrRegion k with
    | some r => s.regionPart r == p
    | none => decide (s.pscBase p ≤ k) && decide (k < s.pscBase p + s.pscShare p)
  { s with counters := s.counters.filter (fun e => !mine e.1), signals := s.signals.filter (fun g => g.part != p) }

/-! ### Sessions end (R319, R331) -/

/-- A session ends (R319): its queue pairs go to RESET, and its sealed memory regions are deregistered. -/
def State.endSession (s : State) (p slot : Nat) : State :=
  match s.session p slot with
  | none => s
  | some x =>
    let e := s.endpoint p
    s.setEndpoint p { e with
      sessions := e.sessions.put none slot none
      mrs := e.mrs.filter (fun m => match m.2 with
        | some r => !(r.session == x.id && r.sealedMr)
        | none => true)
      qps := e.qps.filter (fun q => q.2.session != x.id) }

/-- Every session of an endpoint ends, its queue pairs are RESET and its memory regions deregistered (R331). -/
def State.endAllSessions (s : State) (p : Nat) : State :=
  let e := s.endpoint p
  s.setEndpoint p { e with sessions := [], mrs := [], qps := [], sources := e.sources.map (fun x => { x with handshake := false }) }

/-! ### Dressing (R406–R411) -/

/-- Whether a dressing is accepted (R406): READY, or FAILED with no lost region; a start-up exit and a failed dressing last until the next start-up (R410, R424). -/
def State.dressable (s : State) (p : Nat) : Bool :=
  let x := s.part p
  s.partValid p && (x.st == .ready
    || (x.st == .failed && s.lostMap p == 0 && x.cause != evStartFailed && x.cause != evDressingFailed))

/-- The test registers of a partition are cleared (R431). -/
def State.clearTest (s : State) (p : Nat) : State :=
  forEach (upTo 7) s (fun s i => s.wr (0x0C00_0000 + p * 0x1000 + 8 * i) 0)

/-- A dressing is accepted: PHASE 1. From its first step the partition's links send DRESSING flits (R292), its sessions are ended with their queue pairs and memory regions (R331), the
weir holds the guest die and passes nothing (R273), and the test controls are cleared. -/
def State.startDress (s : State) (p : Nat) : State :=
  let s0 := (s.setPart p { s.part p with st := .dressing, dress := 1 }).clearTest p
  let s1 := forEach (s0.partLinks p) s0 (fun s f => match (s.link f).st with
    | .fenced | .disabled => s
    | _ => s.linkGo f .dressing)
  let s2 := s1.endAllSessions p
  if s2.guestPart = some p then { s2 with weir := { s2.weir with held := true, waiting := [] } }.leatGo guestPort .held else s2

/-- PCTRL_DRESS (R406). -/
def execPctrlDress (p : PartId) (s : State) : Out := powered s <|
  done s (if s.dressable p then s.startDress p else s.wb (secBase p + 8) 7 true)

/-- Step 1, STOPPING; step 2 begins with the destruction of the keys. -/
def State.dressStop (s : State) (p : Nat) : State :=
  let s4 := forEach ((s.partCells p).filter (fun c => (s.cell c).st != .killing && (s.cell c).st != .killed)) s (fun s c => s.killCell c)
  let s5 := forEach (upTo 32) s4 (fun s n => ((s.setLine p n {}).wr (lineCtrl p n) 0).wr (lineStatus p n) 0)
  let s6 := forEach (s5.partBlocks p) s5 (fun s b => (s.wr (shutMaskBase b) 0).wr (shutMaskBase b + 8) 0)
  let s7 := { s6 with reqs := s6.reqs.map (fun (r : Req) => if r.src = ReqSrc.pond p || r.src = ReqSrc.toll p then { r with src := .nobody p 12 } else r) }
  (((s7.freeCounters p).loseKeys p).setPart p { (s7.loseKeys p).part p with dress := 2 })

/-- Step 2, KEYS (R398): new keys for a new session; a generator that refuses fails the dressing. -/
def State.dressKeys (s : State) (p : Nat) (session : Word64) : State :=
  if s.module.trngFault then s.dressFail p 3
  else
    let s1 := s.drawKeys p
    let s1 := s1.setPart p { s1.part p with dress := 3 }
    (s1.wr (secBase p + 0x18) session).bump (secBase p + 0x20) 63 0 1

/-- The registers of a partition's units return to their reset values (R8, R407). -/
def State.resetRegs (s : State) (p : Nat) : State :=
  { s with regs := s.regs.filter (fun e => s.regPartOf e.1 != some p || keptInDressing e.1) }

/-- A kept far-tier dump is copied into the dump area when the partition reaches READY (R388), if its ports are UP. -/
def State.recoverDump (s : State) (p : Nat) : State :=
  let d := (s.part p).dump
  if !d.farKeys || !s.farUp d.farBase d.bytes then s
  else
    let q := s.part p
    let (bs, s1) := State.farLoad (s.setPart p { q with epoch := d.farEpoch }) p d.farBase d.bytes
    let s2 := (s1.setPart p { q with dump := { d with farKeys := false, k1 := 0, k2 := 0 } }).storePB (memKey0 p (s1.dumpBase p)) bs
    (s2.wf (dumpBaseReg p + 0x10) 2 0 5).raise (partEvent p evFatalDumpDone (5 + 8) d.bytes 0)

/-- Step 5, RESTART, and step 6: READY. -/
def State.dressRestart (s : State) (p : Nat) : State :=
  let (us, s0) := s.clock32
  let s1 := s0.resetRegs p
  let s2 := forEach (s1.partCells p) s1 (fun s c => s.setCell c {})
  let s3 := forEach (s2.partRegions p) s2 (fun s r => s.setRegion r { s.region r with tag := none, occN := 0, occP := 0, occDn := 0, occD := 0, points := 0, slotPoints := 0 })
  let s4 := (s3.clearFan p).setLog p []
  let s5 := s4.setEndpoint p { s4.endpoint p with journal := [], sessions := [], mrs := [], qps := [], overwritten := [] }
  let f := s5.fabric p
  let s6 := s5.setFabric p { f with plan2 := [], route2 := [], routes := [], outcomes := f.outcomes.filter (fun e => linkLevel e.1 == 1) }
  let s7 := { s6 with module := { s6.module with xchk := s6.module.xchk.filter (fun e => s6.regionPart e.1 != p) }
                      ceWin := s6.ceWin.filter (fun e => s6.stackPart e.1 != p)
                      raised := s6.raised.filter (fun e => e.part != p) }
  let q := s7.part p
  let s8 := s7.setPart p { q with st := .ready, cause := 0, dress := 0, toll := {}, pond := {}, dump := { q.dump with written := false } }
  let s9 := (s8.wr (secBase p + 0x28) (BitVec.ofNat 64 (us * 2 ^ 32 + 2 ^ 8))).dressLinks p
  (s9.raise (partEvent p evDressingDone us (s9.rf (secBase p + 0x20) 63 0) 0)).recoverDump p

/-- DRESSING_STEP (R407, R410): the step in progress ends. -/
def execDressingStep (p : PartId) (res : StepResult) (s : State) : Out := powered s <|
  let x := s.part p
  if x.st ≠ .dressing then .next s
  else match x.dress, res with
  | 1, .done _ _ => done s (s.dressStop p)
  | 2, .done _ session => done s (s.dressKeys p session)
  | 2, .fail _ => done s (s.trngFail.dressFail p 3)
  | 3, .done _ _ => .next ((s.wipePart p).setPart p { (s.wipePart p).part p with dress := 4 })
  | 4, .done bad _ =>
    let (s1, ok) := s.scanPart p 2 bad
    if ok then .next (s1.setPart p { s1.part p with dress := 5 }) else done s (s1.dressFail p 4)
  | 5, .done _ _ => .next (s.dressRestart p)
  | _, _ => .next s

end Sys2Proof.Machine
end

