-- ==== Sys2Proof/Machine/Image.lean ====
section
/-! DEFINITION. The Itgaty image: its header, its bodies and the checks of its configuration (R391, R402, R415 to R419). -/

namespace Sys2Proof.Machine

/-! ### The checks of a configuration body (R419) -/

/-- A byte and a little-endian number of a configuration body. -/
def cb (c : List Byte) (o : Nat) : Nat := (c.getD o 0).toNat
def cn (c : List Byte) (o n : Nat) : Nat := ofBytes ((c.drop o).take n)

/-- The partition a layout gives a bedstone. -/
def layoutPart (c : List Byte) (b : Nat) : Nat := nbits (cn c 0x010 4) (3 * b + 2) (3 * b)
def layoutBeds (c : List Byte) (p : Nat) : List Nat := (upTo 6).filter (fun b => layoutPart c b == p)
/-- The partitions that a layout forms. -/
def layoutParts (c : List Byte) : List Nat := (upTo 6).filter (fun p => !(layoutBeds c p).isEmpty)

/-- R390 and R391: bits above 17 are zero, partitions are numbered from 0 in the order of their lowest bedstones, and no path of a partition leaves it. -/
def layoutOk (c : List Byte) : Bool :=
  let ps := layoutParts c
  let least (p : Nat) : Nat := (layoutBeds c p).headD 6
  decide (cn c 0x010 4 < 2 ^ 18) && (upTo 6).all (fun b => decide (layoutPart c b < 6)) && ps == upTo ps.length
    && (ps.zip (ps.drop 1)).all (fun e => decide (least e.1 < least e.2))
    && ps.all (fun p => (layoutBeds c p).all (fun i => (layoutBeds c p).all (fun j => (leatPath i j).all (fun x => (layoutBeds c p).contains x))))

def within (x lo hi : Nat) : Bool := decide (lo ≤ x) && decide (x ≤ hi)

/-- Bytes from `o` on are zero. -/
def zeros (c : List Byte) (o n : Nat) : Bool := cn c o n == 0

/-- A weir window satisfies R269: a base in spaces 0 to 4 aligned to its size of 4 KiB to 2^43, and SIGNAL alone in space 4; an invalid one is not checked. -/
def windowOk (c : List Byte) (w : Nat) : Bool :=
  let base := cn c (0x0D0 + 16 * w) 8
  let g := cn c (0x0D8 + 16 * w) 8
  let size := nbits g 13 8
  nbits g 63 63 == 0
    || (nbits base 63 57 == 0 && nbits base 11 0 == 0 && decide (base / 2 ^ 52 ≤ 4) && within size 12 43 && base % 2 ^ size == 0 && nbits g 62 14 == 0
      && nbits g 7 3 == 0 && (base / 2 ^ 52 != 4 || nbits g 1 0 == 0))

/-- A link-version record: within the range of its interface, and no feature outside its mask (R267, R318). -/
def versionOk (c : List Byte) (o maxMinor mask : Nat) : Bool :=
  cb c o == 1 && decide (cb c (o + 1) ≤ maxMinor) && zeros c (o + 2) 2 && decide (cn c (o + 4) 4 ||| mask = mask)

def pow2Between (x : Nat) : Bool := [32, 64, 128, 256, 512, 1024, 2048, 4096].contains x

/-- The module fields in ascending order: offset, and whether the field passes. -/
def moduleChecks (c : List Byte) (guest : Bool) : List (Nat × Bool) :=
  let ps := layoutParts c
  [(0x010, layoutOk c), (0x014, within (cb c 0x014) 0 2),
   (0x015, !guest || cb c 0x015 == 0xFF || ps.contains (cb c 0x015)), (0x016, decide (cb c 0x016 < 8)),
   (0x017, within (cb c 0x017) 1 255),
   (0x018, within (cb c 0x018) 5 90 && within (cb c 0x019) 5 90 && within (cb c 0x01A) 5 90 && cb c 0x018 + cb c 0x019 + cb c 0x01A == 100),
   (0x01B, within (cb c 0x01B) 20 80), (0x01C, within (cb c 0x01C) 5 40), (0x01D, within (cb c 0x01D) 80 100), (0x01E, within (cb c 0x01E) 89 95),
   (0x01F, zeros c 0x01F 1), (0x020, within (cn c 0x020 2) 1000 7200), (0x022, within (cn c 0x022 2) 1024 1280),
   (0x024, within (cb c 0x024) 1 16 && within (cb c 0x025) 0 15 && within (cb c 0x026) 1 4 && within (cb c 0x027) 1 255 && within (cb c 0x028) 0 1),
   (0x029, zeros c 0x029 7)]
  ++ (upTo 12).map (fun r => (0x030 + r, within (cb c (0x030 + r)) 0 12))
  ++ [(0x03C, zeros c 0x03C 4), (0x04C, zeros c 0x04C 4)]
  ++ (upTo 96).map (fun n => (0x050 + n, within (cb c (0x050 + n)) 0 15))
  ++ [(0x0B0, versionOk c 0x0B0 1 0xF), (0x0B8, versionOk c 0x0B8 2 0x7), (0x0C0, versionOk c 0x0C0 1 0x3),
      (0x0C8, !guest || (let v := cn c 0x0C8 8
        within (nbits v 63 56) 1 128 && within (nbits v 55 48) 1 128 && within (nbits v 47 32) 1 1024 && nbits v 31 13 == 0 && pow2Between (nbits v 12 0)))]
  ++ (upTo 16).map (fun w => (0x0D0 + 16 * w, !guest || windowOk c w))
  ++ [(0x1D0, zeros c 0x1D0 0x30)]

/-- Gibibytes of a partition, and the odd factor of R222. -/
def partGib (c : List Byte) (p : Nat) : Nat := 256 * (layoutBeds c p).length
def oddFactor (n : Nat) : Nat := if n = 3 || n = 6 then 3 else if n = 5 then 5 else 1

/-- The partition record p: a record whose partition the layout does not form has only its VALID bit and its reserved bytes to check. -/
def partChecks (c : List Byte) (p : Nat) : List (Nat × Bool) :=
  let o := 0x200 + 0x100 * p
  let ps := layoutParts c
  let on := ps.contains p
  let flag (i : Nat) : Bool := nbits (cb c o) i i == 1
  let sum (k : Nat) : Nat := (ps.map (fun q => cb c (0x200 + 0x100 * q + k))).sum
  let first := ps.head? == some p
  let pond := cn c (o + 4) 2
  let base := cb c (o + 6)
  let size := cb c (o + 7)
  let addr := cn c (o + 8) 16
  let others := ps.filter (fun q => q < p)
  let rng (q : Nat) : Nat × Nat := (cb c (0x206 + 0x100 * q), cb c (0x207 + 0x100 * q))
  [(o, decide (cb c o < 32) && flag 0 == on && (!flag 2 || flag 1)),
   (o + 1, !on || (within (cb c (o + 1)) 1 100 && (!first || sum 1 == 100))),
   (o + 2, !on || (within (cb c (o + 2)) 1 16 && (!first || decide (sum 2 ≤ 16)))),
   (o + 3, !on || (decide (cb c (o + 3) < 16) && (!flag 1 || cb c (o + 3) == 0))),
   (o + 4, !on || (decide (2 * pond ≤ partGib c p) && (!flag 3 || (4 + pond) % oddFactor (layoutBeds c p).length == 0))),
   (o + 6, !on || (decide (base < 128) && decide (base + size ≤ 128)
      && others.all (fun q => size == 0 || (rng q).2 == 0 || decide (base + size ≤ (rng q).1) || decide ((rng q).1 + (rng q).2 ≤ base)))),
   (o + 8, !on || (addr != 0 && addr / 2 ^ 120 != 0xFF && others.all (fun q => cn c (0x208 + 0x100 * q) 16 != addr))),
   (o + 0x18, !on || (within (cn c (o + 0x18) 2) 1024 65535 && cn c (o + 0x18) 2 != 4791)),
   (o + 0x1D, zeros c (o + 0x1D) 3), (o + 0x50, zeros c (o + 0x50) 0xB0)]

/-- The offset of the first failing field; none: the configuration passes (R419). On -1536M the guest fields are not looked at. -/
def configFault (c : List Byte) (guest : Bool) : Option Nat :=
  ((moduleChecks c guest ++ ((upTo 6).map (partChecks c)).flatten).find? (fun e => !e.2)).map (fun e => e.1)

/-! ### A copy (R415–R417) -/

/-- Offset and length of a body as the copy header gives them: firmware, configuration, scan patterns. -/
def bodySpan (h : List Byte) (i : Nat) : Nat × Nat := (cn h (0x0C + 8 * i) 4, cn h (0x10 + 8 * i) 4)

/-- The copy header is good: MAGIC, FORMAT, and bodies on 4 KiB boundaries of permitted lengths. -/
def imageHeaderOk (h : List Byte) : Bool :=
  cn h 0 4 == 0x5947_5449 && cn h 4 2 == 1 && (upTo 3).all (fun i => (bodySpan h i).1 % 4096 == 0 && decide ((bodySpan h i).1 + (bodySpan h i).2 ≤ 24 * 2 ^ 20))
    && decide ((bodySpan h 0).2 ≤ 4 * 2 ^ 20) && (bodySpan h 1).2 == 0x800 && decide ((bodySpan h 2).2 ≤ 16 * 2 ^ 20)

/-- The configuration body of a copy. -/
def configBody (h : List Byte) : List Byte := ((h.drop (bodySpan h 1).1).take 0x800) ++ List.replicate (0x800 - ((h.drop (bodySpan h 1).1).take 0x800).length) 0

/-- SVN of a body. -/
def bodySvn (h : List Byte) (i : Nat) : Nat := cn h ((bodySpan h i).1 + 8) 4

/-- A_RESULT or B_RESULT of a copy that is tried (R417, R434), with the first failing offset of its configuration. `verified` says that both signatures of all three
bodies verify (R402; log 3). -/
def copyResult (copy : Option (List Byte)) (verified : Bool) (fused : Nat) (guest : Bool) : Nat × Option Nat :=
  match copy with
  | none => (7, none)
  | some h =>
    let kindOk (i : Nat) : Bool := cn h (bodySpan h i).1 2 == i + 1 && cn h ((bodySpan h i).1 + 2) 2 == 1 && cn h ((bodySpan h i).1 + 4) 4 == cn h 8 4
    let svn := bodySvn h 0
    if !imageHeaderOk h then (2, none)
    else if !verified then (3, none)
    else if !(upTo 3).all kindOk then (4, none)
    else if svn < fused || bodySvn h 1 ≠ svn || bodySvn h 2 ≠ svn then (5, none)
    else match configFault (configBody h) guest with
      | some o => (6, some o)
      | none => (1, none)

/-- GENERATION of a copy's header; a header that is not good counts as the lowest. -/
def copyGeneration (copy : Option (List Byte)) : Nat := match copy with
  | some h => if imageHeaderOk h then cn h 8 4 + 1 else 0
  | none => 0

/-- The configuration in use from a body (R418): its header's 16 bytes hold no field. -/
def configTable (c : List Byte) : Table Byte :=
  (upTo 0x800).foldl (fun t i => if i < 16 then t else t.put (cfgRef i) i (c.getD i 0)) []

end Sys2Proof.Machine
end

