-- ==== Sys2Proof/Machine/Startup.lean ====
section
/-! DEFINITION. From power to READY: power, reset, the steps of start-up and the package's own faults (R19, R218, R337, R372, R421 to R425). -/

namespace Sys2Proof.Machine

def rBOOT : Nat := 0x0B00_0000

/-- Start-up begins at step 0 (R421, R422): the cause of the last stop is shown, and the start-up is counted. -/
def State.beginStartup (s : State) : State :=
  let s1 := ((s.wr rBOOT 0).wr (rBOOT + 8) 0).wr (rBOOT + 0x18) (BitVec.ofNat 64 s.module.lastCause)
  let s2 := s1.bump (rBOOT + 0x10) 31 0 1
  { s2 with
    module := { s2.module with held := true, starting := true, step := 0, fatal := 0, trngFault := false, trngFails := 0 }
    power := { s2.power with railFault := [] } }

/-- A reset of the module (R421): every rail but the always-on rail is off, keys, coordinate and board limit are gone, and start-up restarts. -/
def State.moduleReset (s : State) (cause : Nat) : State :=
  let s1 := s.unpower .starting
  { s1 with module := { s1.module with coord := none, lastCause := cause }, power := { s1.power with boardLimit := 0, inputOk := true } }.beginStartup

/-- MOD_RESET (R421). -/
def execModReset (s : State) : Out := if s.module.powered then .next (s.moduleReset 1) else .next s

/-- POWER_ON (R422): the input comes into range with MOD_RESET_N high. -/
def execPowerOn (s : State) : Out :=
  if s.module.powered then .next s
  else .next ({ s with module := { s.module with powered := true, lastCause := 0 }, power := { s.power with inputOk := true } }.beginStartup)

/-- POWER_OFF (R337, R421): below 36 V the always-on domain keeps nothing; the flash and the fuses do. -/
def execPowerOff (s : State) : Out :=
  if !s.module.powered then .next s
  else
    let s1 := s.unpower .stopped
    let s2 := forEach (upTo 6) s1 (fun s p => s.setPart p { s.part p with dump := {} })
    .next (((({ s2 with
      board := {}
      module := { s2.module with powered := false, coord := none, lastCause := 0, fatal := 0 }
      power := { s2.power with boardLimit := 0, inputOk := false } }).wr rBOOT 0).wr (rBOOT + 8) 0).wr (rBOOT + 0x18) 0)

/-- MILLER_WATCHDOG (R372): the hurst is reset without a dump, and the cause is kept. -/
def execMillerWatchdog (s : State) : Out := powered s <| .next (s.moduleReset 3)

/-- HURST_FAULT (R372): causes 1 to 3. -/
def execHurstFault (cause : Fin 3) (s : State) : Out := powered s <|
  done s ((s.raise { code := evHurstFault, part := 6, arg0 := cause.val + 1 }).packageFatal evHurstFault)

/-! ### Steps 0 to 3 -/

/-- BOOT.STATUS.STEP shows the step in progress (R422): the module's, and then the least that a partition is at. -/
def State.showStep (s : State) : State :=
  let ps := s.validParts.filter (fun p => (s.part p).st == .starting)
  s.wf rBOOT 19 16 (if s.module.starting then s.module.step else ps.foldl (fun m p => min m (s.part p).step) 9)

def State.moduleStep (s : State) (n : Nat) : State := State.showStep { s with module := { s.module with step := n } }

/-- Step 2 (R417): the copy with the higher GENERATION is tried first, A when they are equal, and the other only if it is not valid. -/
def State.readImages (s : State) (a b : Option (List Byte)) (va vb : Bool) (feed : BitVec 4) : State :=
  let try' (c : Option (List Byte)) (v : Bool) := copyResult c v s.module.fusedSvn s.module.guestSite
  let aFirst := decide (copyGeneration b ≤ copyGeneration a)
  let (r1, f1) := if aFirst then try' a va else try' b vb
  let (r2, f2) := if r1 = 1 then (0, none) else if aFirst then try' b vb else try' a va
  let (ra, rb) := if aFirst then (r1, r2) else (r2, r1)
  let chosen := if ra = 1 then a else b
  let s1 := (((s.wf rBOOT 35 32 feed.toNat).wf rBOOT 11 8 ra).wf rBOOT 15 12 rb).wf rBOOT 1 0 (if ra = 1 then 1 else if rb = 1 then 2 else 0)
  let note (s : State) (first : Bool) (o : Option Nat) : State := match o with
    | some x => (s.wf (rBOOT + 8) 31 16 x).wb (rBOOT + 8) 0 (first != aFirst)
    | none => s
  let s2 := note (note s1 true f1) false f2
  if ra ≠ 1 && rb ≠ 1 then s2.moduleExit 2 2
  else
    let h := chosen.getD []
    { s2 with cfg := configTable (configBody h), module := { s2.module with imageSvn := bodySvn h 0 } }.moduleStep 3

/-- Step 3 ends: the units have power; each partition starts at step 4, and the stacks train (R422, R423). A guest site without KILLED is held until its port is UP (R272). -/
def State.railsUp (s : State) : State :=
  let src := if s.power.extRef then 1 else 2
  let s1 := { s with
    module := { s.module with held := false, starting := false, step := 4 }
    power := { s.power with railsOff := [], source := src }
    weir := { s.weir with killed := !s.module.guestSite, held := s.module.guestSite } }
  let s2 := forEach (upTo 6) s1 (fun s p =>
    if (s.part p).st = .failed then s
    else s.setPart p { s.part p with st := if s.partValid p then .starting else .ready, step := 4, cause := 0 })
  let s3 := forEach ((upTo 96).filter s2.flumeUnused) s2 (fun s f => (s.linkReason f 7).setLink f { s.link f with st := .disabled })
  (forEach (upTo 24) s3 (fun s k => s.wf (memBase k + 8) 2 0 1)).showStep

/-! ### Steps 4 to 9 of a partition -/

/-- The lane group of a lane (R219), and how many spares it has. -/
def laneGroup : HbmLane → Nat × Nat
  | .lane pc _ => (pc.val, 2)
  | .row _ => (2, 1)
  | .column _ => (3, 1)

/-- The failed lanes of group `g` of channel `c`. -/
def trialInGroup (t : BinTrial) (c g : Nat) : Nat :=
  (t.failed.eraseDups.filter (fun l => l.1.val == c && (laneGroup l.2).1 == g)).length

/-- Whether a stack passes a bin (R219): no lane group of any channel needs more spares than it has. -/
def trialPasses (t : BinTrial) : Bool :=
  !t.fails && t.failed.all (fun l => decide (trialInGroup t l.1.val (laneGroup l.2).1 ≤ (laneGroup l.2).2))

/-- MEM.REPAIR after training (R219): the lanes mapped onto spares, and the channels that have no spare left in some lane group. -/
def trialRepair (t : BinTrial) : Word64 :=
  let full := (t.failed.filter (fun l => decide ((laneGroup l.2).2 ≤ trialInGroup t l.1.val (laneGroup l.2).1))).map (fun l => l.1.val)
  BitVec.ofNat 64 (t.failed.eraseDups.length * 2 ^ 32 + ((upTo 32).map (fun c => if full.contains c then 2 ^ c else 0)).sum)

/-- The bin that a stack reaches, from `bin` on downwards, with what training found there (R218); none: it fails bin 0. -/
def binReached : Nat → List BinTrial → Option (Nat × BinTrial)
  | bin, [] => some (bin, {})
  | bin, t :: ts =>
    if trialPasses t then some (bin, t)
    else match bin with
      | 0 => none
      | n + 1 => binReached n ts

/-- What the training of the stacks of a partition finds, by stack. -/
def State.stackBins (s : State) (p : Nat) (train : List (StackId × List BinTrial)) : List (Nat × Option (Nat × BinTrial)) :=
  (s.partStacks p).map (fun k => (k, binReached (s.cfgB 0x014) (((train.find? (fun e => e.1.val == k)).map (fun e => e.2)).getD [])))

/-- Whether the stacks of a partition are trained. -/
def State.stacksTrained (s : State) (p : Nat) : Bool := (s.partStacks p).all (fun k => s.rf (memBase k + 8) 2 0 == 2)

/-- Once no partition's stacks are training, every leat port trains, and so do the far-tier ports (R247, R263). -/
def State.afterStacks (s : State) : State :=
  if s.validParts.any (fun p => (s.part p).st == .starting && (s.part p).step == 4 && !s.stacksTrained p) then s
  else
    let s1 := forEach ((upTo 55).filter (fun p => s.leatExists p && (p != guestPort || s.guestPart.isSome))) s (fun s p => s.setLeat p { st := .training })
    forEach [0, 1] s1 (fun s q => s.wf (farBase q) 2 0 1)

/-- The stacks of a partition have trained (R218, R219): they run at the lowest bin that any of them reached, and STACK_DOWNBIN names those that fell short of the image's bin; a stack that
failed bin 0 is lost, and the partition takes its failure exit. -/
def State.stacksUp (s : State) (p : Nat) (train : List (StackId × List BinTrial)) : State :=
  let bins := s.stackBins p train
  let lost := (bins.filter (fun e => e.2.isNone)).map (fun e => e.1)
  let reached := bins.filterMap (fun e => e.2.map (fun x => (e.1, x)))
  if !lost.isEmpty then
    (forEach lost s (fun s k => (s.wf (memBase k + 8) 2 0 3).raise (stackEvent s evStackLost k 1 0))).partExit p 6 4
  else
    let image := s.cfgB 0x014
    let bin := reached.foldl (fun m e => min m e.2.1) image
    let s1 := forEach reached s (fun s e =>
      (((s.wf (memBase e.1) 23 22 bin).wf (memBase e.1 + 8) 2 0 2).wb (memBase e.1 + 8) 8 (decide (bin < image))).wr (memBase e.1 + 0x10) (trialRepair e.2.2))
    if bin < image then s1.raise (partEvent p evStackDownbin (mapOf ((reached.filter (fun e => decide (e.2.1 < image))).map (fun e => e.1))) 0 0) else s1

/-- The end of step 4 (R19, R398, R422): the scan, and the memory keys. A generator that refuses keeps the partition from READY (R395). -/
def State.startScan (s : State) (p : Nat) (bad : List (Fin 12 × Fin 13)) (session : Word64) : State :=
  let (s1, ok) := s.scanPart p 1 bad
  if !ok then s1.partExit p 7 4
  else if s1.module.trngFault then s1.partExit p 3 4
  else
    let s2 := s1.drawKeys p
    let s3 := s2.setPart p { s2.part p with epoch := (s2.part p).epoch + 1, step := 5 }
    (s3.wr (secBase p + 0x18) session).wr (secBase p + 0x20) 0

/-- One step of a partition's start-up ends (R422, R423): step 6 begins with the initialisation of the host port's module (R313), and a fault of the module is shown and leaves the step in
progress, for R424 gives it no exit (DEDUCED, log 33); of step 4 the training of the stacks first, then the rest. Step 7 waits for a coordinate and step 8 for COMPLETE or DEGRADED (R302). -/
def State.partStep (s : State) (p : Nat) (res : StepResult) : State :=
  let x := s.part p
  let atStep (t : State) (n : Nat) : State := t.setPart p { t.part p with step := n }
  match x.step, res with
  | 4, .stacks train => if s.stacksTrained p then s else (s.stacksUp p train).afterStacks
  | 4, .done bad session => if s.stacksTrained p then s.startScan p bad session else s
  | 4, .fail code => if code = 7 then s.partExit p 7 4 else s
  | 5, .done _ _ => (atStep (s.wipePart p) 6).wf 0x0700_0000 9 8 (if s.rf 0x0700_0000 9 8 = 2 then 2 else 1)
  | 6, .done _ _ => atStep (s.wf 0x0700_0000 9 8 2) 7
  | 6, .fail _ => s.wf 0x0700_0000 9 8 3
  | 7, .done _ _ => if s.module.coord.isSome then (atStep s 8).discover p true else s
  | 8, .done _ _ => if (s.fabric p).st == .complete || (s.fabric p).st == .degraded then atStep s 9 else s
  | 9, .done _ _ => (s.setPart p { x with st := .ready, cause := 0 }).recoverDump p
  | _, _ => s

/-- START_STEP_COMPLETE (R422–R424): the step in progress ends, or takes a failure exit. -/
def execStartStepComplete (step : StartStep) (res : StepResult) (s : State) : Out :=
  match step with
  | .module n =>
    if !s.module.starting || s.module.step ≠ n.val then .next s
    else match n.val, res with
      | 0, .done _ _ => .next (s.moduleStep 1)
      | 1, .done _ _ => .next ({ s with module := { s.module with seeded := true } }.moduleStep 2)
      | 1, .fail code => if code = 3 then .next (s.moduleExit 3 1) else .next s
      | 2, .images a b va vb feed => .next (s.readImages a b va vb feed)
      | 2, .fail code => if code = 1 then .next (s.moduleExit 1 2) else .next s
      | 3, .done _ _ => .next (if s.power.extRef || s.power.oscFitted then s.railsUp else s.moduleExit 4 3)
      | 3, .fail code => if code = 4 then .next (s.moduleExit 4 3) else .next s
      | _, _ => .next s
  | .part p n =>
    let x := s.part p
    if x.st ≠ .starting || x.step ≠ n.val || s.module.held then .next s
    else done s (s.partStep p res).showStep

end Sys2Proof.Machine
end

