-- ==== Sys2Proof/Machine/Board.lean ====
section
/-! DEFINITION. The board controller's commands (R426 to R430) and the arming of the test controls (R431). -/

namespace Sys2Proof.Machine

/-- The one response held: a new write discards one not yet read (R427). -/
def State.respondBoard (s : State) (status : Nat) (payload : List Byte) : State := { s with board := { s.board with response := some (status, payload) } }

/-- A command of the board controller: the always-on domain must run, and a CRC-8 that does not match is answered BAD_CRC with nothing done (R426, R427). -/
def State.boardCmd (s : State) (crcOk : Bool) (f : State → State) : State :=
  if !s.module.powered then s else if !crcOk then s.respondBoard 1 [] else f s

/-- ENTDAA (R426): the target receives its dynamic address. -/
def execEntdaa (addr : BitVec 7) (s : State) : Out :=
  .next (if s.module.powered then { s with board := { s.board with dynAddr := some addr } } else s)

/-- The 32 bytes of STATUS (R428). -/
def State.boardStatus (s : State) : List Byte :=
  let b := s.rd rBOOT
  let part (p : Nat) : Nat := if s.partValid p then (s.part p).st.code + 16 * (s.part p).dress else 0xFF
  let fab (p : Nat) : Nat := if s.partValid p then (s.fabric p).st.code else 0xFF
  [fld b 19 16, fld b 31 24, fld b 11 8 + 16 * fld b 15 12, s.rf (rBOOT + 0x18) 7 0].map (fun x => BitVec.ofNat 8 x)
    ++ (upTo 6).map (fun p => BitVec.ofNat 8 (part p)) ++ (upTo 6).map (fun p => BitVec.ofNat 8 (fab p))
    ++ toBytes 2 s.board.alert.toNat ++ toBytes 2 s.ceff ++ toBytes 4 (s.rf (rBOOT + 0x10) 31 0) ++ toBytes 8 s.module.identity.toNat

/-- BC_STATUS (R428). -/
def execBcStatus (crcOk : Bool) (s : State) : Out := .next (s.boardCmd crcOk (fun s => s.respondBoard 0 s.boardStatus))

/-- SET_COORD (R295, R296): a field that no coordinate holds is RANGE; a triple that the fabric refuses is REJECTED. -/
def execSetCoord (crcOk : Bool) (plane group member : Byte) (s : State) : Out :=
  done s (s.boardCmd crcOk (fun s =>
    if 16 ≤ plane.toNat || 64 ≤ group.toNat || 16 ≤ member.toNat then s.respondBoard 5 []
    else if !s.coordOk plane.toNat group.toNat member.toNat then s.respondBoard 4 []
    else (s.acceptCoord plane.toNat group.toNat member.toNat).respondBoard 0 []))

/-- SET_BOARD_LIMIT (R340). -/
def execSetBoardLimit (crcOk : Bool) (watts : BitVec 16) (s : State) : Out :=
  .next (s.boardCmd crcOk (fun s => State.respondBoard { s with power := { s.power with boardLimit := watts.toNat } } 0 []))

/-- The telemetry record as a reader sees it (R344, R345): FLAGS [6] while it is frozen. -/
def State.telemetryFor (s : State) (secure : Bool) : List Byte :=
  let l := if secure then s.power.secTelem else s.power.telemetry
  patch l 0x38 (toBytes 2 (recNum l 0x38 2 ||| (if secure then 0x20 else 0) ||| (if s.telemFrozen then 0x40 else 0)))

/-- BC_TELEMETRY (R405): the record of secure mode whenever any partition is in secure mode. -/
def execBcTelemetry (crcOk : Bool) (s : State) : Out :=
  .next (s.boardCmd crcOk (fun s => s.respondBoard 0 (s.telemetryFor (s.validParts.any s.partSecure))))

/-- BC_DRESS (R406). -/
def execBcDress (crcOk : Bool) (part : Byte) (s : State) : Out :=
  done s (s.boardCmd crcOk (fun s =>
    let p := part.toNat
    if !s.partValid p then s.respondBoard 5 []
    else if !s.dressable p then s.respondBoard 4 []
    else (s.startDress p).respondBoard 0 []))

/-- A byte of the kept summaries: partition p's lies at offset p × 16 KiB. -/
def State.summaryByte (s : State) (o : Nat) : Byte := (s.part (o / 0x4000)).dump.summary.getD (o % 0x4000) 0

/-- READ_SUMMARY (R387, R427). -/
def execReadSummary (crcOk : Bool) (offset : BitVec 32) (length : BitVec 16) (s : State) : Out :=
  .next (s.boardCmd crcOk (fun s =>
    let o := offset.toNat
    let n := length.toNat
    if n = 0 || 256 < n || 6 * 0x4000 < o + n then s.respondBoard 5 []
    else s.respondBoard 0 ((upTo n).map (fun i => s.summaryByte (o + i)))))

/-- ALERT (R429): the bits, then cleared. -/
def execAlertRead (crcOk : Bool) (s : State) : Out :=
  .next (s.boardCmd crcOk (fun s =>
    let s1 := s.respondBoard 0 (toBytes 2 s.board.alert.toNat)
    { s1 with board := { s1.board with alert := 0 } }))

/-- Whether the module has reached READY in at least one partition (R430). -/
def State.reachedReady (s : State) : Bool :=
  !s.module.held && s.validParts.any (fun p => match (s.part p).st with
    | .ready | .failing | .dumping | .dressing => true
    | .failed => (s.part p).cause != evStartFailed
    | _ => false)

/-- RAISE_SVN (R430). -/
def execRaiseSvn (crcOk : Bool) (svn : BitVec 32) (s : State) : Out :=
  .next (s.boardCmd crcOk (fun s =>
    let v := svn.toNat
    if s.reachedReady && decide (s.module.fusedSvn < v) && decide (v ≤ s.module.imageSvn) && decide (v ≤ 63) then
      State.respondBoard { s with module := { s.module with fusedSvn := v } } 0 []
    else s.respondBoard 4 []))

/-- IDENTITY (R399): serial number, variant, SEC.ID. -/
def execIdentityRead (crcOk : Bool) (s : State) : Out :=
  .next (s.boardCmd crcOk (fun s =>
    s.respondBoard 0 (toBytes 8 s.module.serial.toNat ++ [BitVec.ofNat 8 (b2n s.module.guestSite)] ++ toBytes 8 s.module.identity.toNat)))

/-- TEST_ARM (R427, R431): a disarm clears the partition's test registers. -/
def execTestArm (crcOk : Bool) (part arm : Byte) (s : State) : Out :=
  .next (s.boardCmd crcOk (fun s =>
    let p := part.toNat
    if !s.partValid p || 1 < arm.toNat then s.respondBoard 5 []
    else
      let s1 := s.setPart p { s.part p with testArmed := arm.toNat == 1 }
      (if arm.toNat = 1 then s1 else s1.clearTest p).respondBoard 0 []))

/-! ### Test controls (R431–R434) -/

def testBase (p : Nat) : Nat := 0x0C00_0000 + p * 0x1000

/-- TEST_PERMIT of a partition. -/
def State.testPermit (s : State) (p : Nat) : Nat := s.cfgB (cfgPart p + 3) % 16

/-- A TEST write is ignored and sets CMD_REJECT. -/
def State.testReject (s : State) (p : Nat) : State := s.wb (testBase p + 8) 7 true

/-- A region whose CLOCK class changes is judged against its operating point again (R432). -/
def State.testClocked (s : State) (p : Nat) : State := forEach (s.partRegions p) s (fun s r => s.retarget r)

/-- TEST_CTRL_WRITE (R431): TEST_ENABLED for each class whose ENABLE rises. -/
def State.writeTestCtrl (s : State) (p : Nat) (v : Word64) : State :=
  let en := fld v 3 0
  if en ≠ 0 && (en &&& s.testPermit p != en || s.partSecure p || !(s.part p).testArmed) then s.testReject p
  else
    let old := s.rf (testBase p) 3 0
    let rises := (upTo 4).filter (fun c => bit v c && nbits old c c == 0)
    (forEach rises (s.wf (testBase p) 3 0 en) (fun s c => s.raise (partEvent p evTestEnabled c 0 0))).testClocked p

def execTestCtrlWrite (p : PartId) (v : Word64) (s : State) : Out := powered s <| done s (s.writeTestCtrl p v)

/-- Whether INDEX names a unit of the partition for a target of DELAY (R432, R434). -/
def State.delayIndexOk (s : State) (p target i : Nat) : Bool :=
  match target with
  | 0 => decide (i < 96) && s.linkPart i == p
  | 1 => decide (i < 55) && s.leatExists i && (if i < 48 then s.bedPart (i / 8) == p else if i < 54 then s.bedPart (i - 48) == p else s.guestPart == some p)
  | 2 => decide (i < 24) && s.stackPart i == p
  | 3 => decide (i < 12) && s.regionPart i == p
  | 4 => true
  | _ => false

/-- The same for a target of BP. -/
def State.bpIndexOk (s : State) (p target i : Nat) : Bool :=
  match target with
  | 0 => decide (i < 144) && s.blockPart i == p
  | 1 => decide (i < 576) && s.cellPart i == p
  | 2 => decide (i < 576) && s.cellPart i == p
  | 3 => decide (i < 24) && s.stackPart i == p
  | 4 => decide (i < 96) && s.linkPart i == p
  | _ => false

/-- Whether a write of SEED, DELAY, BP, CLOCK or JITTER is in range (R432, R434). -/
def State.testWriteOk (s : State) (p reg : Nat) (v : Word64) : Bool :=
  let i := fld v 59 48
  let region := decide (i < 12) && s.regionPart i == p
  match reg with
  | 0x18 => s.delayIndexOk p (fld v 63 60) i && decide (fld v 47 24 ≤ 100000) && decide (fld v 23 0 ≤ fld v 47 24)
  | 0x20 => s.bpIndexOk p (fld v 63 60) i && decide (2 ≤ fld v 31 16) && decide (fld v 15 0 < fld v 31 16)
  | 0x28 => region && decide (fld v 35 32 ≤ 4) && (fld v 31 16 == 0 || (decide (1 ≤ fld v 15 0) && decide (fld v 15 0 ≤ 4096)))
  | 0x30 => region
  | _ => true

end Sys2Proof.Machine
end

