-- ==== Sys2Proof/Machine/RegView.lean ====
section
/-! DEFINITION. What a read of a register of space 5 returns (R5, R31): the stored fields, and the fields that show the machine's state, as each chapter's field tables
give them. -/

namespace Sys2Proof.Machine

def maskW (bs : List Bool) : Nat := bs.foldr (fun b n => b2n b + 2 * n) 0

/-! ### Cells (R81, R130, R154, R215) -/

/-- CELL.Q_LEVEL. -/
def Cell.qLevel (x : Cell) : Nat :=
  x.qArray.length + x.qVector.length * 2 ^ 8 + x.qSluice.length * 2 ^ 16 + x.qSync.length * 2 ^ 24

/-- CELL.STATUS.BUSY: core, array, vector, sluice, sync. -/
def State.busyMap (s : State) (c : Nat) : Nat :=
  let x := s.cell c
  maskW [x.coreBusy, x.arrayBusy, x.vectorBusy, s.sluiceBusy c, x.syncBusy]

/-- ARR.STATUS, but for CFG_REJECT. -/
def Cell.arrStatus (x : Cell) : Nat :=
  let running (f : Nat → Bool) : Bool := x.xArray.any (fun y => !y.finished && f (wcode y.cmd.word))
  let waits (w : ArrWait) : Bool := x.xArray.any (fun y => !y.finished && wcode y.cmd.word == cMRED && y.wait == w)
  (min 2 x.rxTiles.length) * 2 ^ 4 + b2n (waits .tile) * 2 ^ 8 + b2n (waits .credit || waits .accept || !x.orphans.isEmpty) * 2 ^ 9
    + b2n (running (fun k => k == cDRAIN || k == cASCALE)
        || x.xArray.any (fun y => y.started && !y.finished && wcode y.cmd.word == cMRED && y.wait == .none)) * 2 ^ 10
    + b2n (running (fun k => k == cMMA || k == cTDLD || k == cAFILL)) * 2 ^ 11
    + maskW ((upTo 4).map (fun n => x.xArray.any (fun y => !y.setFree && wcode y.cmd.word != cTDLD && fld y.cmd.word 111 110 == n))) * 2 ^ 12

/-- The hopper word that HOPPER_INDEX names. -/
def State.hopperWord (s : State) (c : Nat) : Word128 := ((s.cell c).hopper.get {} (s.rf (cellBase c + rHINDEX) 11 0)).bits

/-- A register of a cell window. -/
def State.cellView (s : State) (c o : Nat) : Nat :=
  let x := s.cell c
  let v := (s.rd (cellBase c + o)).toNat
  match o with
  | 0x000 => b2n (x.st == .freezing || x.st == .frozen) * 4
  | 0x008 => v + x.st.code + s.busyMap c * 2 ^ 8 + b2n (!x.fetches.isEmpty) * 2 ^ 16 + b2n x.frozenCtrs * 2 ^ 18
  | 0x090 => x.qLevel
  | 0x208 => fld (s.hopperWord c) 63 0
  | 0x210 => fld (s.hopperWord c) 127 64
  | 0x800 => v + x.arrStatus
  | 0xC00 => b2n (!x.xVector.isEmpty) + b2n (s.vecHeld c) * 2 + b2n (x.xVector.any (fun y => y.finished && delivReg y.cmd.word != 0)) * 4
  | 0xC20 => maskW ((upTo 8).map (fun n => (x.slot n).valid))
  | 0xC30 => (s.mdata c).toNat
  | 0xE08 => b2n (x.xSync.any (fun y => y.listed && wcode y.cmd.word == cWAIT)) + b2n (x.xSync.any (fun y => y.ph == .shutWait)) * 2
      + (x.xSync.filter (fun y => y.ph == .ackWait)).length * 2 ^ 4
  | _ => v

/-! ### Blocks (R188, R215) -/

/-- CHn_STATUS, but for HALTED, KILLED and REARM_REJECT. -/
def State.chanStatus (s : State) (b ch : Nat) : Nat :=
  let x := s.chan b ch
  b2n (x.slots.any Desc.persist) * 2 ^ 10 + b2n x.armed.isSome * 2 ^ 11 + x.segments * 2 ^ 12 + x.slots.length * 2 ^ 18 + s.waitCause b ch * 2 ^ 21

/-- Ready bits of a block's cells on 16 lines from line `n` on, laid out as MASK_LO (R215). -/
def State.readyBits (s : State) (b n : Nat) : Nat :=
  maskW ((upTo 64).map (fun i => (s.line (s.blockPart b) (n + i / 4)).waiting.contains (4 * b + i % 4)))

/-- A register of a block window's lower half. -/
def State.blockView (s : State) (b o : Nat) : Nat :=
  let v := (s.rd (blockBase b + o)).toNat
  if 0x1000 ≤ o && o < 0x2000 then
    if o % 0x100 = 8 then v + s.chanStatus b ((o - 0x1000) / 0x100) else v
  else if 0x2000 ≤ o && o < 0x2100 then
    let h := (s.cell (4 * b + (o - 0x2000) / 0x40)).headrace
    if o % 0x40 = 8 then v + b2n h.isOpen * 2 + h.level * 2 ^ 32 else v
  else match o with
  | 0x10 => s.cfgN 0x018 3
  | 0x18 => maskW ((upTo 16).map (fun ch => s.chHalted b ch)) + maskW ((upTo 16).map (fun ch => (s.chan b ch).stalled)) * 2 ^ 16
  | 0x20 => s.bufLevel b
  | 0x3210 => s.readyBits b 0
  | 0x3218 => s.readyBits b 16
  | _ => v

/-! ### Leat ports (R293) -/

/-- A register of a leat port. -/
def State.leatView (s : State) (port o : Nat) : Nat :=
  let v := (s.rd (leatBase port + o)).toNat
  if port < 48 && port % 8 = 7 then 0
  else if o = 0 then v + (if s.leatExists port then (s.leat port).st.code else LeatState.unused.code) else v

/-! ### Regions (R252, R293, R367, R389) -/

/-- MEM.CFG of a stack. -/
def State.memCfg (s : State) (k : Nat) : Nat :=
  let p := s.stackPart k
  (s.rd (memBase k)).toNat + k + (s.partStacks p).length * 2 ^ 16 + b2n (s.partInteg p) * 2 ^ 21 + s.cfgB 0x014 % 4 * 2 ^ 24

/-- A register of a flume link. -/
def State.flView (s : State) (f o : Nat) : Nat :=
  let v := (s.rd (flRegs f + o)).toNat
  let x := s.link f
  match o with
  | 0x00 => v + x.st.code
  | 0x58 => match x.viols[s.rf (flRegs f + 0x50) 3 0]? with
    | some (t, k, vc, code) => code + vc * 2 ^ 8 + k * 2 ^ 16 + t * 2 ^ 32
    | none => 0
  | 0x60 => x.epochRx % 2 ^ 32 + x.epochTx % 2 ^ 32 * 2 ^ 32
  | _ => v

/-- GOV.STATUS. -/
def State.govStatus (s : State) (r : Nat) : Nat :=
  let x := s.region r
  b2n (x.step != .none) + b2n x.resting * 2 + x.tag.getD 0 * 2 ^ 8 + b2n x.tag.isSome * 2 ^ 15 + x.prevA % 256 * 2 ^ 16 + x.floor % 256 * 2 ^ 24
    + x.ceiling % 256 * 2 ^ 32 + x.m % 256 * 2 ^ 40 + x.thermal * 2 ^ 48 + x.target * 2 ^ 52 + x.op * 2 ^ 56

/-- GOV.SLEEP_STATUS: cells of the region that are clocked, clock-gated and power-gated. -/
def State.sleepStatus (s : State) (r : Nat) : Nat :=
  let n (k : Sleep) : Nat := ((upTo 48).filter (fun i => (s.cell (48 * r + i)).sleep == k)).length
  n .powerGated * 2 ^ 8 + n .clockGated * 2 ^ 16 + n .awake * 2 ^ 24

/-- A clock move waits: the change's next step moves the clock while droop is active (R360). -/
def RegionPower.movePending (x : RegionPower) : Bool := match x.step with
  | .move _ => true
  | _ => false

/-- A register of a region window. -/
def State.regionView (s : State) (r o : Nat) : Nat :=
  let v := (s.rd (regionBase r + o)).toNat
  let x := s.region r
  if 0x20_0000 ≤ o && o < 0x20_8000 then s.flView (8 * r + (o - 0x20_0000) / 0x1000) (o % 0x1000)
  else match o with
  | 0x10_0000 => s.memCfg (2 * r)
  | 0x11_0000 => s.memCfg (2 * r + 1)
  | 0x30_0000 => s.cfgB 0x017
  | 0x30_0008 => s.govStatus r
  | 0x30_0030 => s.sleepStatus r
  | 0x30_0040 => s.cfgB 0x01B + s.cfgB 0x01C * 2 ^ 16
  | 0x30_0048 => v + b2n x.droop + b2n x.movePending * 2
  | 0x30_0080 => s.cfgB 0x01D + 105 * 2 ^ 8 + s.cfgB 0x01E * 2 ^ 16
  | 0x30_0088 => v + b2n (x.thermal != 0) + b2n (s.power.hotStacks.any (fun k => stackRegion k == r)) * 2
  | _ => v

/-! ### The hurst window -/

/-- Partitions that map the far tier (R248, R252). -/
def State.farUsers (s : State) : List Nat := s.validParts.filter (fun p => s.farSize p != 0)

/-- FAR registers as partition `p` sees them (R252). -/
def State.farView (s : State) (p o : Nat) : Nat :=
  let v := (s.rd (0x0400_0000 + o)).toNat
  let hide := s.partSecure p && decide (1 < s.farUsers.length)
  match o with
  | 0x00 => nbits (s.cfgB 0x016) 0 0 + s.cfgB (cfgPart p + 6) % 128 * 2 ^ 9 + s.cfgB (cfgPart p + 7) * 2 ^ 16
  | 0x08 => s.farAvail p
  | _ => if hide && (o % 0x1_0000 == 0x30 || o % 0x1_0000 == 0x38) then 0 else v

/-- WEIR registers (R293). -/
def State.weirView (s : State) (o : Nat) : Nat :=
  let v := (s.rd (weirBase + o)).toNat
  let cause := if s.module.guestSite then 0 else 4 * 2 ^ 8
  if 0x40 ≤ o && o < 0x140 then
    (if o % 16 = 0 then s.winBase ((o - 0x40) / 16) else s.winCfg ((o - 0x40) / 16) &&& 0x8000_0000_0000_3F07)
  else match o with
  | 0x08 => v % 2 ^ 8 + (if s.module.guestSite then fld (BitVec.ofNat 64 v) 15 8 * 2 ^ 8 else cause) + b2n s.weir.killed + b2n s.weir.held * 2
      + s.weir.outstanding % 2 ^ 16 * 2 ^ 32
  | 0x18 => s.weirLimits &&& 0xFFFF_FFFF_0000_1FFF
  | _ => v

/-- FAB.PEERm (R310). -/
def State.peerView (s : State) (p m : Nat) : Nat :=
  let planned := (s.plannedMembers p).contains m
  let r := s.route p m
  let n := (s.directLinks p m).length
  let relays := s.relaysFor p m
  let st := if !planned then 0 else match r.st with
    | .none => if n = 0 then 0 else 1
    | .direct => 1
    | .probing => 2
    | .relay => 3
    | .unreachable => 4
  if st = 0 then 0
  else st + min n 4 * 2 ^ 8 + (if st = 3 then relays.length * 2 ^ 12 + (relays.zip (upTo 4)).foldl (fun a e => a + e.1 % 16 * 2 ^ (16 + 4 * e.2)) 0 else 0)

/-- Links of a partition with an outcome. -/
def State.outcomeCount (s : State) (p : Nat) (o : LinkOutcome) : Nat := ((s.partLinks p).filter (fun f => s.outcome f == o)).length

/-- FAB registers of a partition (R310). -/
def State.fabView (s : State) (p o : Nat) : Nat :=
  let v := (s.rd (fabBase p + o)).toNat
  let x := s.fabric p
  if 0x1000 ≤ o && o < 0x1600 then
    let f := (o - 0x1000) / 16
    if s.linkPart f ≠ p then 0
    else if o % 16 = 8 then (s.outcome f).code
    else if linkLevel f = 1 then (if x.st == .noCoord then 0 else (s.planWord1 f).toNat) else v
  else if 0x2000 ≤ o && o < 0x2080 then s.peerView p ((o - 0x2000) / 8)
  else match o with
  | 0x00 => if x.st == .noCoord then 0 else 2 ^ 63 + s.coordOf p
  | 0x08 => x.st.code + (if x.st == .noCoord then 0 else s.presentCount p) * 2 ^ 16 + s.outcomeCount p .miswired * 2 ^ 32
      + s.outcomeCount p .unexpected * 2 ^ 40 + x.missing % 2 ^ 16 * 2 ^ 48
  | 0x10 => s.groupSize % 32 + s.minPeers % 16 * 2 ^ 16 + s.minLinks % 8 * 2 ^ 20 + s.discWindow * 2 ^ 24 + b2n s.degradeOk * 2 ^ 32
  | _ => v

/-- HOST.JOURNAL_NEXT (R321). -/
def State.journalNext (s : State) (p : Nat) : Nat := match (s.endpoint p).journal.getLast? with
  | some e => e.1 + 1
  | none => 0

def AddrState.code : AddrState → Nat
  | .none => 0 | .tentative => 1 | .preferred => 2 | .duplicate => 3

/-- Registers of the common port view (R334): in secure mode its counters read 0 when more than one partition exists. -/
def State.portView (s : State) (p o : Nat) : Nat :=
  let v := (s.rd (0x0700_0000 + o)).toNat
  if o = 0 then v + (if s.module.hostUp then 2 else 0)
  else if s.partSecure p && decide (1 < s.validParts.length) then 0 else v

/-- Registers of an endpoint (R312, R334). -/
def State.epView (s : State) (p o : Nat) : Nat :=
  let v := (s.rd (epBase p + o)).toNat
  let e := s.endpoint p
  match o with
  | 0x00 => e.addr.code + b2n ((s.part p).st == .dressing) * 2 ^ 3 + b2n (s.partConfidential p) * 2 ^ 4
      + (e.qps.filter (fun q => q.2.st == .rts)).length * 2 ^ 8 + ((upTo 8).filter (fun i => (s.session p i).isSome)).length * 2 ^ 16
  | 0x08 =>
    let t := s.cfgN (cfgPart p + 0x1A) 2
    nbits t 12 0 + nbits t 15 13 * 2 ^ 16 + s.cfgB (cfgPart p + 0x1C) * 2 ^ 24 + s.cfgN (cfgPart p + 0x18) 2 * 2 ^ 32
  | 0x10 => s.epMac p
  | 0x18 => s.cfgN (cfgPart p + 0x08) 8
  | 0x20 => s.cfgN (cfgPart p + 0x10) 8
  | 0x28 => s.journalNext p
  | 0x30 => s.eventNext p
  | _ => v

/-- The telemetry record as partition `p` reads it (R344, R345): in secure mode REGION and OPS entries of other partitions read 0. -/
def State.telemetryOf (s : State) (p : Nat) : List Byte :=
  let l := s.telemetryFor (s.partSecure p)
  if !s.partSecure p then l
  else
    let mine (r : Nat) : Bool := s.regionPart r == p
    let ops := recNum l 0x3A 6
    patch (patch l 0x10 ((upTo 12).map (fun r => toBytes 2 (if mine r then recNum l (0x10 + 2 * r) 2 else 0))).flatten) 0x3A
      (toBytes 6 ((upTo 12).foldl (fun a r => if mine r then a + nbits ops (4 * r + 3) (4 * r) * 2 ^ (4 * r) else a) 0))

/-- PWR_GOOD (R336). -/
def State.pwrGood (s : State) : Bool :=
  s.power.inputOk && !(s.power.railFault.contains 0) && !(s.power.railFault.contains 1) && !(s.power.railsOff.contains 1)

/-- PWR and CLK as partition `p` sees them (R345, R367). -/
def State.pwrView (s : State) (p o : Nat) : Nat :=
  let v := (s.rd (0x0800_0000 + o)).toNat
  let w := s.power
  if 0x40 ≤ o && o < 0x70 then (if s.partValid ((o - 0x40) / 8) then s.cp ((o - 0x40) / 8) else 0)
  else if 0x80 ≤ o && o < 0xC0 then recNum (s.telemetryOf p) (o - 0x80) 8
  else match o with
  | 0x00 => maskW [s.pwrGood, w.inputOk, (upTo 12).any (fun r => (s.region r).thermal != 0), (upTo 12).any s.capLimited,
      w.boardLimit != 0 && decide (w.boardLimit < s.imageCap), s.partSecure p, s.telemFrozen]
  | 0x08 => s.imageCap + w.boardLimit % 2 ^ 16 * 2 ^ 16 + s.ceff % 2 ^ 16 * 2 ^ 32
  | 0x10 => w.corr % 2 ^ 16
  | 0x30 => s.cfgN 0x022 2
  | 0xC0 => b2n (w.source != 0 && !(upTo 12).any (fun r => (s.region r).clockLost)) + b2n w.extRef * 2 + b2n w.holdover * 4 + b2n w.oscFitted * 8 + w.source * 16
  | _ => v

/-- FAN registers of a partition (R367). -/
def State.fanView (s : State) (p o : Nat) : Nat :=
  let v := (s.rd (fanBase p + o)).toNat
  if 0x40 ≤ o && o < 0xA0 then
    let r := (o - 0x40) / 8
    let x := s.region r
    if s.regionPart r ≠ p then 0
    else x.alloc % 2 ^ 16 + x.chosen * 2 ^ 23 + x.tag.getD 0 * 2 ^ 26 + b2n x.tag.isSome * 2 ^ 32 + b2n x.resting * 2 ^ 33
  else if o = 0x10 then v % 2 ^ 16 + s.cp p % 2 ^ 16 * 2 ^ 16
  else v

/-- RAS.RETIREn (R378, R389). -/
def State.retireView (s : State) (n : Nat) : Nat := match s.module.retired[n]? with
  | some (r, b, cause, start) => 0xA5 * 2 ^ 56 + r * 2 ^ 48 + b * 2 ^ 40 + cause * 2 ^ 32 + start % 2 ^ 32
  | none => 0

/-- STEP_TAG of the generation in the current slot; 0 while it holds none (R382, R389). -/
def State.heldStep (s : State) (p : Nat) : Nat :=
  let x := (s.part p).pond
  if x.curValid then ofBytes (s.readB (memKey0 p (s.pondBase p + x.cur * s.slotSize p + 8)) 8) else 0

/-- POND.STATUS.STATE (R389). -/
def Pond.code (x : Pond) : Nat := match x.st with
  | .copying => 1
  | .returning => 2
  | _ => if x.accepting then 3 else 0

/-- RAS, TOLL, POND and DUMP registers of a partition (R389). -/
def State.rasView (s : State) (p o : Nat) : Nat :=
  let v := (s.rd (rasBase p + o)).toNat
  let x := s.part p
  if 0x100 ≤ o && o < 0x1C0 then s.retireView ((o - 0x100) / 8)
  else if 0x1080 ≤ o && o < 0x10B0 then fld x.toll.digest (8 * (o - 0x1080) + 63) (8 * (o - 0x1080))
  else if 0x4000 ≤ o && o < 0x8000 then ofBytes ((upTo 8).map (fun i => s.summaryByte (p * 0x4000 + (o - 0x4000) + i)))
  else match o with
  | 0x00 => x.st.code + s.lostMap p * 2 ^ 16 + x.cause * 2 ^ 32
  | 0x2050 => v / 8 * 8 + x.pond.code
  | 0x2078 => x.pond.cur + b2n x.pond.curValid * 2 + b2n x.pond.draining * 4 + s.slotSize p / 2 ^ 20 * 2 ^ 32
  | 0x2080 => s.heldStep p
  | _ => v

/-- SEC registers (R412): the common view, and a partition's block. -/
def State.secView (s : State) (o : Nat) : Nat :=
  let m := s.module
  match o with
  | 0x00 => m.identity.toNat
  | 0x08 => b2n m.guestSite
  | 0x10 => m.fusedSvn % 2 ^ 32 + m.imageSvn % 2 ^ 32 * 2 ^ 32
  | 0x18 => b2n m.seeded + b2n (!m.trngFault) * 2 + b2n m.trngFault * 4 + m.trngFails % 2 ^ 16 * 2 ^ 16
  | 0x20 => s.cfgN 0x010 4 % 2 ^ 18
  | _ => 0

def State.secPart (s : State) (p o : Nat) : Nat :=
  let v := (s.rd (secBase p + o)).toNat
  let x := s.part p
  match o with
  | 0x08 => v + b2n x.keys * 2 ^ 3 + b2n (s.partSecure p) * 2 ^ 4 + b2n (s.partConfidential p) * 2 ^ 5 + b2n (s.guestPart == some p) * 2 ^ 6 + x.dress * 2 ^ 32
  | 0x10 => maskW ((upTo 6).map (fun b => s.bedPart b == p)) + maskW ((upTo 12).map (fun r => s.regionPart r == p)) * 2 ^ 12
      + s.cfgB (cfgPart p + 1) % 128 * 2 ^ 24 + s.pscBase p / 256 % 16 * 2 ^ 40 + s.cfgB (cfgPart p + 2) % 16 * 2 ^ 44
  | _ => v

/-- TEST registers of a partition (R434). -/
def State.testView (s : State) (p o : Nat) : Nat :=
  let v := (s.rd (testBase p + o)).toNat
  if o = 8 then v / 2 ^ 7 * 2 ^ 7 + s.rf (testBase p) 3 0 + s.testPermit p * 2 ^ 8 + b2n (s.part p).testArmed * 2 ^ 12 else v

/-- A register of the hurst window as partition `p` sees it. -/
def State.hurstView (s : State) (p o : Nat) : Nat :=
  let v := (s.rd o).toNat
  if 0x0200_0000 ≤ o && o < 0x0202_0000 then
    let w := (s.rd (bank p o)).toNat
    if 0x0201_0000 ≤ o && o < 0x0201_0200 && o % 16 = 8 then w + (s.line p ((o - 0x0201_0000) / 16)).waiting.length * 2 ^ 12 else w
  else if 0x0300_0000 ≤ o && o < 0x0300_7000 then s.leatView (48 + (o - 0x0300_0000) / 0x1000) (o % 0x1000)
  else if 0x0400_0000 ≤ o && o < 0x0403_0000 then s.farView p (o - 0x0400_0000)
  else if 0x0500_0000 ≤ o && o < 0x0500_1000 then s.weirView (o - 0x0500_0000)
  else if 0x0600_0000 ≤ o && o < 0x0660_0000 then s.fabView p (o % 0x10_0000)
  else if 0x0700_0000 ≤ o && o < 0x0701_0000 then s.portView p (o - 0x0700_0000)
  else if 0x0710_0000 ≤ o && o < 0x0716_0000 then s.epView p (o % 0x1_0000)
  else if 0x0800_0000 ≤ o && o < 0x0801_0000 then s.pwrView p (o - 0x0800_0000)
  else if 0x0801_0000 ≤ o && o < 0x0801_6000 then s.fanView p (o % 0x1000)
  else if 0x0900_0000 ≤ o && o < 0x0906_0000 then s.rasView p (o % 0x1_0000)
  else if 0x0A00_0000 ≤ o && o < 0x0A01_0000 then s.secView (o - 0x0A00_0000)
  else if 0x0A01_0000 ≤ o && o < 0x0A01_6000 then s.secPart p (o % 0x1000)
  else if 0x0C00_0000 ≤ o && o < 0x0C00_6000 then s.testView p (o % 0x1000)
  else v

/-! ### The whole space -/

/-- What an offset of space 5 leads to (R31). -/
inductive RegAt where
  | cell (c o : Nat)
  | block (b o : Nat)
  | region (r o : Nat)
  | bed (b o : Nat)
  | hurst (o : Nat)
  | nowhere
deriving DecidableEq, Repr

def regAt (off : Nat) : RegAt :=
  if off < 0x1000_0000 then .hurst off
  else if off < 0x1600_0000 then .bed ((off - 0x1000_0000) / 0x0100_0000) ((off - 0x1000_0000) % 0x0100_0000)
  else if off < 0x2000_0000 || 0x2C00_0000 ≤ off then .nowhere
  else
    let r := (off - 0x2000_0000) / 0x0100_0000
    let rel := (off - 0x2000_0000) % 0x0100_0000
    if rel < 0x80_0000 then .region r rel
    else
      let k := (rel - 0x80_0000) / 0x4_0000
      let q := (rel - 0x80_0000) % 0x4_0000
      if 12 ≤ k then .nowhere
      else if q < 0x2_0000 then .block (12 * r + k) q
      else .cell (4 * (12 * r + k) + (q - 0x2_0000) / 0x8000) ((q - 0x2_0000) % 0x8000)

/-- Whether an offset of the hurst window lies in a unit that partition `p` reaches (R32, R310, R392): a unit runs to the next unit's base. -/
def State.hurstReach (s : State) (p o : Nat) : Bool :=
  let own (lo size : Nat) : Bool := decide (lo + p * size ≤ o) && decide (o < lo + p * size + size)
  let all (lo hi : Nat) : Bool := decide (lo ≤ o) && decide (o < hi)
  all 0x0200_0000 0x0202_0000
    || (all 0x0300_0000 0x0300_6000 && s.bedPart ((o - 0x0300_0000) / 0x1000) == p)
    || ((all 0x0300_6000 0x0300_7000 || all 0x0500_0000 0x0500_1000) && s.guestPart == some p)
    || all 0x0400_0000 0x0403_0000
    || (own 0x0600_0000 0x10_0000 && !(decide (0x1000 ≤ o % 0x10_0000) && decide (o % 0x10_0000 < 0x1600) && s.linkPart ((o % 0x10_0000 - 0x1000) / 16) != p))
    || all 0x0700_0000 0x0701_0000 || own 0x0710_0000 0x1_0000
    || all 0x0800_0000 0x0801_0000 || own 0x0801_0000 0x1000
    || own 0x0900_0000 0x1_0000
    || all 0x0A00_0000 0x0A01_0000 || own 0x0A01_0000 0x1000
    || all 0x0B00_0000 0x0B01_0000 || own 0x0C00_0000 0x1000

/-- Whether partition `p` reaches an offset of space 5 (R32). -/
def State.regReach (s : State) (p off : Nat) : Bool :=
  match regAt off with
  | .cell c _ => s.cellPart c == p
  | .block b _ => s.blockPart b == p
  | .region r _ => s.regionPart r == p
  | .bed b _ => s.bedPart b == p
  | .hurst o => s.hurstReach p o
  | .nowhere => false

/-- In secure mode SYNC.LAST_SEQ of a signal from the host reads 0 (R215). -/
def State.hidesSeq (s : State) (p off : Nat) : Bool :=
  let key (b : Nat) : Bool := s.partSecure p && s.rf b 62 61 == 3
  match regAt off with
  | .hurst 0x0200_0048 => key (bank p 0x0200_0040)
  | .bed _ 0x40_0048 => key (off - 8)
  | .block _ 0x3048 => key (off - 8)
  | _ => false

/-- What a read of a register shows partition `p`, but for the counters of cycles and of the wires. -/
def State.regView (s : State) (p off : Nat) : Nat :=
  match regAt off with
  | .cell c o => s.cellView c o
  | .block b o => s.blockView b o
  | .region r o => s.regionView r o
  | .bed b o => if 0x20_0000 ≤ o && o < 0x20_8000 then s.leatView (8 * b + (o - 0x20_0000) / 0x1000) (o % 0x1000) else (s.rd off).toNat
  | .hurst o => s.hurstView p o
  | .nowhere => 0

/-- The bits of a counter that counts what no command carries, cycles or the work of the wires; they read as free values (log 2), and so does whether a port whose module is ready, and that is
not UP, is DOWN or TRAINING, for a signal from the far end comes with no command (R313, R334). -/
def State.freeBits (s : State) (p off : Nat) : Nat :=
  match regAt off with
  | .cell c o => if cycleRegs.contains o && !(s.cell c).frozenCtrs then 2 ^ 64 - 1 else 0
  | .hurst o =>
    if o = 0x0700_0000 && !s.module.hostUp && s.rf 0x0700_0000 9 8 == 2 then 1
    else if (o = 0x0700_0008 || o = 0x0700_0010) && !(s.partSecure p && decide (1 < s.validParts.length)) then 2 ^ 64 - 1
    else 0
  | _ => 0

/-- The value that a read of a register returns (R5). -/
def State.regValue (s : State) (p off : Nat) : Word64 × State :=
  let v := if s.hidesSeq p off then 0 else BitVec.ofNat 64 (s.regView p off)
  let m := s.freeBits p off
  if m = 0 then (v, s)
  else
    let (w, s1) := s.fresh
    (v ||| (w &&& BitVec.ofNat 64 m), s1)

end Sys2Proof.Machine
end

