-- ==== Sys2Proof/Machine/RegAccess.lean ====
section
/-! DEFINITION. Reads and writes of the registers of space 5 as accesses (R5, R7, R31, R32, R293, R389): what a read does to the register, and which meaning a write has. -/

namespace Sys2Proof.Machine

/-- The next state that a meaning answers. -/
def runOut (o : Out) (s : State) : State := match o with
  | .next t => t
  | _ => s

/-- Where a register is stored: the hurst's per-partition copies are banked (R215). -/
def regKey (p off : Nat) : Nat := if 0x0200_0000 ≤ off && off < 0x0202_0000 then bank p off else off

/-! ### Reads (R5, R81, R154) -/

/-- Whether the kill form of a cell has frozen a register (R374). -/
def State.regFrozen (s : State) (off : Nat) : Bool :=
  match regAt off with
  | .cell c _ => (s.cell c).frozenCtrs && (frozenRegs c).contains off
  | .block b o =>
    let c := if 0x2000 ≤ o then 4 * b + (o - 0x2000) / 0x40 else chanCell b ((o - 0x1000) / 0x100)
    decide (0x1000 ≤ o) && decide (o < 0x2100) && (s.cell c).frozenCtrs && (frozenRegs c).contains off
  | _ => false

/-- The level at which a high-water register restarts when it is read; none for every other register (R5). -/
def State.restartLevel (s : State) (off : Nat) : Option Nat :=
  match regAt off with
  | .cell c o => if o = 0x98 then some (s.cell c).qLevel else none
  | .block b o =>
    if o = 0x28 then some (s.bufLevel b)
    else if 0x1000 ≤ o && o < 0x2000 && o % 0x100 = 0x58 then
      let x := s.chan b ((o - 0x1000) / 0x100)
      some (x.slots.length + x.segments * 2 ^ 8)
    else if 0x2000 ≤ o && o < 0x2100 && o % 0x40 = 0x10 then some (s.cell (4 * b + (o - 0x2000) / 0x40)).headrace.level
    else none
  | _ => none

/-- What a read does to the register: RC fields clear, high-water fields restart, frozen ones stay; HOPPER_DATA_HI and VEC.MDATA advance. -/
def State.readEffect (s : State) (p off : Nat) : State :=
  match regAt off with
  | .cell c 0x210 => s.bump (cellBase c + rHINDEX) 11 0 1
  | .cell c 0xC30 => s.mselNext c
  | _ =>
    match regRow off with
    | none => s
    | some r =>
      if r.rc = 0 || s.regFrozen off then s
      else match s.restartLevel off with
        | some n => s.wr (regKey p off) (BitVec.ofNat 64 n)
        | none => s.wr (regKey p off) (afterRead r (s.rd (regKey p off)))

/-- A read of a register by partition `p`. -/
def State.regRead (s : State) (p off : Nat) : Word64 × State :=
  let (v, s1) := s.regValue p off
  (v, s1.readEffect p off)

/-! ### Writes -/

def toCell (c : Nat) : CellId := ⟨c % 576, Nat.mod_lt _ (by decide)⟩
def toBlock (b : Nat) : BlockId := ⟨b % 144, Nat.mod_lt _ (by decide)⟩
def toChan (n : Nat) : ChanId := ⟨n % 16, Nat.mod_lt _ (by decide)⟩
def toPart (p : Nat) : PartId := ⟨p % 6, Nat.mod_lt _ (by decide)⟩
def toBed (b : Nat) : BedId := ⟨b % 6, Nat.mod_lt _ (by decide)⟩
def toLink (f : Nat) : LinkId := ⟨f % 96, Nat.mod_lt _ (by decide)⟩
def toLeat (p : Nat) : LeatId := ⟨p % 55, Nat.mod_lt _ (by decide)⟩
def toRegion (r : Nat) : RegionId := ⟨r % 12, Nat.mod_lt _ (by decide)⟩
def toLine (n : Nat) : Fin 32 := ⟨n % 32, Nat.mod_lt _ (by decide)⟩

/-- The write of a register with no behaviour of its own (R5, R7). -/
def State.plainReg (s : State) (p off : Nat) (v : Word64) : State :=
  match regRow off with
  | some r => s.wr (regKey p off) (plainWrite r (s.rd (regKey p off)) v)
  | none => s

/-- The bits of a command register that are written 1, each judged in ascending order. -/
def State.eachBit (s : State) (v : Word64) (fs : List (State → Out)) : State :=
  (fs.zip (upTo fs.length)).foldl (fun s f => if bit v f.2 then runOut (f.1 s) s else s) s

/-- CELL.CTRL (R76, R77, R80): the highest command bit in the order KILL, DRAIN, RESUME, DISARM, ARM, CLEAR acts and the others are rejected; without one, FREEZE. -/
def State.writeCtrl (s : State) (c : Nat) (v : Word64) : State :=
  let i := toCell c
  let cmds : List (Nat × (CellId → State → Out)) :=
    [(4, execCellKill), (3, execCellDrain), (6, execCellResume), (1, execCellDisarm), (0, execCellArm), (5, execCellClear)]
  match cmds.filter (fun x => bit v x.1) with
  | [] =>
    let frozen := (s.cell c).st == .freezing || (s.cell c).st == .frozen
    if bit v 2 == frozen then s
    else if bit v 2 then runOut (execFreezeSet i s) s
    else runOut (execFreezeClear i s) s
  | x :: rest =>
    let s1 := runOut (x.2 i s) s
    if rest.isEmpty then s1 else s1.cmdReject c

/-- A register of a cell window. -/
def State.writeCell (s : State) (p c o : Nat) (v : Word64) : State :=
  let i := toCell c
  if 0x100 ≤ o && o < 0x200 then runOut (execSregWrite i (toLine ((o - 0x100) / 8)) v s) s
  else match o with
  | 0x000 => s.writeCtrl c v
  | 0x010 => runOut (execCellJobWrite i v s) s
  | 0x208 => runOut (execHopperDataLoWrite i v s) s
  | 0x210 => runOut (execHopperDataHiWrite i v s) s
  | 0x418 => if bit v 63 then runOut (execNanRecClear i s) s else s
  | 0x840 => runOut (execSrSeedWrite i v s) s
  | 0x880 => runOut (execMrLinkWrite i false v s) s
  | 0x888 => runOut (execMrLinkWrite i true v s) s
  | 0xC30 => runOut (execMdataWrite i v s) s
  | _ => s.plainReg p (cellBase c + o) v

/-- A register of a counter port at offset `o` of its unit (R196, R210, R215). -/
def State.writePort (s : State) (p : Nat) (u : SyncUnit) (o off : Nat) (v : Word64) : State :=
  match o with
  | 0x00 => runOut (execSyncSelWrite (toPart p) u v s) s
  | 0x08 =>
    if fld v 2 0 = 1 then runOut (execClaim (toPart p) u (BitVec.ofNat 16 (fld v 31 16)) s) s
    else if fld v 2 0 = 2 then runOut (execCtrRelease (toPart p) u s) s
    else s.portReject p u
  | _ => s.plainReg p off v

/-- A write of CHn_SRC_BASE: rejected while a persistent run is in progress (R169). -/
def State.writeSrcBase (s : State) (b ch : Nat) (v : Word64) : State :=
  if (s.chan b ch).slots.any Desc.persist then s.wb (chBase b ch + 8) 9 true else s.wf (chBase b ch + 0x10) 56 0 (fld v 56 0)

/-- A register of a block window's lower half. -/
def State.writeBlock (s : State) (p b o : Nat) (v : Word64) : State :=
  let i := toBlock b
  if 0x1000 ≤ o && o < 0x2000 then
    let ch := toChan ((o - 0x1000) / 0x100)
    match o % 0x100 with
    | 0x00 => s.eachBit v [execChannelResume i ch, execChStop i ch]
    | 0x10 => s.writeSrcBase b ch v
    | 0x18 => runOut (execChDstBaseWrite i ch v s) s
    | 0x20 => runOut (execChPaceWrite i ch v s) s
    | _ => s.plainReg p (blockBase b + o) v
  else if 0x2000 ≤ o && o < 0x2100 && o % 0x40 = 0 then runOut (execHrCfgWrite (toCell (4 * b + (o - 0x2000) / 0x40)) v s) s
  else if 0x3000 ≤ o && o < 0x3200 then s.writePort p (.block i) (o - 0x3000) (blockBase b + o) v
  else match o with
  | 0x0000 => runOut (execSluiceSegWrite i v s) s
  | 0x3200 => runOut (execShutMaskWrite i false v s) s
  | 0x3208 => runOut (execShutMaskWrite i true v s) s
  | _ => s.plainReg p (blockBase b + o) v

/-- LEAT.CTRL. -/
def State.writeLeat (s : State) (p port o off : Nat) (v : Word64) : State :=
  if o = 8 then s.eachBit v [execLeatRetrain (toLeat port), execLeatRestore (toLeat port)] else s.plainReg p off v

/-- A register of a region window. -/
def State.writeRegion (s : State) (p r o : Nat) (v : Word64) : State :=
  if 0x20_0000 ≤ o && o < 0x20_8000 && o % 0x1000 = 8 then
    let f := toLink (8 * r + (o - 0x20_0000) / 0x1000)
    s.eachBit v [execFlRetrain f, execFlUnfence f, execFlDisable f]
  else if o = 0x30_0090 then runOut (execThermSelWrite (toRegion r) v s) s
  else s.plainReg p (regionBase r + o) v

/-- The job commands of SYNC.JOBCMD (R215). -/
def State.writeJobCmd (s : State) (p : Nat) (v : Word64) : State :=
  let job := BitVec.ofNat 16 (fld v 15 0)
  match fld v 18 16 with
  | 1 => runOut (execPreempt (toPart p) job s) s
  | 2 => runOut (execJobResume (toPart p) job s) s
  | 3 => runOut (execJobReset (toPart p) job s) s
  | _ => s

/-- A register of the sync and shutter units of a partition in the hurst window. -/
def State.writePkgSync (s : State) (p o : Nat) (v : Word64) : State :=
  if o = 0x0200_0100 then s.writeJobCmd p v
  else if o < 0x0201_0000 then s.writePort p .package (o - 0x0200_0000) o v
  else if o < 0x0201_0200 && o % 16 = 0 then runOut (execLineCtrlWrite (toPart p) (toLine ((o - 0x0201_0000) / 16)) v s) s
  else s.plainReg p o v

/-- FAB registers (R310). -/
def State.writeFab (s : State) (p o : Nat) (v : Word64) : State :=
  if 0x1000 ≤ o && o < 0x1600 && o % 16 = 0 then runOut (execPlanStageWrite (toPart p) (.plan (toLink ((o - 0x1000) / 16))) v s) s
  else if 0x4000 ≤ o && o < 0x6000 then
    runOut (execPlanStageWrite (toPart p) (.route ⟨(o - 0x4000) / 8 % 1024, Nat.mod_lt _ (by decide)⟩) v s) s
  else if o = 0x18 then s.eachBit v [execL2Commit (toPart p)]
  else s.plainReg p (fabBase p + o) v

/-- The registers that a trigger owns and that may be written in any state, so that the driver can disarm it (R195, log 26). -/
def isTrigReg (o : Nat) : Bool := decide (0x18 ≤ o) && decide (o ≤ 0x38)

/-- RAS, TOLL, POND and DUMP registers (R389): configuration writes are rejected while the unit is not IDLE. -/
def State.writeRas (s : State) (p o : Nat) (v : Word64) : State :=
  let i := toPart p
  let off := rasBase p + o
  if o = 0x8 then s.eachBit v [execDumpRelease i]
  else if o = 0x1048 then s.eachBit v [execTollStart i, execTollAbort i]
  else if o = 0x2048 then s.eachBit v [execPondDisarm i, execPondReturn i, execAcceptOpen i, execAcceptClose i, execPondAbort i]
  else if 0x1000 ≤ o && o < 0x1400 && o ≠ 0x1050 && !isTrigReg (o - 0x1000) && s.rf (tollBase p + rUSTATUS) 2 0 != 0 && (regRow off).any (fun r => r.rw != 0) then
    s.wb (tollBase p + rUSTATUS) 10 true
  else if 0x2000 ≤ o && o < 0x2200 && o ≠ 0x2050 && !isTrigReg (o - 0x2000) && (s.part p).pond.code != 0 && (regRow off).any (fun r => r.rw != 0) then
    s.wb (pondBaseReg p + rUSTATUS) 25 true
  else s.plainReg p off v

/-- TEST registers (R431, R434). -/
def State.writeTest (s : State) (p o : Nat) (v : Word64) : State :=
  if o = 0 then runOut (execTestCtrlWrite (toPart p) v s) s
  else if s.testWriteOk p o v then (s.plainReg p (testBase p + o) v).testClocked p
  else s.testReject p

/-- A register of the hurst window. -/
def State.writeHurst (s : State) (p o : Nat) (v : Word64) : State :=
  if 0x0200_0000 ≤ o && o < 0x0202_0000 then s.writePkgSync p o v
  else if 0x0300_0000 ≤ o && o < 0x0300_7000 then s.writeLeat p (48 + (o - 0x0300_0000) / 0x1000) (o % 0x1000) o v
  else if 0x0600_0000 ≤ o && o < 0x0660_0000 then s.writeFab p (o % 0x10_0000) v
  else if 0x0801_0000 ≤ o && o < 0x0801_6000 && o % 0x1000 = 8 then s.eachBit v [execFanClear (toPart p)]
  else if 0x0801_0000 ≤ o && o < 0x0801_6000 && o % 0x1000 = 0x18 then runOut (execFanSelWrite (toPart p) v s) s
  else if 0x0900_0000 ≤ o && o < 0x0906_0000 then s.writeRas p (o % 0x1_0000) v
  else if 0x0A01_0000 ≤ o && o < 0x0A01_6000 && o % 0x1000 = 0 then s.eachBit v [execPctrlDress (toPart p)]
  else if 0x0C00_0000 ≤ o && o < 0x0C00_6000 then s.writeTest p (o % 0x1000) v
  else match o with
  | 0x0500_0000 => s.eachBit v [execWeirCtrlKill]
  | 0x0500_0010 => runOut (execWeirJobWrite v s) s
  | 0x0800_0020 => runOut (execRailSelWrite (toPart p) v s) s
  | _ => s.plainReg p o v

/-- A write of a register by partition `p`: a register with a behaviour of its own has it, every other follows its access codes. -/
def State.regWrite (s : State) (p off : Nat) (v : Word64) : State :=
  match regAt off with
  | .cell c o => s.writeCell p c o v
  | .block b o => s.writeBlock p b o v
  | .region r o => s.writeRegion p r o v
  | .bed b o =>
    if 0x20_0000 ≤ o && o < 0x20_8000 then s.writeLeat p (8 * b + (o - 0x20_0000) / 0x1000) (o % 0x1000) off v
    else if 0x40_0000 ≤ o && o < 0x40_0200 then s.writePort p (.region (toBed b)) (o - 0x40_0000) off v
    else s.plainReg p off v
  | .hurst o => s.writeHurst p o v
  | .nowhere => s

/-! ### The commands -/

/-- REGISTER_WRITE (R5, R7): a write of a register that the partition reaches and that is aligned; any other address is an address fault, and nothing is written (R33). -/
def execRegisterWrite (p : PartId) (off : BitVec 52) (v : Word64) (s : State) : Out := powered s <|
  if off.toNat % 8 ≠ 0 || !s.regReach p off.toNat then .next s else done s (s.regWrite p off.toNat v)

/-- RC_REGISTER_READ (R5, R6, R374): the read's effect on the register. -/
def execRcRegisterRead (p : PartId) (off : BitVec 52) (s : State) : Out := powered s <|
  if off.toNat % 8 ≠ 0 || !s.regReach p off.toNat then .next s else .next (s.regRead p off.toNat).2

end Sys2Proof.Machine
end

