-- ==== Sys2Proof/Machine/LoadStore.lean ====
section
/-! DEFINITION. LD and ST (R51, R52, R56, R192), the return of a load's data, the performance of a posted store, and accesses held on a busy set (R35, R113). -/

namespace Sys2Proof.Machine

/-! ### Addresses of LD and ST (R51) -/

/-- The natural alignment and the zero bits that R51 asks of an address. -/
def lsAligned (a : Word64) (n : Nat) : Bool := fld a 63 57 == 0 && a.toNat % n == 0

/-- Whether `n` bytes of space 4 at an offset lie in one counter that a partition reaches (R32, R192). -/
def State.ctrReach (s : State) (p off : Nat) : Bool := (s.ctrKey p off).isSome

/-- Whether an LD of `n` bytes at an address is refused (R51, R192). -/
def State.ldFault (s : State) (c : Nat) (a : Word64) (n : Nat) : Bool :=
  !lsAligned a n || (match s.locate (s.cellRq c) false a.toNat n with
    | .fault => true
    | .ctr off => !s.ctrReach (s.cellPart c) off
    | .reg off => n != 8 || !s.regReach (s.cellPart c) off
    | _ => false)

/-- The registers of its own cell window that an ST may not write (R51). -/
def coreForbidden (o : Nat) : Bool :=
  o == 0 || o == 0x10 || (decide (0x40 ≤ o) && decide (o ≤ 0x60)) || (decide (0x100 ≤ o) && decide (o < 0x200)) || (decide (0x200 ≤ o) && decide (o < 0x218))

/-- Whether a cell program may write a register of space 5 (R32, R51, R188). -/
def stRegOk (c off : Nat) : Bool :=
  match regAt off with
  | .cell c' o => c' == c && !coreForbidden o
  | .block b o =>
    b == cellBlock c && ((decide (0x1000 ≤ o) && decide (o < 0x2000) && (o - 0x1000) / 0x100 / 4 == cellPos c && decide (o % 0x100 ≤ 0x68))
      || (decide (0x2000 ≤ o) && decide (o < 0x2100) && (o - 0x2000) / 0x40 == cellPos c && decide (o % 0x40 ≤ 0x18))
      || (decide (0x400 ≤ o) && decide (o < 0x600)))
  | _ => false

/-- Whether an ST of `n` bytes at an address is refused (R51). -/
def State.stFault (s : State) (c : Nat) (a : Word64) (n : Nat) : Bool :=
  !lsAligned a n || (match s.locate (s.cellRq c) true a.toNat n with
    | .fault => true
    | .ctr _ => true
    | .reg off => n != 8 || !stRegOk c off
    | _ => false)

/-! ### Taking LD and ST -/

/-- LD (R51, R52): checked, then the core stalls until the data returns. -/
def execLd (c : CellId) (s : State) : Out := powered s <|
  done s (s.core c cLD (fun w pc seq s1 =>
    let a := s1.sreg c (fRa w) + fImm w
    let size := fld w 37 35
    if s1.ldFault c a (sizeBytes size) then s1.halt c { reason := .addressFault, unit := 0, pc := pc, seq := seq, word := w, addr := a }
    else s1.setCell c { s1.cell c with ld := some { rt := fRd w, addr := a, size := size, seq := seq, pc := pc, word := w } }))

/-- ST (R51, R52): checked, then posted. With eight outstanding, the core stalls until the one that is then the oldest has been performed at CELL scope. -/
def execSt (c : CellId) (s : State) : Out := powered s <|
  done s (s.core c cST (fun w pc seq s1 =>
    let a := s1.sreg c (fRa w) + fImm w
    let n := sizeBytes (fld w 37 35)
    let x := s1.cell c
    if s1.stFault c a n then s1.halt c { reason := .addressFault, unit := 0, pc := pc, seq := seq, word := w, addr := a }
    else if x.posted.any (fun t => x.stWait == some t.seq) then s
    else if 8 ≤ x.posted.length then s.setCell c { s.cell c with stWait := x.posted.head?.map StReq.seq }
    else s1.setCell c { x with
      stWait := none, sts := x.sts ++ [{ addr := a, bytes := toBytes n (s1.sreg c (fRd w)).toNat, seq := seq, pc := pc, word := w }] }))

/-! ### Performing a store (R52) -/

/-- Whether two runs of bytes share a byte, as the cell's own accesses name them. -/
def State.sameBytes (s : State) (c : Nat) (a : Word64) (n : Nat) (b : Word64) (m : Nat) : Bool :=
  match s.locate (s.cellRq c) false a.toNat n, s.locate (s.cellRq c) false b.toNat m with
  | .mem k, .mem l => decide (k < l + m) && decide (l < k + n)
  | .far k, .far l => decide (k < l + m) && decide (l < k + n)
  | .reg _, .reg _ => true
  | _, _ => false

/-- Whether an outstanding store must wait for an earlier one: the core's stores to the same bytes, and its stores to registers, are performed in program
order (R62). -/
def State.stBlocked (s : State) (c : Nat) (t : StReq) (earlier : List StReq) : Bool :=
  earlier.any (fun e => s.sameBytes c e.addr e.bytes.length t.addr t.bytes.length)

/-- Perform a store: memory, the far tier or a register; one that fails is not performed, and one in flight from a lost region completes with poison (R24). -/
def State.storePerform (s : State) (c : Nat) (t : StReq) : State :=
  match s.locate (s.cellRq c) true t.addr.toNat t.bytes.length with
  | .reg off => if s.cellLost c then s else s.regWrite (s.cellPart c) off (BitVec.ofNat 64 (ofBytes t.bytes))
  | _ => s.storeMem c t

/-- A store that is performed at every scope at once: to a register, or to the cell's own store and sets, which every requester reads where they lie. -/
def State.ownStore (s : State) (c : Nat) (t : StReq) : Bool :=
  match s.locate (s.cellRq c) true t.addr.toNat t.bytes.length with
  | .mem k => decide (cellKey c 0 ≤ k) && decide (k < cellKey c 0x80_0000)
  | .reg _ => true
  | _ => false

/-- Store `i` of a cell's posted stores becomes performed at CELL scope, which frees its place, and then at every scope, or is held on a busy set (R52, R64). -/
def State.stTry (s : State) (c i : Nat) : State :=
  let x := s.cell c
  match x.sts[i]? with
  | none => s
  | some t =>
    if s.stBlocked c t (x.sts.take i) then s
    else if !t.atCell && !s.ownStore c t then s.setCell c { x with sts := setAt x.sts i { t with atCell := true } }
    else match s.waitsOn (s.cellRq c) true t.addr.toNat t.bytes.length with
      | some d => s.hold d (.core c t.seq)
      | none => ((s.setCell c { x with sts := dropAt x.sts i }).unhold (.core c t.seq)).storePerform c t

/-- ST_PERFORMED (R52). -/
def execStPerformed (c : CellId) (i : Nat) (s : State) : Out := powered s <| done s (s.stTry c i)

/-! ### The data of a load (R52, R56, R192) -/

/-- Lay a store's bytes over bytes read at a key. -/
def overlayB (k : Nat) (bs : List PByte) (l : Nat) (vs : List Byte) : List PByte :=
  (bs.zip (upTo bs.length)).map (fun (b, i) => if l ≤ k + i && k + i < l + vs.length then (vs.getD (k + i - l) 0, false) else b)

/-- The core's own outstanding stores laid over the bytes of its load, oldest first (R52). -/
def State.forwarded (s : State) (c : Nat) (loc : Loc) (bs : List PByte) : List PByte :=
  (s.cell c).sts.foldl (fun bs t =>
    match loc, s.locate (s.cellRq c) true t.addr.toNat t.bytes.length with
    | .mem k, .mem l => overlayB k bs l t.bytes
    | .far k, .far l => overlayB k bs l t.bytes
    | _, _ => bs) bs

/-- The lost region that a register of space 5 belongs to, if any (R24). -/
def State.regLost (s : State) (off : Nat) : Bool :=
  match regAt off with
  | .cell c _ => s.lostRegions.contains (cellRegion c)
  | .block b _ => s.lostRegions.contains (b / 12)
  | .region r _ => s.lostRegions.contains r
  | _ => false

/-- What a load returns. -/
inductive Loaded where
  | bytes (bs : List PByte) (s : State)
  | lost (s : State)
  | failed (s : State)

/-- The bytes of a load. A lost region answers poison (R24, R266); a far-tier access that fails returns no data (R251). -/
def State.loadData (s : State) (c : Nat) (l : LdReq) (res : AccessResult) : Loaded :=
  let n := sizeBytes l.size
  let loc := s.locate (s.cellRq c) false l.addr.toNat n
  match loc with
  | .ctr off =>
    match s.ctrKey (s.cellPart c) off with
    | some k =>
      if s.ctrLost k then .lost s
      else .bytes (((toBytes 8 (s.ctrVisible k).toNat).drop (off % 8)).take n |>.map (fun b => (b, false))) s
    | none => .failed s
  | .reg off =>
    if s.regLost off then .lost s
    else
      let (v, s1) := s.regRead (s.cellPart c) off
      .bytes ((toBytes 8 v.toNat).map (fun b => (b, false))) s1
  | .far b =>
    if res = .error || !s.farUp b n then .failed s
    else match s.access (s.cellRq c) l.addr.toNat n with
      | .ok bs s1 => .bytes (s1.forwarded c loc bs) s1
      | _ => .failed s
  | .mem _ =>
    match s.access (s.cellRq c) l.addr.toNat n with
    | .ok bs s1 => .bytes (s1.forwarded c loc bs) s1
    | _ => .failed s
  | .fault => .failed s

/-- A load's data returns: into rt, or the cell halts on poison; a load that fails leaves rt a free value, since the spec states no result for it (log 2). -/
def State.ldFinish (s : State) (c : Nat) (l : LdReq) (res : AccessResult) : State :=
  let free (s : State) : State := s.setCell c { s.cell c with ld := none }
  let poison (s : State) : State :=
    (free s).halt c { reason := .poison, unit := 0, pc := l.pc, seq := l.seq, word := l.word, addr := l.addr }
  match s.loadData c l res with
  | .lost s1 => poison s1
  | .failed s1 =>
    let (v, s2) := s1.fresh
    (free s2).setSreg c l.rt v
  | .bytes bs s1 =>
    if res = .poison || bs.any (fun b => b.2) then poison s1
    else (free s1).setSreg c l.rt (extendLoad l.size (ofBytes (bs.map (fun b => b.1))))

/-- Whether a load of a register waits for the core's earlier stores to registers (R62). -/
def State.ldBlocked (s : State) (c : Nat) (l : LdReq) : Bool :=
  match s.locate (s.cellRq c) false l.addr.toNat (sizeBytes l.size) with
  | .reg _ => (s.cell c).sts.any (fun t => fld t.addr 56 52 == 5)
  | _ => false

/-- The cell's load proceeds, or is held on a busy set; a cell of a lost region takes no data (R24). -/
def State.ldTry (s : State) (c : Nat) (res : AccessResult) : State :=
  match (s.cell c).ld with
  | none => s
  | some l =>
    if s.ldBlocked c l || s.cellLost c then s
    else match s.waitsOn (s.cellRq c) false l.addr.toNat (sizeBytes l.size) with
      | some d => s.hold d (.core c l.seq)
      | none => (s.unhold (.core c l.seq)).ldFinish c l res

/-- LD_DATA_RETURN (R52). -/
def execLdDataReturn (c : CellId) (res : AccessResult) (s : State) : Out := powered s <| done s (s.ldTry c res)

end Sys2Proof.Machine
end

