-- ==== Sys2Proof/Machine/Dump.lean ====
section
/-! DEFINITION. The fatal dump (R387, R388): its target, its sections, and how the miller writes it. -/

namespace Sys2Proof.Machine

/-! ### Targets -/

/-- Whether a stack of a partition is lost, or a region that holds stacks. -/
def State.anyStackLost (s : State) (p : Nat) : Bool :=
  (s.partStacks p).any (fun k => s.rf (memBase k + 8) 2 0 == 3 || s.lostRegions.contains (k / 2))

/-- Whether a dump goes to the far tier (R387). -/
def State.dumpFar (s : State) (p : Nat) : Bool :=
  match s.rf (dumpBaseReg p) 1 0 with
  | 0 => false
  | 1 => true
  | _ => s.anyStackLost p || s.module.fatal == evThermalTrip

/-- Whether a dump is reduced to the summary (R387). A far area beyond what is attached cannot be written either. -/
def State.dumpReduced (s : State) (p : Nat) : Bool :=
  if s.dumpFar p then
    (s.farState 0 != 2 && s.farState 1 != 2) || decide (s.farAvail p < s.rf (dumpBaseReg p + 8) 56 12 * 4096 % 2 ^ 52 + 2 ^ 32)
  else s.anyStackLost p

/-! ### Sections -/

/-- A section: its kind, whether a lost region left part of it lacking, and its bytes. -/
structure Section where
  kind : Nat
  lacking : Bool
  bytes : List PByte
deriving DecidableEq, Repr

/-- Clean bytes. -/
def cleanBytes (bs : List Byte) : List PByte := bs.map (fun b => (b, false))

/-- Fill with zeros up to a length. -/
def padTo (n : Nat) (bs : List Byte) : List Byte := bs.take n ++ List.replicate (n - bs.length) 0

/-- The words of a window as a read by the miller returns them; the read clears nothing (R387). -/
def State.windowBytes (s : State) (p base : Nat) : Nat → List Byte × State
  | 0 => ([], s)
  | n + 1 =>
    let (front, s1) := State.windowBytes s p base n
    let (v, s2) := s1.regValue p (base + 8 * n)
    (front ++ toBytes 8 v.toNat, s2)

/-- Windows of `n` words at the given bases, a window of a lost region as zeros. -/
def State.windows (s : State) (p n : Nat) : List (Nat × Bool) → List Byte × State
  | [] => ([], s)
  | (base, lost) :: rest =>
    let (bs, s1) := if lost then (List.replicate (8 * n) 0, s) else s.windowBytes p base n
    let (more, s2) := State.windows s1 p n rest
    (bs ++ more, s2)

def State.anyLost (s : State) (p : Nat) : Bool := (s.partRegions p).any s.lostRegions.contains

/-- A section of register windows. -/
def State.regSection (s : State) (p kind n : Nat) (ws : List (Nat × Bool)) : Section × State :=
  let (bs, s1) := s.windows p n ws
  ({ kind := kind, lacking := ws.any (fun w => w.2), bytes := cleanBytes bs }, s1)

/-- Section 4 of one region, 64 KiB: the MEM windows of its stacks at 0x0000 and 0x1000, its flume windows from 0x2000 on, the power unit at 0xA000 and XCHK at
0xB000, each 4 KiB; the rest is zero (the places are the model's, log 31). -/
def State.unitWindows (s : State) (p r : Nat) : List Byte × State :=
  if s.lostRegions.contains r then (List.replicate 0x1_0000 0, s)
  else
    let bases := [memBase (2 * r), memBase (2 * r + 1)] ++ (upTo 8).map (fun j => regionBase r + 0x20_0000 + 0x1000 * j)
      ++ [regionBase r + 0x30_0000, regionBase r + 0x30_1000]
    let (bs, s1) := s.windows p 512 (bases.map (fun b => (b, false)))
    (padTo 0x1_0000 bs, s1)

def State.unitSection (s : State) (p : Nat) : List Nat → List Byte × State
  | [] => ([], s)
  | r :: rs =>
    let (bs, s1) := s.unitWindows p r
    let (more, s2) := State.unitSection s1 p rs
    (bs ++ more, s2)

/-- Section 5 of one counter: value, pending sum, OWNER and WCOUNT words (R215); a lost region's counter as zeros. -/
def State.ctrBytes (s : State) (k : Nat) : List Byte :=
  if s.ctrLost k then List.replicate 32 0
  else
    let x := s.ctr k
    toBytes 8 x.value.toNat ++ toBytes 8 x.pending.toNat ++ toBytes 8 (x.job + x.st.code * 2 ^ 16 + b2n x.saturated * 2 ^ 18)
      ++ toBytes 8 (x.waiters.length + b2n (decide (8 < x.waiters.length)) * 2 ^ 16)

/-- The counters of a partition: its PSC share, then GSC, then BSC (R189, R387). -/
def State.partCounters (s : State) (p : Nat) : List Nat :=
  (upTo (s.pscShare p)).map (fun i => s.pscBase p + i)
    ++ ((s.partRegions p).map (fun r => (upTo 1024).map (fun i => (0x10_0000 + 0x2000 * r) / 8 + i))).flatten
    ++ ((s.partBlocks p).map (fun b => (upTo 256).map (fun i => (0x20_0000 + 0x800 * b) / 8 + i))).flatten

/-- A change journal entry (R321). -/
def journalBytes (n : Nat) (e : JEntry) : List Byte :=
  toBytes 8 n ++ toBytes 8 e.addr ++ toBytes 8 e.value.toNat ++ toBytes 4 e.time.toNat ++ toBytes 1 e.slot ++ toBytes 1 e.type ++ toBytes 2 0

/-- A cell's hopper, 64 KiB. -/
def State.hopperBytes (s : State) (c : Nat) : List Byte :=
  if s.lostRegions.contains (cellRegion c) then List.replicate 0x1_0000 0
  else ((upTo 4096).map (fun i => toBytes 16 ((s.cell c).hopper.get {} i).bits.toNat)).flatten

/-- `n` bytes of each cell's window from an offset on, with their poison. -/
def State.cellMemBytes (s : State) (p off n : Nat) : List PByte :=
  ((s.partCells p).map (fun c =>
    if s.lostRegions.contains (cellRegion c) then List.replicate n (0, false) else s.readPB (cellKey c off) n)).flatten

/-- Free bytes, eight at a time (log 2). -/
def State.freeBytes (s : State) : Nat → List Byte × State
  | 0 => ([], s)
  | n + 1 =>
    let (v, s1) := s.fresh
    let (bs, s2) := State.freeBytes s1 n
    (toBytes 8 v.toNat ++ bs, s2)

/-- The miller log: its bytes and its length, at most 1 MiB, are not stated (log 2). -/
def State.millerLog (s : State) : List Byte × State :=
  let (v, s1) := s.fresh
  let n := v.toNat % (2 ^ 20 + 1)
  let (bs, s2) := s1.freeBytes (n / 8 + 1)
  (bs.take n, s2)

/-- Whether cell stores are dumped (DUMP.CFG.STORES). -/
def State.dumpStores (s : State) (p : Nat) : Bool := s.rb (dumpBaseReg p) 2

/-- The sections of a partition's dump, in order (R387). -/
def State.dumpSections (s : State) (p : Nat) : List Section × State :=
  let lost := s.anyLost p
  let cellLost (c : Nat) : Bool := s.lostRegions.contains (cellRegion c)
  let e1 : Section := { kind := 1, lacking := false, bytes := cleanBytes (padTo (4096 * 48) ((s.log p).map LogRec.bytes).flatten) }
  let (e2, s1) := s.regSection p 2 512 ((s.partCells p).map (fun c => (cellBase c, cellLost c)))
  let (e3, s2) := s1.regSection p 3 2048 ((s.partBlocks p).map (fun b => (blockBase b, s.lostRegions.contains (b / 12))))
  let (b4, s3) := s2.unitSection p (s.partRegions p)
  let e4 : Section := { kind := 4, lacking := lost, bytes := cleanBytes b4 }
  let e5 : Section := { kind := 5, lacking := lost, bytes := cleanBytes ((s.partCounters p).map s.ctrBytes).flatten }
  let h := s.power.history.drop (s.power.history.length - 64)
  let e6 : Section := { kind := 6, lacking := false, bytes := cleanBytes (padTo 4096 h.flatten) }
  let e7 : Section := { kind := 7, lacking := false, bytes := cleanBytes (padTo (4096 * 32) ((s.endpoint p).journal.map (fun x => journalBytes x.1 x.2)).flatten) }
  let e8 : Section := { kind := 8, lacking := lost, bytes := cleanBytes ((s.partCells p).map s.hopperBytes).flatten }
  let e9 : Section := { kind := 9, lacking := lost, bytes := s.cellMemBytes p 0x40_0000 0x4000 }
  let stores : List Section := if s.dumpStores p then [{ kind := 10, lacking := lost, bytes := s.cellMemBytes p 0 0x40_0000 }] else []
  let (b11, s4) := s3.millerLog
  ([e1, e2, e3, e4, e5, e6, e7, e8, e9] ++ stores ++ [{ kind := 11, lacking := false, bytes := cleanBytes b11 }], s4)

/-! ### CRC-32C and the directory -/

/-- One bit of the reflected CRC-32C. -/
def crc32cBit (r : Nat) : Nat := if r % 2 = 1 then (r / 2) ^^^ 0x82F6_3B78 else r / 2

/-- One byte of the CRC-32C. -/
def crc32cByte (r : Nat) (b : Byte) : Nat :=
  crc32cBit (crc32cBit (crc32cBit (crc32cBit (crc32cBit (crc32cBit (crc32cBit (crc32cBit (r ^^^ b.toNat))))))))

/-- CRC-32C of a run of bytes. -/
def crc32c (bs : List Byte) : Nat := (bs.foldl crc32cByte 0xFFFF_FFFF) ^^^ 0xFFFF_FFFF

/-- The directory entries of sections laid back to back from an offset on. -/
def directory : Nat → List Section → List Byte
  | _, [] => []
  | off, x :: xs =>
    toBytes 2 x.kind ++ toBytes 2 (b2n x.lacking) ++ toBytes 4 0 ++ toBytes 8 off ++ toBytes 8 x.bytes.length
      ++ toBytes 4 (crc32c (x.bytes.map (fun b => b.1))) ++ toBytes 4 0 ++ directory (off + x.bytes.length) xs

/-! ### Writing -/

/-- Write a run of the far area chunk by chunk of 4 KiB; a chunk whose port is not UP is not written. -/
def State.farDumpRun (s : State) (p : Nat) : Nat → Nat → List PByte → State × Bool
  | 0, _, _ => (s, false)
  | fuel + 1, b, bs =>
    match bs with
    | [] => (s, false)
    | _ =>
      let n := 4096 - b % 4096
      let chunk := bs.take n
      let up := s.farUp b chunk.length
      let s1 := if up then s.farStore p b chunk else s
      let (s2, missed) := State.farDumpRun s1 p fuel (b + n) (bs.drop n)
      (s2, missed || !up)

/-- DUMP.STATUS while a dump is written (R387). -/
def State.dumpStatus (s : State) (p st bytes : Nat) (far : Bool) : State :=
  s.wr (dumpBaseReg p + 0x10) (BitVec.ofNat 64 (st + b2n far * 2 ^ 3 + (s.part p).cause * 2 ^ 16 + bytes / 2 ^ 20 * 2 ^ 32))

/-- The miller writes a partition's dump with its header INCOMPLETE, or keeps the summary (R387); far keys are kept with a far dump (R388). -/
def State.writeDump (s : State) (p : Nat) : State :=
  let cause := (s.part p).cause
  let (us, s0) := s.clock32
  let far := s.dumpFar p
  if s.dumpReduced p then
    let s1 := (s0.keepSummary p cause us).dumpStatus p 4 0 false
    s1.setPart p { s1.part p with dump := { (s1.part p).dump with written := true, bytes := (s1.part p).dump.summary.length, lacking := true } }
  else
    let (sections, s1) := s0.dumpSections p
    let hdr := s1.dumpHeader p cause us false sections.length (directory 0x1000 sections)
    let bytes := cleanBytes hdr ++ (sections.map Section.bytes).flatten
    let base := s1.farStart p + s1.rf (dumpBaseReg p + 8) 56 12 * 4096 % 2 ^ 52
    let (s2, missed) := if far then s1.farDumpRun p (bytes.length / 4096 + 2) base bytes else (s1.storePB (memKey0 p (s1.dumpBase p)) bytes, false)
    let d := (s2.part p).dump
    let d1 := { d with written := true, bytes := bytes.length, lacking := missed || sections.any Section.lacking }
    let d2 := if far then { d1 with farKeys := true, k1 := (s2.part p).k1, k2 := (s2.part p).k2, farEpoch := (s2.part p).epoch, farBase := base } else d1
    (s2.dumpStatus p 1 bytes.length far).setPart p { s2.part p with dump := d2 }

/-- FATAL_DUMP (R387): in DUMPING, once. -/
def execFatalDump (p : PartId) (s : State) : Out := powered s <|
  .next (if (s.part p).st = .dumping && !(s.part p).dump.written then s.writeDump p else s)

end Sys2Proof.Machine
end

