-- ==== Sys2Proof/Machine/HostOps.lean ====
section
/-! DEFINITION. What the host endpoints share (R312 to R320, R324, R326, R332): sources and violations, sessions, kept responses, and the frame of a Huaza request. -/

namespace Sys2Proof.Machine

/-! ### Status codes (R324) and message types (R316) -/

def hzOK : Nat := 0
def hzBADTYPE : Nat := 1
def hzBADLENGTH : Nat := 2
def hzRESERVED : Nat := 3
def hzVERSION : Nat := 4
def hzNOSESSION : Nat := 5
def hzCONFIDENTIAL : Nat := 6
def hzADDRFAULT : Nat := 0x10
def hzPOISONED : Nat := 0x11
def hzOWNER : Nat := 0x12
def hzABANDONED : Nat := 0x13
def hzBUSY : Nat := 0x14
def hzLIMIT : Nat := 0x15
def hzGONE : Nat := 0x16
def hzRANGE : Nat := 0x17
def hzUNKNOWNKEY : Nat := 0x18

/-- The types that a host may send (R316). -/
def hostTypes : List Nat := [0x01, 0x02, 0x03, 0x04, 0x10, 0x11, 0x12, 0x13, 0x20, 0x30, 0x40, 0x50, 0x51, 0x52, 0x53]

/-! ### Endpoint registers (R334) -/

def epDISCARDS : Nat := 0x38
def epVIOLCOUNT : Nat := 0x40
def epTAGFAIL : Nat := 0x60
def epSTALE : Nat := 0x68
def epNAKS : Nat := 0x70
def epRX : Nat := 0x78

/-- A frame for an endpoint has come in; where no command carries its length the byte counters advance by a free value (log 2). -/
def State.hostRecv (s : State) (p : Nat) : State :=
  let (v, s1) := s.fresh
  (s1.bump (epBase p + epRX) 63 0 (fld v 13 0)).bump 0x0700_0028 63 0 (fld v 13 0)

/-- A datagram is discarded and counted (R314, R332). -/
def State.hostDiscard (s : State) (p : Nat) : State := s.bump (epBase p + epDISCARDS) 63 0 1

/-- Whether one of an endpoint's addresses answers: its partition exists, the link is UP, the address is PREFERRED, and neither address is DUPLICATE, which silences the endpoint (R313). -/
def State.addrAnswers (s : State) (p : Nat) (onLocal : Bool) : Bool :=
  let e := s.endpoint p
  s.partValid p && s.module.hostUp && (if onLocal then e.linkLocal else e.addr) == .preferred && e.addr != .duplicate && e.linkLocal != .duplicate

/-- Whether an endpoint receives and answers. -/
def State.answers (s : State) (p : Nat) : Bool := s.addrAnswers p false

/-! ### Sources (R332) -/

def State.source (s : State) (p : Nat) (a : BitVec 128) : Source :=
  ((s.endpoint p).sources.find? (fun x => x.addr == a)).getD { addr := a }
def State.setSource (s : State) (p : Nat) (x : Source) : State :=
  let e := s.endpoint p
  s.setEndpoint p { e with sources := e.sources.filter (fun y => y.addr != x.addr) ++ [x] }

/-! ### Sessions (R319) -/

/-- The slot of an endpoint's session by its ID. -/
def State.sessSlot (s : State) (p id : Nat) : Option Nat :=
  (upTo 8).find? (fun i => match s.session p i with
    | some x => x.id == id && id != 0
    | none => false)

/-- An event of a host endpoint. -/
def hostEvent (p code a0 a1 a2 : Nat) : Event := { code := code, part := p, kind := 8, index := p, arg0 := a0, arg1 := a1, arg2 := a2 }

/-- A source is blocked; its open sessions end first (R332). -/
def State.blockSource (s : State) (p : Nat) (a : BitVec 128) : State :=
  let s1 := forEach (upTo 8) s (fun s i => match s.session p i with
    | some x => if x.src = a then s.endSession p i else s
    | none => s)
  (s1.setSource p { s1.source p a with blocked := true, handshake := false }).bump (epBase p + epVIOLCOUNT) 63 32 1

/-- A violation is counted, logged and told at most once per second (R332). -/
def State.hostViol (s : State) (p code type st : Nat) (a : BitVec 128) : State :=
  let (t, s1) := s.clock32
  let (tell, s2) := s1.rateOk (s1.endpoint p).violEvent
  let s3 := s2.setEndpoint p { s2.endpoint p with violEvent := true }
  let b := epBase p
  let s4 := (((s3.bump (b + epVIOLCOUNT) 31 0 1).wr (b + 0x48) (BitVec.ofNat 64 (t * 2 ^ 32 + st * 2 ^ 16 + type * 2 ^ 8 + code))).wr
    (b + 0x50) (BitVec.ofNat 64 a.toNat)).wr (b + 0x58) (BitVec.ofNat 64 (a.toNat / 2 ^ 64))
  if tell then s4.raise (hostEvent p evHostViolation (code + type * 2 ^ 8 + st * 2 ^ 16) (a.toNat % 2 ^ 64) (a.toNat / 2 ^ 64)) else s4

/-- A violation of codes 0x40, 0x43, 0x44 or 0x45 with its source's sliding count: at the threshold the source is blocked (R332). -/
def State.hostViolation (s : State) (p code type st : Nat) (a : BitVec 128) : State :=
  let s1 := s.hostViol p code type st a
  let x := s1.source p a
  let (old, limit) := match code with
    | 0x40 => (x.huaza1s, 64)
    | 0x43 => (x.spdm60s, 8)
    | 0x44 => (x.roce1s, 64)
    | _ => (x.roceBad1s, 64)
  let (n, s2) := s1.windowed old
  let y := match code with
    | 0x40 => { x with huaza1s := n }
    | 0x43 => { x with spdm60s := n }
    | 0x44 => { x with roce1s := n }
    | _ => { x with roceBad1s := n }
  let s3 := s2.setSource p y
  if limit ≤ n then s3.blockSource p a else s3

/-- A tag that fails on a session: discarded without answer and counted; sixteen in 1 s end the session (R320, R332). -/
def State.tagFailure (s : State) (p slot type : Nat) (a : BitVec 128) : State :=
  let s1 := (s.bump (epBase p + epTAGFAIL) 63 0 1).hostViol p 0x42 type 0 a
  match s1.session p slot with
  | none => s1
  | some x =>
    let (n, s2) := s1.windowed x.tagFails1s
    if 16 ≤ n then (s2.endSession p slot).raise (hostEvent p evSessionAuthFail 0 0 0)
    else s2.setSession p slot (some { x with tagFails1s := n })

/-! ### Responses (R317, R324) -/

/-- Whether a status counts as a violation (R324). -/
def statusViolates (st : Nat) : Bool := decide (1 ≤ st) && decide (st ≤ 5)

/-- The version that an answer outside a session carries: the one chosen for its source, else a free value, for the spec gives none (log 2). -/
def State.versionOutside (s : State) (p : Nat) (a : BitVec 128) : Nat × State := match (s.source p a).version with
  | some v => (v, s)
  | none => let (v, s1) := s.fresh; (fld v 15 0, s1)

/-- An answer that no session carries: unsealed, SESSION 0 (R324). -/
def State.answerOutside (s : State) (p type : Nat) (h : HzHead) (st : Nat) : State :=
  let (v, s0) := s.versionOutside p h.src
  let s1 := s0.hostSend p (.response type h.seq 0 st [] v none)
  if statusViolates st then s1.hostViolation p 0x40 type st h.src else s1

/-- A session keeps the responses to its last 128 requests (R317). -/
def Session.keep (x : Session) (type : Nat) (seq : Word64) (st : Nat) (body : List Byte) : Session :=
  { x with kept := (x.kept ++ [(seq, type, st, body)]).drop (x.kept.length + 1 - 128) }

/-- The response of a request leaves, once for the first copy and once for each copy received meanwhile, and is kept (R317). -/
def State.answer (s : State) (p slot type : Nat) (src : BitVec 128) (seq : Word64) (st : Nat) (body : List Byte) : State :=
  match s.session p slot with
  | none => s
  | some x =>
    let copies := ((x.inExec.find? (fun q => q.1 == seq)).map (fun q => q.2)).getD 0
    let y := { (x.keep type seq st body) with inExec := x.inExec.filter (fun q => q.1 != seq) }
    let s1 := forEach (upTo (copies + 1)) (s.setSession p slot (some y)) (fun s _ => s.hostSend p (x.reply type seq st body))
    if statusViolates st then s1.hostViolation p 0x40 type st src else s1

/-- What a request answers: a status and a body, or that its response comes later. -/
inductive HzAns where
  | now (st : Nat) (body : List Byte) (s : State)
  | later (s : State)

/-- The lowest SEQ of the kept responses. -/
def lowestKept : List (Word64 × Nat × Nat × List Byte) → Option Nat
  | [] => none
  | x :: xs => match lowestKept xs with
    | none => some x.1.toNat
    | some n => some (min x.1.toNat n)

/-- A sealed request of a session whose tag passes: a kept response again, a copy noted, STALE, LIMIT, a status of R324, or its execution (R317). `lenOk` says whether its body has the
length of its type. A request whose own effect ends its session is answered before the session ends (R406). -/
def State.hzSession (s : State) (p slot type : Nat) (lenOk : Bool) (h : HzHead) (x : Session) (f : State → HzAns) : State :=
  match x.kept.find? (fun k => k.1 == h.seq) with
  | some (q, ty, st, body) => s.hostSend p (x.reply ty q st body)
  | none =>
    if x.inExec.any (fun q => q.1 == h.seq) then
      s.setSession p slot (some { x with inExec := x.inExec.map (fun q => if q.1 = h.seq then (q.1, q.2 + 1) else q) })
    else if (lowestKept x.kept).any (fun n => decide (h.seq.toNat ≤ n)) then (s.bump (epBase p + epSTALE) 63 0 1).hostViol p 0x41 type 0 h.src
    else if 64 ≤ x.inExec.length then s.answer p slot type h.src h.seq hzLIMIT []
    else if h.version ≠ x.version then s.answer p slot type h.src h.seq hzVERSION []
    else if !lenOk then s.answer p slot type h.src h.seq hzBADLENGTH []
    else if h.reserved || h.seq = 0 || h.seq.msb then s.answer p slot type h.src h.seq hzRESERVED []
    else match f s with
      | .now st body s1 => if (s1.session p slot).isNone then s1.hostSend p (x.reply type h.seq st body) else s1.answer p slot type h.src h.seq st body
      | .later s1 => s1

/-- Whether a request reaches execution at a session: what decides whether its access may have to wait. -/
def State.hzReaches (s : State) (p : Nat) (h : HzHead) : Bool :=
  s.answers p && !(s.source p h.src).blocked && (s.part p).st != .dressing && h.sealedMsg && h.tagOk
    && (match s.sessSlot p h.session.toNat with
      | none => false
      | some slot => (s.session p slot).any (fun x => x.version == h.version))

/-- A request of a type that needs a session (R315 to R320, R331): what stands before its execution, in the order in which the endpoint can judge it (log 32). A message that is tied to no
session is judged by the version chosen for its source, and a sealed one whose tag verifies by its session's (R318); `untied` is the status of one that is otherwise in order. -/
def State.hzFront (s : State) (p type untied : Nat) (lenOk : Bool) (h : HzHead) (f : State → Nat → Session → HzAns) : State :=
  if !s.answers p then s
  else
    let s0 := s.hostRecv p
    if (s0.source p h.src).blocked then s0.hostDiscard p
    else if (s0.part p).st = .dressing then s0.answerOutside p type h hzBUSY
    else
      let outside := s0.answerOutside p type h (if (s0.source p h.src).version ≠ some h.version then hzVERSION else untied)
      match s0.sessSlot p h.session.toNat with
      | none => outside
      | some slot =>
        if !h.sealedMsg then outside
        else if !h.tagOk then s0.tagFailure p slot type h.src
        else match s0.session p slot with
          | none => s0
          | some x => s0.hzSession p slot type lenOk h x (fun s => f s slot x)

/-- A request of a type of R316 that needs a session, with the length that its body must have. -/
def State.hzRequest (s : State) (p type len : Nat) (h : HzHead) (f : State → Nat → Session → HzAns) : State :=
  s.hzFront p type hzNOSESSION (h.bodyLen.toNat == len) h f

/-- A reserved TYPE, or a type that the sender may not send (R324). -/
def State.hzBadType (s : State) (p type : Nat) (h : HzHead) : State := s.hzFront p type hzBADTYPE true h (fun s _ _ => .now hzBADTYPE [] s)

/-! ### The change journal (R321) -/

/-- An entry enters the journal, a ring of 4,096; its TIME is a free value (log 2). -/
def State.journalAdd (s : State) (p addr : Nat) (value : Word64) (slot type : Nat) : State :=
  let (t, s1) := s.fresh
  let e := s1.endpoint p
  let l := e.journal ++ [(s1.journalNext p, { addr := addr, value := value, time := t.setWidth 32, slot := slot, type := type })]
  s1.setEndpoint p { e with journal := l.drop (l.length - 4096) }

end Sys2Proof.Machine
end

