-- ==== Sys2Proof/Machine/Huaza.lean ====
section
/-! DEFINITION. The host port's link and addresses (R313, R314), the Huaza requests (R316 to R324), and the application of signals, which answers an INCR (R191, R209, R322). -/

namespace Sys2Proof.Machine

/-! ### The port (R313, R314) -/

/-- ETH_FRAME_RECEIVE (R311, R312, R314): a frame is discarded and counted, answered by neighbour discovery or an echo, pauses priorities, or is a Huaza message of a type that the host may not
send. A frame for which its partition's share of the receive buffer has no room makes the endpoint assert flow control, and is dropped where the endpoint's priority does not use it. In
confidential host mode an echo is not answered: its payload is none of the things that R329 leaves outside the envelope (DEDUCED, log 33). -/
def execEthFrameReceive (fr : Frame) (s : State) : Out := powered s <|
  let p := fr.part.val
  let full := decide (s.rxShare < fr.level + fr.bytes)
  if !s.partValid p || !s.module.hostUp then .next s
  else if full && !s.epPfc p then .next (s.bump 0x0700_0028 63 0 fr.bytes)
  else
    let s0 := if s.epPfc p then s.setFull p full else s
    let s1 := s0.bump 0x0700_0028 63 0 fr.bytes
    let s2 := s1.bump (epBase p + epRX) 63 0 fr.bytes
    match fr.kind with
    | .badFcs => .next ((s1.bump 0x0700_0018 63 0 1).hostDiscard p)
    | .wrongAddress => .next (s1.hostDiscard p)
    | .ipv4 | .extensionHeader | .wrongPort | .badChecksum => .next (s2.hostDiscard p)
    | .neighbourSolicitation _ l => .next (if s2.addrAnswers p l then s2.hostSend p (.neighbour false (s2.epAddr p l)) else s2)
    | .echo _ l => .next (if s2.addrAnswers p l && !s2.partConfidential p then s2.hostSend p (.echo (s2.epAddr p l)) else s2)
    | .huaza src payload tagOk =>
      let (type, h) := parseHuaza src tagOk payload
      done s (if hostTypes.contains type then s2 else s1.hzBadType p type h)
    | .pfc paused =>
      let n := ((upTo 6).map (fun q => (s1.endpoint q).queued.length)).sum
      .next (State.drainEgress n { s1 with port := { s1.port with paused := paused } })

/-- The state of one of an endpoint's addresses. -/
def State.addrState (s : State) (p : Nat) (onLocal : Bool) : AddrState := if onLocal then (s.endpoint p).linkLocal else (s.endpoint p).addr
def State.setAddr (s : State) (p : Nat) (onLocal : Bool) (a : AddrState) : State :=
  s.setEndpoint p (if onLocal then { s.endpoint p with linkLocal := a } else { s.endpoint p with addr := a })

/-- Duplicate address detection starts for an address: one Neighbour Solicitation. -/
def State.startDad (s : State) (p : Nat) (onLocal : Bool) : State :=
  if s.addrState p onLocal = .duplicate then s else (s.setAddr p onLocal .tentative).hostSend p (.neighbour true (s.epAddr p onLocal))

/-- HOST_LINK_UP (R313): the module is ready, and each endpoint starts duplicate address detection for each of its addresses that is not DUPLICATE. -/
def execHostLinkUp (s : State) : Out := powered s <|
  if s.module.hostUp || s.module.starting then .next s
  else
    let s1 := { s with module := { s.module with hostUp := true } }.wf 0x0700_0000 9 8 2
    .next (forEach s1.validParts s1 (fun s p => forEach [0, 1] s (fun s i => s.startDad p (i == 1))))

/-- DAD_TIMER (R313): 1 s after UP, or a conflicting answer before, for an endpoint's address or its link-local address. -/
def execDadTimer (p : PartId) (x : DadEnd) (s : State) : Out := powered s <|
  if s.addrState p x.onLocal ≠ .tentative || !s.module.hostUp then .next s
  else if x.conflict then done s ((s.setAddr p x.onLocal .duplicate).raise (hostEvent p evAddressDuplicate 0 0 0))
  else .next (s.setAddr p x.onLocal .preferred)

/-- HOST_LINK_DOWN (R313): what waits to leave is lost with the link, and no priority is paused; after READY the entry is counted and HOST_PORT_DOWN is raised. -/
def execHostLinkDown (s : State) : Out := powered s <|
  if !s.module.hostUp then .next s
  else
    let s0 := forEach s.validParts { s with port := { s.port with paused := 0 } } (fun s p => s.setEndpoint p { s.endpoint p with queued := [], full := false })
    let s1 := { s0 with module := { s0.module with hostUp := false } }
    done s (if s.inStartup then s1 else (s1.bump 0x0700_0020 63 0 1).raise { code := evHostPortDown, part := 6 })

/-! ### VERSION (R267, R318) -/

/-- The Gyward advertises Huaza 1.0 to 1.1, with CONFIDENTIAL and, from 1.1, EVENT_BATCH: the version chosen and the features. -/
def chooseHuaza (a : Advertise) : Option (Nat × Nat) :=
  let lo := a.minMajor.toNat * 256 + a.minMinor.toNat
  let hi := a.maxMajor.toNat * 256 + a.maxMinor.toNat
  let v := min hi 0x101
  if lo ≤ v && 0x100 ≤ v then some (v, nbits a.features.toNat 0 0 + (if v = 0x101 then nbits a.features.toNat 1 1 * 2 else 0)) else none

/-- VERSION (R318): never sealed, SESSION 0; the version applies to the sessions that the source then opens. It is answered while the partition is dressed (R331). -/
def execVersionReq (p : PartId) (h : HzHead) (adv : Advertise) (s : State) : Out := powered s <|
  if !s.answers p then .next s
  else
    let s0 := s.hostRecv p
    if (s0.source p h.src).blocked then .next (s0.hostDiscard p)
    else if h.bodyLen ≠ 8 then done s (s0.answerOutside p 1 h hzBADLENGTH)
    else if h.reserved || h.sealedMsg || h.session ≠ 0 then done s (s0.answerOutside p 1 h hzRESERVED)
    else match chooseHuaza adv with
      | none => done s (s0.answerOutside p 1 h hzVERSION)
      | some (v, m) =>
        if s0.partConfidential p && m % 2 = 0 then done s (s0.answerOutside p 1 h hzCONFIDENTIAL)
        else
          let body := toBytes 1 (v / 256) ++ toBytes 1 v ++ toBytes 1 (v / 256) ++ toBytes 1 v ++ toBytes 4 m
          .next ((s0.setSource p { s0.source p h.src with version := some v, features := m }).hostSend p (.response 1 h.seq 0 hzOK body v none))

/-! ### SPDM and sessions (R319, R395, R400, R401) -/

/-- Measurement block `n` of a partition (R401). -/
def State.measurement (s : State) (p n : Nat) : List Byte :=
  let cfg := (s.cfg.map (fun e => toBytes 8 e.1 ++ [e.2])).flatten
  match n with
  | 1 => toBytes 48 (Config.measure 1 []).toNat
  | 2 => toBytes 48 (Config.measure 2 []).toNat
  | 3 => toBytes 48 (Config.measure 3 cfg).toNat
  | 4 => toBytes 48 (Config.measure 4 ((upTo 256).map (fun i => BitVec.ofNat 8 (s.cfgB (cfgPart p + i))))).toNat
  | 5 => toBytes 48 (Config.measure 5
      ((s.module.retired.map (fun (r, b, c, n) => toBytes 1 r ++ toBytes 1 b ++ toBytes 1 c ++ toBytes 8 n)).flatten
        ++ (s.partRegions p).map (fun r => BitVec.ofNat 8 (s.module.spare.get 12 r)))).toNat
  | 6 => toBytes 1 (b2n s.module.guestSite) ++ toBytes 1 (s.leat guestPort).st.code ++ toBytes 1 (b2n (decide (s.guestPart = some p)))
      ++ toBytes 1 s.weir.verMajor ++ toBytes 1 s.weir.verMinor ++ toBytes 4 s.weir.features
      ++ toBytes 48 (Config.sha384 ((upTo 16).map (fun w => toBytes 8 (s.weirView (0x40 + 0x10 * w)) ++ toBytes 8 (s.weirView (0x48 + 0x10 * w)))).flatten).toNat
  | 7 => toBytes 4 s.module.fusedSvn ++ toBytes 4 s.module.imageSvn
  | 8 => toBytes 8 (s.rd (secBase p + 0x18)).toNat ++ toBytes 8 (s.rd (secBase p + 0x20)).toNat
      ++ toBytes 1 (b2n (s.partSecure p) + 2 * b2n (s.partConfidential p))
  | _ => []

/-- Sessions open or in their handshake: an endpoint holds at most eight (R319). -/
def State.sessionsHeld (s : State) (p : Nat) : Nat :=
  ((upTo 8).filter (fun i => (s.session p i).isSome)).length + ((s.endpoint p).sources.filter (fun x => x.handshake)).length

/-- An SPDM message leaves, under the version chosen for its source (R318). -/
def State.spdmSend (s : State) (p : Nat) (h : HzHead) (session : Nat) (err : Option SpdmError) (body : List Byte) : State :=
  let (v, s1) := s.versionOutside p h.src
  s1.hostSend p (.spdm h.seq session err body v)

/-- FINISH (R319): a session with a new ID, not zero, and its keys, or the failure of the handshake. What the exchange of ephemeral keys gives is a free value (log 3). -/
def State.spdmFinish (s : State) (p : Nat) (h : HzHead) (chainOk : Bool) : State :=
  let x := s.source p h.src
  if !x.handshake then s.spdmSend p h 0 (some .unsupportedRequest) []
  else
    let s1 := s.setSource p { x with handshake := false }
    match (upTo 8).find? (fun i => (s1.session p i).isNone) with
    | some slot =>
      if chainOk then
        let (v, s2) := s1.fresh
        let e := s2.endpoint p
        let id := e.nextSession
        let s3 := s2.setEndpoint p { e with nextSession := id % (2 ^ 32 - 1) + 1 }
        let y : Session := { id := id, src := h.src, version := x.version.getD 0x100, features := x.features }
        (s3.setSession p slot (some (y.keyed v))).spdmSend p h id none []
      else ((s1.raise (hostEvent p evSessionAuthFail 0 0 0)).spdmSend p h 0 (some .handshakeFailed) []).hostViolation p 0x43 2 0 h.src
    | none => s1.spdmSend p h 0 (some .busy) []

/-- An SPDM message at an endpoint that is not being dressed (R319, R395, R400). -/
def State.spdmMsg (s : State) (p : Nat) (h : HzHead) (msg : SpdmMsg) : State :=
  match msg with
  | .query => s.spdmSend p h 0 none []
  | .measurement n => s.spdmSend p h 0 none (s.measurement p n.val)
  | .unsupported => s.spdmSend p h 0 (some .unsupportedRequest) []
  | .keyExchange =>
    if 8 ≤ s.sessionsHeld p then s.spdmSend p h 0 (some .busy) []
    else if s.module.trngFault then s.spdmSend p h 0 (some .unspecified) []
    else (s.setSource p { s.source p h.src with handshake := true }).spdmSend p h 0 none []
  | .finish ok => s.spdmFinish p h ok

/-- SPDM (R319): never sealed, SESSION 0. -/
def execSpdm (p : PartId) (h : HzHead) (msg : SpdmMsg) (s : State) : Out := powered s <|
  if !s.answers p then .next s
  else
    let s0 := s.hostRecv p
    if (s0.source p h.src).blocked then .next (s0.hostDiscard p)
    else if (s0.part p).st = .dressing then .next (s0.spdmSend p h 0 (some .busy) [])
    else if (s0.source p h.src).version ≠ some h.version then done s (s0.answerOutside p 2 h hzVERSION)
    else if h.bodyLen = 0 || 4096 < h.bodyLen.toNat then done s (s0.answerOutside p 2 h hzBADLENGTH)
    else if h.reserved || h.sealedMsg || h.session ≠ 0 then done s (s0.answerOutside p 2 h hzRESERVED)
    else done s (s0.spdmMsg p h msg)

/-- HEARTBEAT (R316). -/
def execHeartbeat (p : PartId) (h : HzHead) (s : State) : Out := powered s <| done s (s.hzRequest p 3 0 h (fun s _ _ => .now hzOK [] s))

/-- CLOSE (R316, R319): answered, and the session then ends. -/
def execCloseSession (p : PartId) (h : HzHead) (s : State) : Out := powered s <|
  done s (s.hzRequest p 4 0 h (fun s slot _ => .later ((s.answer p slot 4 h.src h.seq hzOK []).endSession p slot)))

/-- SESSION_IDLE_TIMEOUT (R319): 60 s without a message that passes its tag. -/
def execSessionIdleTimeout (p : PartId) (slot : Fin 8) (s : State) : Out := powered s <| .next (s.endSession p slot.val)

/-- SOURCE_BLOCK_EXPIRE (R332). -/
def execSourceBlockExpire (p : PartId) (src : BitVec 128) (s : State) : Out := powered s <|
  .next (if (s.source p src).blocked then s.setSource p { s.source p src with blocked := false } else s)

/-! ### REG_READ and REG_WRITE (R321) -/

/-- Whether `n` registers from a device address on may be accessed (R32, R321). -/
def State.regsOk (s : State) (p : Nat) (a : Word64) (n : Nat) : Bool :=
  fld a 63 57 == 0 && fld a 56 52 == 5 && a.toNat % 8 == 0 && decide (fld a 51 0 + 8 * n ≤ 2 ^ 52)
    && (upTo n).all (fun i => s.regReach p (fld a 51 0 + 8 * i))

/-- The values of `n` registers from an offset on, read in ascending order. -/
def State.readRegs (s : State) (p off : Nat) : Nat → List Byte × State
  | 0 => ([], s)
  | n + 1 =>
    let (v, s1) := s.regRead p off
    let (bs, s2) := State.readRegs s1 p (off + 8) n
    (toBytes 8 v.toNat ++ bs, s2)

/-- REG_READ (R321); a register of a lost region answers poison (R24, R234). -/
def execRegRead (p : PartId) (h : HzHead) (addr : Word64) (count : BitVec 32) (s : State) : Out := powered s <|
  done s (s.hzRequest p 0x10 16 h (fun s _ _ =>
    let n := count.toNat
    let off := fld addr 51 0
    if n = 0 || 64 < n then .now hzBADLENGTH [] s
    else if !s.regsOk p addr n then .now hzADDRFAULT [] s
    else if (upTo n).any (fun i => s.regLost (off + 8 * i)) then .now hzPOISONED [] s
    else let (bs, s1) := s.readRegs p off n; .now hzOK bs s1))

/-- Write registers in ascending order, each word with its journal entry; the events of one word precede those of the next. -/
def State.writeRegs (s : State) (p off slot : Nat) : List Word64 → State
  | [] => s
  | v :: vs => State.writeRegs ((settle s (s.regWrite p off v)).journalAdd p (5 * 2 ^ 52 + off) v slot 0x11) p (off + 8) slot vs

/-- REG_WRITE (R321): a region that is lost takes no write and answers BUSY (R266). -/
def execRegWrite (p : PartId) (h : HzHead) (addr : Word64) (vals : List Word64) (s : State) : Out := powered s <|
  .next (s.hzRequest p 0x11 (16 + 8 * vals.length) h (fun s slot _ =>
    let n := vals.length
    let off := fld addr 51 0
    if n = 0 || 64 < n then .now hzBADLENGTH [] s
    else if !s.regsOk p addr n then .now hzADDRFAULT [] s
    else if (upTo n).any (fun i => s.regLost (off + 8 * i)) then .now hzBUSY [] s
    else .now hzOK [] (s.writeRegs p off slot vals)))

/-! ### MEM_READ and MEM_WRITE (R321) -/

/-- Bytes of space 4 from an offset on, counter by counter (R192); none where an offset is not populated or not reached. -/
def State.ctrBytesAt (s : State) (p off : Nat) : Nat → Option (List PByte)
  | 0 => some []
  | n + 1 => match s.ctrKey p off, State.ctrBytesAt s p (off + 1) n with
    | some k, some bs => some (((toBytes 8 (s.ctrVisible k).toNat).getD (off % 8) 0, s.ctrLost k) :: bs)
    | _, _ => none

/-- What a MEM_READ answers. -/
def State.memReadAns (s : State) (p : Nat) (addr : Word64) (n : Nat) : HzAns :=
  let give (bs : List PByte) (s : State) : HzAns :=
    if bs.any (fun b => b.2) then .now hzPOISONED [] s else .now hzOK (bs.map (fun b => b.1)) s
  if n = 0 || 4096 < n then .now hzBADLENGTH [] s
  else if fld addr 63 57 ≠ 0 then .now hzADDRFAULT [] s
  else match s.locate { part := p, dump := true } false addr.toNat n with
    | .mem k => let (bs, s1) := s.loadPB k n; give bs s1
    | .ctr off => (match s.ctrBytesAt p off n with
      | some bs => give bs s
      | none => .now hzADDRFAULT [] s)
    | _ => .now hzADDRFAULT [] s

/-- MEM_READ (R321). -/
def execMemRead (p : PartId) (h : HzHead) (addr : Word64) (len : BitVec 32) (s : State) : Out := powered s <|
  match (if s.hzReaches p h then s.waitsOn { part := p, dump := true } false addr.toNat len.toNat else none) with
  | some d => .next (s.hold d (.cmd (.memRead p h addr len)))
  | none => done s ((s.unhold (.cmd (.memRead p h addr len))).hzRequest p 0x12 16 h (fun s _ _ => s.memReadAns p addr len.toNat))

/-- MEM_WRITE (R321); bytes of a lost region are not performed, and the request answers BUSY (log 17). -/
def execMemWrite (p : PartId) (h : HzHead) (addr : Word64) (data : List Byte) (s : State) : Out := powered s <|
  match (if s.hzReaches p h then s.waitsOn { part := p } true addr.toNat data.length else none) with
  | some d => .next (s.hold d (.cmd (.memWrite p h addr data)))
  | none => done s ((s.unhold (.cmd (.memWrite p h addr data))).hzRequest p 0x13 (16 + data.length) h (fun s _ _ =>
    if data.length = 0 || 4096 < data.length then .now hzBADLENGTH [] s
    else if fld addr 63 57 ≠ 0 then .now hzADDRFAULT [] s
    else match s.locate { part := p } true addr.toNat data.length with
      | .mem k => if s.runLost k data.length then .now hzBUSY [] s else .now hzOK [] (s.storePB k (data.map (fun b => (b, false))))
      | _ => .now hzADDRFAULT [] s))

/-! ### INCR (R209, R322) -/

/-- INCR: its signal leaves for the counter, and the response comes once the counter has applied or refused it. -/
def execIncr (p : PartId) (h : HzHead) (offset : BitVec 32) (job : BitVec 16) (amount : Word64) (s : State) : Out := powered s <|
  done s (s.hzRequest p 0x20 16 h (fun s slot x =>
    if offset.toNat % 8 ≠ 0 || (s.ctrKey p offset.toNat).isNone then .now hzADDRFAULT [] s
    else .later ((s.setSession p slot (some { x with inExec := x.inExec ++ [(h.seq, 0)] })).signal
      { part := p, offset := offset.toNat, amount := amount, job := job.toNat, src := .host h.seq x.id })))

/-- The status that answers an INCR. -/
def incrStatus : SyncStatus → Nat
  | .ok => hzOK
  | .owner => hzOWNER
  | .abandoned => hzABANDONED
  | .lost => hzBUSY
  | _ => hzADDRFAULT

/-- An INCR's signal has been judged: its response leaves, if its session is still open. -/
def State.incrAnswer (s : State) (p : Nat) (seq : Word64) (session : Nat) (st : SyncStatus) : State :=
  match s.sessSlot p session with
  | none => s
  | some slot => match s.session p slot with
    | none => s
    | some x => s.answer p slot 0x20 x.src seq (incrStatus st) []

/-- A signal on its way is judged against the owner (R191); a SIG then completes (R201, R205), and an INCR is answered (R322). -/
def execCounterSignalApply (i : Nat) (s : State) : Out := powered s <|
  match s.signals[i]? with
  | none => .next s
  | some g =>
    let (st, s1) := State.landSignal { s with signals := dropAt s.signals i } g
    done s (match g.src with
      | .cell c q => s1.syncEnd c (fun y => y.cmd.seq == q && y.ph == .flying) st
      | .host q id => s1.incrAnswer g.part q id st
      | _ => s1)

/-! ### Events (R323) -/

/-- SUBSCRIBE: the level mask and the next index; records that FROM names and that are overwritten count in GAP as far as the mask selects them. -/
def execSubscribe (p : PartId) (h : HzHead) (levels : BitVec 16) (frm : Word64) (s : State) : Out := powered s <|
  done s ((s.hzRequest p 0x30 16 h (fun s slot x =>
    let old := (s.endpoint p).overwritten
    let gone := ((old.drop frm.toNat).filter (fun n => bit levels n)).length
    .now hzOK (toBytes 8 (s.eventNext p)) (s.setSession p slot (some { x with levels := levels.toNat, nextIdx := max frm.toNat old.length, gap := gone })))).sendEvents p)

/-- EVENT_ACK (R323): the host's response to the EVENT that is outstanding. An EVENT that the host sends without RESPONSE is of a type that it may not send (R316). -/
def execEventAck (p : PartId) (h : HzHead) (s : State) : Out := powered s <|
  if !s.answers p then .next s
  else if !h.response then done s (s.hzBadType p 0x31 h)
  else
    let s0 := s.hostRecv p
    if (s0.source p h.src).blocked then .next (s0.hostDiscard p)
    else match s0.sessSlot p h.session.toNat with
      | none => .next s0
      | some slot =>
        if !h.tagOk || !h.sealedMsg then done s (s0.tagFailure p slot 0x31 h.src)
        else match s0.session p slot with
          | none => .next s0
          | some x =>
            if x.outEvent.any (fun m => m.seq == h.seq.toNat) then .next ((s0.setSession p slot (some { x with outEvent := none })).sendEvents p)
            else .next s0

/-- EVENT_RESEND (R323): byte for byte, every 10 ms. -/
def execEventResend (p : PartId) (slot : Fin 8) (s : State) : Out := powered s <|
  match s.session p slot.val with
  | none => .next s
  | some x => match x.outEvent with
    | none => .next s
    | some m => .next (s.hostSend p (x.eventOut m))

/-- JOURNAL_READ (R321). -/
def execJournalRead (p : PartId) (h : HzHead) (index : Word64) (count : BitVec 16) (s : State) : Out := powered s <|
  done s (s.hzRequest p 0x40 16 h (fun s _ _ =>
    let n := count.toNat
    let i := index.toNat
    let next := s.journalNext p
    if n = 0 || 64 < n then .now hzBADLENGTH [] s
    else if i + 4096 < next then .now hzGONE [] s
    else if next < i + n then .now hzRANGE [] s
    else .now hzOK (((s.endpoint p).journal.filter (fun e => decide (i ≤ e.1) && decide (e.1 < i + n))).map (fun e => journalBytes e.1 e.2)).flatten s))

/-! ### Memory regions and queue pairs (R326, R327, R329) -/

/-- MR_REG (R326): a region of 4 KiB multiples in space 0 or 2, sealed exactly in confidential host mode; its RKEY's upper bits are free (log 2). -/
def execMrReg (p : PartId) (h : HzHead) (base len : Word64) (rights sealedMr : Byte) (s : State) : Out := powered s <|
  done s (s.hzRequest p 0x50 24 h (fun s slot x =>
    let b := base.toNat
    let n := len.toNat
    let sp := fld base 63 52
    if 3 < rights.toNat || 1 < sealedMr.toNat then .now hzRESERVED [] s
    else if (sealedMr == 1) != s.partConfidential p then .now hzCONFIDENTIAL [] s
    else if b % 4096 ≠ 0 || n % 4096 ≠ 0 || (sp ≠ 0 && sp ≠ 2) then .now hzADDRFAULT [] s
    else match s.locate { part := p } true b n with
      | .mem _ =>
        (match (upTo 64).find? (fun i => ((s.endpoint p).mrs.get none i).isNone) with
        | none => .now hzLIMIT [] s
        | some i =>
          if s.module.trngFault then .now hzLIMIT [] s
          else
            let (v, s1) := s.fresh
            let key : BitVec 32 := BitVec.ofNat 32 (i + 2 ^ 8 * fld v 23 0)
            let e := s1.endpoint p
            let m : MemRegion := { rkey := key, base := b, length := n, rights := rights.toNat, sealedMr := sealedMr == 1, session := x.id }
            .now hzOK (toBytes 4 key.toNat ++ toBytes 4 0) ((s1.setEndpoint p { e with mrs := e.mrs.put none i (some m) }).journalAdd p key.toNat base slot 0x50))
      | _ => .now hzADDRFAULT [] s))

/-- The region that an RKEY names. -/
def State.findMr (s : State) (p : Nat) (rkey : BitVec 32) : Option MemRegion :=
  if 64 ≤ rkey.toNat % 256 then none
  else match (s.endpoint p).mrs.get none (rkey.toNat % 256) with
    | some m => if m.rkey = rkey then some m else none
    | none => none

/-- MR_DEREG (R326). -/
def execMrDereg (p : PartId) (h : HzHead) (rkey : BitVec 32) (s : State) : Out := powered s <|
  done s (s.hzRequest p 0x51 8 h (fun s slot x =>
    match s.findMr p rkey with
    | none => .now hzUNKNOWNKEY [] s
    | some m =>
      if m.session ≠ x.id then .now hzUNKNOWNKEY [] s
      else
        let e := s.endpoint p
        .now hzOK [] ((s.setEndpoint p { e with mrs := e.mrs.put none (rkey.toNat % 256) none }).journalAdd p rkey.toNat 0 slot 0x51)))

def State.qp (s : State) (p n : Nat) : Qp := (s.endpoint p).qps.get {} n
def State.setQp (s : State) (p n : Nat) (q : Qp) : State :=
  let e := s.endpoint p
  s.setEndpoint p { e with qps := e.qps.put {} n q }

/-- A queue pair set to RTS or returned to RESET (R327), or the status that refuses it; the counter of the last unit accepted on it stays (R330). -/
def setQpTo (old : Qp) (session : Nat) (r : QpRec) : Except Nat Qp :=
  if old.session ≠ 0 && old.session ≠ session then .error hzUNKNOWNKEY
  else if 1 < r.state.toNat || 2 ^ 24 ≤ r.dest.toNat || 2 ^ 24 ≤ r.psn.toNat then .error hzRESERVED
  else if r.state = 0 then .ok { session := old.session, lastCtr := old.lastCtr }
  else if r.mtu ≠ 3 && r.mtu ≠ 5 then .error hzRESERVED
  else if r.maxRd = 0 || 64 < r.maxRd.toNat then .error hzBADLENGTH
  else if old.st ≠ .reset then .error hzLIMIT
  else .ok { st := .rts, dest := r.dest.toNat, psn := r.psn.toNat, mtu := r.mtu.toNat, maxRd := r.maxRd.toNat, gid := r.gid, session := session, lastCtr := old.lastCtr }

/-- QP_SET (R327). -/
def execQpSet (p : PartId) (h : HzHead) (q : QpRec) (s : State) : Out := powered s <|
  done s (s.hzRequest p 0x52 32 h (fun s slot x =>
    let n := q.qpn.toNat
    if n < 0x100 || 0x13F < n then .now hzUNKNOWNKEY [] s
    else match setQpTo (s.qp p n) x.id q with
      | .error st => .now st [] s
      | .ok y => .now hzOK [] ((s.setQp p n y).journalAdd p n (BitVec.ofNat 64 q.state.toNat) slot 0x52)))

/-- The record of a queue pair (R327), PSN being the next expected one. -/
def Qp.record (q : Qp) (n : Nat) : List Byte :=
  toBytes 4 n ++ toBytes 4 q.dest ++ toBytes 4 q.psn ++ toBytes 1 q.st.code ++ toBytes 1 q.mtu ++ toBytes 1 q.maxRd ++ toBytes 1 0 ++ toBytes 16 q.gid.toNat

/-- QP_QUERY (R316, R327). -/
def execQpQuery (p : PartId) (h : HzHead) (qpn : BitVec 32) (s : State) : Out := powered s <|
  done s (s.hzRequest p 0x53 8 h (fun s _ x =>
    let q := s.qp p qpn.toNat
    if qpn.toNat < 0x100 || 0x13F < qpn.toNat || q.session ≠ x.id then .now hzUNKNOWNKEY [] s
    else .now hzOK (q.record qpn.toNat) s))

end Sys2Proof.Machine
end

