-- ==== Sys2Proof/Machine/Held.lean ====
section
/-! DEFINITION. HELD_ACCESS_PROCEED (R35, R113): what was held on a busy set is performed once the set is free. -/

namespace Sys2Proof.Machine

/-- A held access of a cell's core is tried again. -/
def State.coreProceed (s : State) (c : Nat) (q : Word64) : State :=
  match findIdx (fun t : StReq => t.seq == q) (s.cell c).sts with
  | some j => s.stTry c j
  | none => if (s.cell c).ld.any (fun l => l.seq == q) then s.ldTry c .ok else s

/-- A held access is tried again. -/
def HeldBy.proceed (who : HeldBy) (s : State) : Out :=
  match who with
  | .core c q => done s (s.coreProceed c q)
  | .fetch c => if h : c < 576 then
      (match (s.cell c).fetches with
      | f :: _ => if f.launch then execLaunchFetchWord ⟨c, h⟩ .ok s else execHfetchWordArrive ⟨c, h⟩ .ok s
      | [] => .next s) else .next s
  | .desc b ch q => if h : b < 144 ∧ ch < 16 then
      (match s.slotOf b ch q with
      | some (i, d) => if hi : i < 4 then
          (if d.ph = .stamping then execStampHeaderWrite ⟨b, h.1⟩ ⟨ch, h.2⟩ ⟨i, hi⟩ s
          else if d.readsHeader && !d.headerOk then execShardHeaderRead ⟨b, h.1⟩ ⟨ch, h.2⟩ ⟨i, hi⟩ s
          else if d.op = 6 then execHeadraceInject ⟨b, h.1⟩ ⟨ch, h.2⟩ ⟨i, hi⟩ 1024 s
          else execDescriptorComplete ⟨b, h.1⟩ ⟨ch, h.2⟩ ⟨i, hi⟩ s) else .next s
      | none => .next s) else .next s
  | .cmd (.msgWrite m) => execMsgWrite m s
  | .cmd (.msgReadReq m) => execMsgReadReq m s
  | .cmd (.memRead p h addr len) => execMemRead p h addr len s
  | .cmd (.memWrite p h addr data) => execMemWrite p h addr data s
  | .cmd _ => .next s

/-- HELD_ACCESS_PROCEED (R113): access `i` of those held on sets of cell `c` is performed when the busy time has ended, and is held no longer; one whose requester has gone is
forgotten. -/
def execHeldAccessProceed (c : CellId) (i : Nat) (s : State) : Out := powered s <|
  match (s.held.filter (fun h => h.cell == c.val))[i]? with
  | none => .next s
  | some h => if s.heldAlive h then h.who.proceed s else .next (s.unhold h.who)

end Sys2Proof.Machine
end

