-- ==== Sys2Proof/Machine/Rdma.lean ====
section
/-! DEFINITION. RoCEv2 requests at a host endpoint (R325 to R332): RDMA WRITE and RDMA READ, sealed units, and NAKs. -/

namespace Sys2Proof.Machine

/-! ### NAKs (R328, R330, R332) -/

/-- The NAKs the spec names, by their RoCEv2 syndrome code (PRESUMED, log 33). -/
def nakInvalid : Nat := 1
def nakAccess : Nat := 2
def nakOperational : Nat := 3

/-- The opcodes that are accepted: RDMA WRITE First, Middle, Last and Only, and RDMA READ Request (R325; their numbers are RoCEv2's, PRESUMED, log 33). -/
def opFIRST : Nat := 0x06
def opMIDDLE : Nat := 0x07
def opLAST : Nat := 0x08
def opONLY : Nat := 0x0A
def opREAD : Nat := 0x0C
/-- A congestion notification packet. -/
def opCNP : Nat := 0x81

/-- A NAK leaves, and the queue pair goes to ERROR (R327, R328, R332). -/
def State.sendNak (s : State) (p : Nat) (k : RdmaPkt) (code : Nat) : State :=
  (s.setQp p k.qpn.toNat { s.qp p k.qpn.toNat with st := .error, left := 0, part := [] }).hostSend p (.nak k.qpn.toNat k.psn.toNat code)

/-- A NAK of R328 or R330: counted, and a violation of its source. -/
def State.rdmaNak (s : State) (p : Nat) (k : RdmaPkt) (code : Nat) : State :=
  ((s.sendNak p k code).bump (epBase p + epNAKS) 63 0 1).hostViolation p 0x44 k.opcode.toNat 0 k.src

/-- A malformed or unsupported packet (R332). -/
def State.rdmaBad (s : State) (p : Nat) (k : RdmaPkt) : State := (s.sendNak p k nakInvalid).hostViolation p 0x45 k.opcode.toNat 0 k.src

/-- The path MTU of a queue pair in bytes (R325, R327). -/
def Qp.mtuBytes (q : Qp) : Nat := if q.mtu = 3 then 1024 else 4096

/-- Packets of one queue pair are handled in PSN order (R328): the next one, one handled before, or one that comes too early. -/
inductive PsnOrder where
  | next | duplicate | early
deriving DecidableEq, Repr

def Qp.order (q : Qp) (psn : Nat) : PsnOrder :=
  if psn = q.psn then .next else if (q.psn + 2 ^ 24 - psn) % 2 ^ 24 ≤ 2 ^ 23 then .duplicate else .early

/-- A packet with ECN-CE on a queue pair is answered with a CNP, at most one per 50 µs (R325). -/
def State.sendCnp (s : State) (p n : Nat) : State :=
  let (tell, s1) := s.rateOk (s.qp p n).cnp
  if tell then (s1.setQp p n { s1.qp p n with cnp := true }).hostSend p (.cnp n) else s1

/-- What stands before a request on its queue pair (R325, R328, R331, R332); an error: the packet is dealt with. A CNP is ignored. While its partition is dressed an endpoint's queue pairs stay
in RESET (R331). -/
def State.rdmaFront (s : State) (p : Nat) (k : RdmaPkt) (opcodes : List Nat) : Except State State :=
  if !s.answers p then .error s
  else
    let s0 := s.hostRecv p
    let n := k.qpn.toNat
    if (s0.source p k.src).blocked then .error (s0.hostDiscard p)
    else if n < 0x100 || 0x13F < n || k.opcode.toNat = opCNP then .error s0
    else if (s0.part p).st = .dressing then .error (s0.hostSend p (.nak n k.psn.toNat nakOperational))
    else if k.malformed || !opcodes.contains k.opcode.toNat then .error (s0.rdmaBad p k)
    else
      let q := s0.qp p n
      if q.st ≠ .rts then .error (s0.rdmaNak p k nakOperational)
      else if q.gid ≠ k.src then .error s0
      else .ok (if k.ecn then s0.sendCnp p n else s0)

/-- Whether a request of `len` bytes at `va` lies in a region: a sealed one is addressed in sealed bytes (R328, R330). -/
def MemRegion.covers (m : MemRegion) (va len : Nat) : Bool :=
  if m.sealedMr then decide (va + len ≤ m.length / 4096 * 4120) else decide (m.base ≤ va) && decide (va + len ≤ m.base + m.length)

/-- The NAK that refuses a request's region, if any (R328 to R330): `bit` 0 asks for READ, 1 for WRITE. -/
def State.rdmaRefuse (s : State) (p : Nat) (rkey : BitVec 32) (va len right : Nat) : Except Nat MemRegion :=
  match s.findMr p rkey with
  | none => .error nakAccess
  | some m =>
    if nbits m.rights right right ≠ 1 || !m.covers va len then .error nakAccess
    else if m.sealedMr && (va % 4120 != 0 || len % 4120 != 0) then .error nakOperational
    else .ok m

/-! ### RDMA WRITE -/

/-- The memory key of a region's byte. -/
def State.mrKey (s : State) (p a : Nat) : Nat := match s.locate { part := p } true a 0 with
  | .mem k => k
  | _ => memKey0 p a

/-- A payload of a region that is not sealed is written, unless its memory is lost, which is answered as poison is (log 17); sealed bytes gather until a unit is complete, which is checked before any byte of it is written (R330). -/
def State.rdmaPut (s : State) (p : Nat) (m : MemRegion) (q : Qp) (k : RdmaPkt) : Except Nat (Qp × State) :=
  if !m.sealedMr then
    if s.runLost (s.mrKey p q.va) k.data.length then .error nakOperational
    else .ok ({ q with va := q.va + k.data.length }, s.storePB (s.mrKey p q.va) (k.data.map (fun b => (b, false))))
  else
    let bytes := q.part ++ k.data
    if bytes.length < 4120 then .ok ({ q with part := bytes, va := q.va + k.data.length }, s)
    else
      let u := bytes.take 4120
      let ctr := ofBytes (u.take 8)
      let a := m.base + (q.va + k.data.length - bytes.length) / 4120 * 4096
      if !k.unitOk || q.lastCtr.any (fun c => decide (ctr ≤ c)) || s.runLost (s.mrKey p a) 4096 then .error nakOperational
      else
        let x := (s.sessSlot p q.session).bind (fun slot => s.session p slot)
        let plain := padTo 4096 (openUnit ((x.map (fun x => x.rxBulk)).getD 0) ((x.map (fun x => x.rxBulkSalt)).getD 0) u)
        .ok ({ q with part := bytes.drop 4120, va := q.va + k.data.length, lastCtr := some ctr }, s.storePB (s.mrKey p a) (plain.map (fun b => (b, false))))

/-- Whether a packet's place in its message and its payload's length fit (RoCEv2, PRESUMED, log 33): a First or Only opens a message, and every packet but the last is full. -/
def Qp.fits (q : Qp) (k : RdmaPkt) : Bool :=
  let op := k.opcode.toNat
  let n := k.data.length
  if op = opFIRST then q.left == 0 && n == q.mtuBytes && decide (n < k.len.toNat)
  else if op = opONLY then q.left == 0 && n == k.len.toNat && decide (n ≤ q.mtuBytes)
  else if op = opMIDDLE then n == q.mtuBytes && decide (n < q.left)
  else q.left != 0 && n == q.left && decide (n ≤ q.mtuBytes)

/-- One in-order packet of a WRITE: its bytes are written, and the message is acknowledged when its last byte is performed (R328). -/
def State.rdmaWriteNext (s : State) (p : Nat) (q : Qp) (k : RdmaPkt) : State :=
  if !q.fits k then s.rdmaBad p k
  else
    let op := k.opcode.toNat
    let opens := op = opFIRST || op = opONLY
    let q0 := if opens then { q with rkey := k.rkey, va := k.va.toNat, left := k.len.toNat, part := [] } else q
    match s.rdmaRefuse p q0.rkey (if opens then q0.va else q0.va - q0.part.length) (if opens then q0.left else q0.left + q0.part.length) 1 with
    | .error code => s.rdmaNak p k code
    | .ok m =>
      match s.rdmaPut p m q0 k with
      | .error code => s.rdmaNak p k code
      | .ok (q1, s1) =>
        let q2 := { q1 with left := q0.left - k.data.length, psn := (q.psn + 1) % 2 ^ 24 }
        let s2 := s1.setQp p k.qpn.toNat q2
        if op = opLAST || op = opONLY then s2.hostSend p (.ack k.qpn.toNat k.psn.toNat) else s2

/-- RDMA_WRITE (R325, R328, R330): a duplicate is acknowledged and not written again; a packet that comes too early is not handled. -/
def execRdmaWrite (p : PartId) (k : RdmaPkt) (s : State) : Out := powered s <|
  done s (match s.rdmaFront p k [opFIRST, opMIDDLE, opLAST, opONLY] with
  | .error s1 => s1
  | .ok s0 =>
    let q := s0.qp p k.qpn.toNat
    match q.order k.psn.toNat with
    | .next => s0.rdmaWriteNext p q k
    | .duplicate => s0.hostSend p (.ack k.qpn.toNat k.psn.toNat)
    | .early => s0)

/-! ### RDMA READ -/

/-- The wire bytes of sealed units from a unit on, each sealed with a fresh counter of the session; a unit that holds poison is marked whole (R330). -/
def State.sealRun (s : State) (p slot : Nat) (m : MemRegion) : Nat → Nat → List PByte × State
  | _, 0 => ([], s)
  | u, n + 1 =>
    let a := m.base + 4096 * u
    let (bs, s1) := s.loadPB (s.mrKey p a) 4096
    match s1.session p slot with
    | none => ([], s1)
    | some x =>
      let c := x.sealCtr + 1
      let s2 := s1.setSession p slot (some { x with sealCtr := c })
      let pz := bs.any (fun b => b.2)
      let wire := padTo 4120 (sealUnit x.txBulk x.txBulkSalt c a m.rkey.toNat (bs.map (fun b => b.1)))
      let (rest, s3) := State.sealRun s2 p slot m (u + 1) n
      (wire.map (fun b => (b, pz)) ++ rest, s3)

/-- The wire bytes of a READ. -/
def State.rdmaFetch (s : State) (p : Nat) (m : MemRegion) (q : Qp) (va len : Nat) : List PByte × State :=
  if m.sealedMr then s.sealRun p ((s.sessSlot p q.session).getD 0) m (va / 4120) (len / 4120)
  else s.loadPB (s.mrKey p va) len

/-- Response packets leave one by one; a Remote Operational Error stands in place of the first that would carry poison (R328). -/
def State.rdmaRespond (s : State) (p : Nat) (k : RdmaPkt) (mtu : Nat) : Nat → Nat → List PByte → State
  | 0, _, _ => s
  | fuel + 1, psn, bs =>
    let now := bs.take mtu
    if now.any (fun b => b.2) then s.rdmaNak p { k with psn := BitVec.ofNat 24 psn } nakOperational
    else
      let s1 := s.hostSend p (.readData k.qpn.toNat (psn % 2 ^ 24) (now.map (fun b => b.1)))
      if bs.length ≤ mtu then s1 else State.rdmaRespond s1 p k mtu fuel (psn + 1) (bs.drop mtu)

/-- Response packets of a READ of `n` bytes: a READ takes as many PSNs (RoCEv2, PRESUMED, log 33). -/
def readPackets (n mtu : Nat) : Nat := max 1 ((n + mtu - 1) / mtu)

/-- A READ in order, or a duplicate, which is answered again from memory (R325, R328). -/
def State.rdmaReadRun (s : State) (p : Nat) (q : Qp) (k : RdmaPkt) (again : Bool) : State :=
  match s.rdmaRefuse p k.rkey k.va.toNat k.len.toNat 0 with
  | .error code => s.rdmaNak p k code
  | .ok m =>
    let n := readPackets k.len.toNat q.mtuBytes
    let s0 := if again then s else s.setQp p k.qpn.toNat { q with psn := (q.psn + n) % 2 ^ 24 }
    let (bs, s1) := s0.rdmaFetch p m q k.va.toNat k.len.toNat
    s1.rdmaRespond p k q.mtuBytes n k.psn.toNat bs

/-- RDMA_READ (R325, R328, R330). -/
def execRdmaRead (p : PartId) (k : RdmaPkt) (s : State) : Out := powered s <|
  done s (match s.rdmaFront p k [opREAD] with
  | .error s1 => s1
  | .ok s0 =>
    let q := s0.qp p k.qpn.toNat
    match q.order k.psn.toNat with
    | .next => if q.left ≠ 0 then s0.rdmaBad p k else s0.rdmaReadRun p q k false
    | .duplicate => s0.rdmaReadRun p q k true
    | .early => s0)

end Sys2Proof.Machine
end

