-- ==== Sys2Proof/Machine/Dispatch.lean ====
section
/-! DEFINITION. One arm per command. -/

namespace Sys2Proof.Machine
open Sys2Proof

def exec (i : Instr) (s : State) : Host.Outcome State Fault Refusal :=
  match i with
  | .powerOn => Sys2Proof.Machine.execPowerOn s
  | .modReset => Sys2Proof.Machine.execModReset s
  | .startStepComplete step res => Sys2Proof.Machine.execStartStepComplete step res s
  | .entdaa addr => Sys2Proof.Machine.execEntdaa addr s
  | .bcStatus crcOk => Sys2Proof.Machine.execBcStatus crcOk s
  | .setCoord crcOk plane group member => Sys2Proof.Machine.execSetCoord crcOk plane group member s
  | .setBoardLimit crcOk watts => Sys2Proof.Machine.execSetBoardLimit crcOk watts s
  | .bcTelemetry crcOk => Sys2Proof.Machine.execBcTelemetry crcOk s
  | .bcDress crcOk part => Sys2Proof.Machine.execBcDress crcOk part s
  | .readSummary crcOk offset length => Sys2Proof.Machine.execReadSummary crcOk offset length s
  | .alertRead crcOk => Sys2Proof.Machine.execAlertRead crcOk s
  | .raiseSvn crcOk svn => Sys2Proof.Machine.execRaiseSvn crcOk svn s
  | .identityRead crcOk => Sys2Proof.Machine.execIdentityRead crcOk s
  | .testArm crcOk part arm => Sys2Proof.Machine.execTestArm crcOk part arm s
  | .testCtrlWrite p v => Sys2Proof.Machine.execTestCtrlWrite p v s
  | .registerWrite p off v => Sys2Proof.Machine.execRegisterWrite p off v s
  | .cellArm c => Sys2Proof.Machine.execCellArm c s
  | .cellDisarm c => Sys2Proof.Machine.execCellDisarm c s
  | .cellDrain c => Sys2Proof.Machine.execCellDrain c s
  | .cellKill c => Sys2Proof.Machine.execCellKill c s
  | .cellClear c => Sys2Proof.Machine.execCellClear c s
  | .cellResume c => Sys2Proof.Machine.execCellResume c s
  | .freezeSet c => Sys2Proof.Machine.execFreezeSet c s
  | .freezeClear c => Sys2Proof.Machine.execFreezeClear c s
  | .freezeComplete c => Sys2Proof.Machine.execFreezeComplete c s
  | .cellDrainComplete c => Sys2Proof.Machine.execCellDrainComplete c s
  | .killComplete c => Sys2Proof.Machine.execKillComplete c s
  | .cellJobWrite c v => Sys2Proof.Machine.execCellJobWrite c v s
  | .sregWrite c n v => Sys2Proof.Machine.execSregWrite c n v s
  | .hopperDataLoWrite c v => Sys2Proof.Machine.execHopperDataLoWrite c v s
  | .hopperDataHiWrite c v => Sys2Proof.Machine.execHopperDataHiWrite c v s
  | .hopperDataHiRead c => Sys2Proof.Machine.execHopperDataHiRead c s
  | .nanRecClear c => Sys2Proof.Machine.execNanRecClear c s
  | .launchFetchWord c res => Sys2Proof.Machine.execLaunchFetchWord c res s
  | .hfetchWordArrive c res => Sys2Proof.Machine.execHfetchWordArrive c res s
  | .nop c => Sys2Proof.Machine.execNop c s
  | .endRun c => Sys2Proof.Machine.execEndRun c s
  | .endComplete c => Sys2Proof.Machine.execEndComplete c s
  | .add c => Sys2Proof.Machine.execAdd c s
  | .sub c => Sys2Proof.Machine.execSub c s
  | .mul c => Sys2Proof.Machine.execMul c s
  | .andW c => Sys2Proof.Machine.execAndW c s
  | .orW c => Sys2Proof.Machine.execOrW c s
  | .xorW c => Sys2Proof.Machine.execXorW c s
  | .shl c => Sys2Proof.Machine.execShl c s
  | .shr c => Sys2Proof.Machine.execShr c s
  | .sra c => Sys2Proof.Machine.execSra c s
  | .slt c => Sys2Proof.Machine.execSlt c s
  | .sltu c => Sys2Proof.Machine.execSltu c s
  | .seq c => Sys2Proof.Machine.execSeq c s
  | .addi c => Sys2Proof.Machine.execAddi c s
  | .andi c => Sys2Proof.Machine.execAndi c s
  | .ori c => Sys2Proof.Machine.execOri c s
  | .xori c => Sys2Proof.Machine.execXori c s
  | .shli c => Sys2Proof.Machine.execShli c s
  | .shri c => Sys2Proof.Machine.execShri c s
  | .srai c => Sys2Proof.Machine.execSrai c s
  | .slti c => Sys2Proof.Machine.execSlti c s
  | .sltiu c => Sys2Proof.Machine.execSltiu c s
  | .seqi c => Sys2Proof.Machine.execSeqi c s
  | .movi c => Sys2Proof.Machine.execMovi c s
  | .ld c => Sys2Proof.Machine.execLd c s
  | .ldDataReturn c res => Sys2Proof.Machine.execLdDataReturn c res s
  | .st c => Sys2Proof.Machine.execSt c s
  | .stPerformed c j => Sys2Proof.Machine.execStPerformed c j s
  | .beq c => Sys2Proof.Machine.execBeq c s
  | .bne c => Sys2Proof.Machine.execBne c s
  | .blt c => Sys2Proof.Machine.execBlt c s
  | .bge c => Sys2Proof.Machine.execBge c s
  | .bltu c => Sys2Proof.Machine.execBltu c s
  | .bgeu c => Sys2Proof.Machine.execBgeu c s
  | .jmp c => Sys2Proof.Machine.execJmp c s
  | .call c => Sys2Proof.Machine.execCall c s
  | .ret c => Sys2Proof.Machine.execRet c s
  | .jr c => Sys2Proof.Machine.execJr c s
  | .dbnz c => Sys2Proof.Machine.execDbnz c s
  | .hfetch c => Sys2Proof.Machine.execHfetch c s
  | .hwait c => Sys2Proof.Machine.execHwait c s
  | .rdcnt c => Sys2Proof.Machine.execRdcnt c s
  | .fence c => Sys2Proof.Machine.execFence c s
  | .fenceSatisfied c j => Sys2Proof.Machine.execFenceSatisfied c j s
  | .phase c => Sys2Proof.Machine.execPhase c s
  | .trap c => Sys2Proof.Machine.execTrap c s
  | .engineCommandBegin c u => Sys2Proof.Machine.execEngineCommandBegin c u s
  | .tdld c ph => Sys2Proof.Machine.execTdld c ph s
  | .afill c ph => Sys2Proof.Machine.execAfill c ph s
  | .ascale c ph => Sys2Proof.Machine.execAscale c ph s
  | .mma c ph => Sys2Proof.Machine.execMma c ph s
  | .mmaSliceIssue c j => Sys2Proof.Machine.execMmaSliceIssue c j s
  | .drain c ph => Sys2Proof.Machine.execDrain c ph s
  | .mred c ph => Sys2Proof.Machine.execMred c ph s
  | .arrayCommandComplete c => Sys2Proof.Machine.execArrayCommandComplete c s
  | .millraceTileReceive src dst => Sys2Proof.Machine.execMillraceTileReceive src dst s
  | .millraceCredit c => Sys2Proof.Machine.execMillraceCredit c s
  | .mredReceiveTimeout c => Sys2Proof.Machine.execMredReceiveTimeout c s
  | .mredCreditTimeout c => Sys2Proof.Machine.execMredCreditTimeout c s
  | .srSeedWrite c v => Sys2Proof.Machine.execSrSeedWrite c v s
  | .mrLinkWrite c prev v => Sys2Proof.Machine.execMrLinkWrite c prev v s
  | .heldAccessProceed c j => Sys2Proof.Machine.execHeldAccessProceed c j s
  | .vpld c ph => Sys2Proof.Machine.execVpld c ph s
  | .vprog c ph => Sys2Proof.Machine.execVprog c ph s
  | .vcomp c ph => Sys2Proof.Machine.execVcomp c ph s
  | .vexpd c ph => Sys2Proof.Machine.execVexpd c ph s
  | .vmld c ph => Sys2Proof.Machine.execVmld c ph s
  | .vmst c ph => Sys2Proof.Machine.execVmst c ph s
  | .vmop c ph => Sys2Proof.Machine.execVmop c ph s
  | .vmrange c ph => Sys2Proof.Machine.execVmrange c ph s
  | .vred c ph => Sys2Proof.Machine.execVred c ph s
  | .vectorGroupIssue c => Sys2Proof.Machine.execVectorGroupIssue c s
  | .vectorCommandComplete c => Sys2Proof.Machine.execVectorCommandComplete c s
  | .mdataRead c => Sys2Proof.Machine.execMdataRead c s
  | .mdataWrite c v => Sys2Proof.Machine.execMdataWrite c v s
  | .sdesc c ph => Sys2Proof.Machine.execSdesc c ph s
  | .sarm c ph => Sys2Proof.Machine.execSarm c ph s
  | .sstop c ph => Sys2Proof.Machine.execSstop c ph s
  | .descriptorBegin b ch => Sys2Proof.Machine.execDescriptorBegin b ch s
  | .segmentGrant b ch => Sys2Proof.Machine.execSegmentGrant b ch s
  | .shardHeaderRead b ch slot => Sys2Proof.Machine.execShardHeaderRead b ch slot s
  | .accessErrorResponse b ch slot pos wr => Sys2Proof.Machine.execAccessErrorResponse b ch slot pos wr s
  | .retryTimerExpire b ch slot n ok => Sys2Proof.Machine.execRetryTimerExpire b ch slot n ok s
  | .descriptorComplete b ch slot => Sys2Proof.Machine.execDescriptorComplete b ch slot s
  | .stampHeaderWrite b ch slot => Sys2Proof.Machine.execStampHeaderWrite b ch slot s
  | .paceRecheck b ch slot => Sys2Proof.Machine.execPaceRecheck b ch slot s
  | .channelStallDetect b ch => Sys2Proof.Machine.execChannelStallDetect b ch s
  | .chStop b ch => Sys2Proof.Machine.execChStop b ch s
  | .channelResume b ch => Sys2Proof.Machine.execChannelResume b ch s
  | .chDstBaseWrite b ch v => Sys2Proof.Machine.execChDstBaseWrite b ch v s
  | .chPaceWrite b ch v => Sys2Proof.Machine.execChPaceWrite b ch v s
  | .sluiceSegWrite b v => Sys2Proof.Machine.execSluiceSegWrite b v s
  | .hrCfgWrite c v => Sys2Proof.Machine.execHrCfgWrite c v s
  | .headraceInject b ch slot n => Sys2Proof.Machine.execHeadraceInject b ch slot n s
  | .headraceHop c n => Sys2Proof.Machine.execHeadraceHop c n s
  | .headraceMarker c => Sys2Proof.Machine.execHeadraceMarker c s
  | .sig c ph => Sys2Proof.Machine.execSig c ph s
  | .sigr c ph => Sys2Proof.Machine.execSigr c ph s
  | .sigrAck c j st => Sys2Proof.Machine.execSigrAck c j st s
  | .waitCmd c ph => Sys2Proof.Machine.execWaitCmd c ph s
  | .shut c ph => Sys2Proof.Machine.execShut c ph s
  | .counterSignalApply j => Sys2Proof.Machine.execCounterSignalApply j s
  | .waitTimeout c => Sys2Proof.Machine.execWaitTimeout c s
  | .claim p u job => Sys2Proof.Machine.execClaim p u job s
  | .ctrRelease p u => Sys2Proof.Machine.execCtrRelease p u s
  | .syncSelWrite p u v => Sys2Proof.Machine.execSyncSelWrite p u v s
  | .preempt p job => Sys2Proof.Machine.execPreempt p job s
  | .jobResume p job => Sys2Proof.Machine.execJobResume p job s
  | .jobReset p job => Sys2Proof.Machine.execJobReset p job s
  | .lineCtrlWrite p n v => Sys2Proof.Machine.execLineCtrlWrite p n v s
  | .shutMaskWrite b hi v => Sys2Proof.Machine.execShutMaskWrite b hi v s
  | .stackRead st piece err tagErr => Sys2Proof.Machine.execStackRead st piece err tagErr s
  | .stackWrite st addr data => Sys2Proof.Machine.execStackWrite st addr data s
  | .gristAdd st granule fmt src dst => Sys2Proof.Machine.execGristAdd st granule fmt src dst s
  | .patrolScrub st err => Sys2Proof.Machine.execPatrolScrub st err s
  | .ceWindowExpire st => Sys2Proof.Machine.execCeWindowExpire st s
  | .prioAgeExpire st => Sys2Proof.Machine.execPrioAgeExpire st s
  | .stackLoss st cause => Sys2Proof.Machine.execStackLoss st cause s
  | .farAccess p acc ok => Sys2Proof.Machine.execFarAccess p acc ok s
  | .farCompletionTimeout q => Sys2Proof.Machine.execFarCompletionTimeout q s
  | .farLinkDown q => Sys2Proof.Machine.execFarLinkDown q s
  | .farViral q => Sys2Proof.Machine.execFarViral q s
  | .farMalformed q in1s => Sys2Proof.Machine.execFarMalformed q in1s s
  | .msgWrite m => Sys2Proof.Machine.execMsgWrite m s
  | .msgGrist m => Sys2Proof.Machine.execMsgGrist m s
  | .msgReadReq m => Sys2Proof.Machine.execMsgReadReq m s
  | .msgSignal m => Sys2Proof.Machine.execMsgSignal m s
  | .msgMillrace m => Sys2Proof.Machine.execMsgMillrace m s
  | .msgReadResp m => Sys2Proof.Machine.execMsgReadResp m s
  | .msgAck m => Sys2Proof.Machine.execMsgAck m s
  | .requestTimeout txid => Sys2Proof.Machine.execRequestTimeout txid s
  | .leatHeaderNak p m => Sys2Proof.Machine.execLeatHeaderNak p m s
  | .leatSeqAck p seq => Sys2Proof.Machine.execLeatSeqAck p seq s
  | .leatCreditReturn p vc pieces => Sys2Proof.Machine.execLeatCreditReturn p vc pieces s
  | .leatPortOut p => Sys2Proof.Machine.execLeatPortOut p s
  | .leatRetrainCause p clockLost => Sys2Proof.Machine.execLeatRetrainCause p clockLost s
  | .leatRetrain p => Sys2Proof.Machine.execLeatRetrain p s
  | .leatRestore p => Sys2Proof.Machine.execLeatRestore p s
  | .guestRequest m => Sys2Proof.Machine.execGuestRequest m s
  | .weirCtrlKill => Sys2Proof.Machine.execWeirCtrlKill s
  | .weirJobWrite v => Sys2Proof.Machine.execWeirJobWrite v s
  | .flitSend f => Sys2Proof.Machine.execFlitSend f s
  | .flitReceive f flit => Sys2Proof.Machine.execFlitReceive f flit s
  | .gapNakTimer f => Sys2Proof.Machine.execGapNakTimer f s
  | .replayTimeout f => Sys2Proof.Machine.execReplayTimeout f s
  | .flitLock f halfOnly => Sys2Proof.Machine.execFlitLock f halfOnly s
  | .trainingTimeout f => Sys2Proof.Machine.execTrainingTimeout f s
  | .linkRetryTimer f => Sys2Proof.Machine.execLinkRetryTimer f s
  | .keyingRecord f kr => Sys2Proof.Machine.execKeyingRecord f kr s
  | .keyingTimeout f => Sys2Proof.Machine.execKeyingTimeout f s
  | .keyingIdleEnd f => Sys2Proof.Machine.execKeyingIdleEnd f s
  | .epochRoll f => Sys2Proof.Machine.execEpochRoll f s
  | .flRetrain f => Sys2Proof.Machine.execFlRetrain f s
  | .flUnfence f => Sys2Proof.Machine.execFlUnfence f s
  | .flDisable f => Sys2Proof.Machine.execFlDisable f s
  | .discWindowExpire p => Sys2Proof.Machine.execDiscWindowExpire p s
  | .l2Commit p => Sys2Proof.Machine.execL2Commit p s
  | .l2CommitEnd p => Sys2Proof.Machine.execL2CommitEnd p s
  | .planStageWrite p e v => Sys2Proof.Machine.execPlanStageWrite p e v s
  | .probeWindowEnd p d => Sys2Proof.Machine.execProbeWindowEnd p d s
  | .routeReprobeTimer p d => Sys2Proof.Machine.execRouteReprobeTimer p d s
  | .ethFrameReceive fr => Sys2Proof.Machine.execEthFrameReceive fr s
  | .hostLinkUp => Sys2Proof.Machine.execHostLinkUp s
  | .dadTimer p x => Sys2Proof.Machine.execDadTimer p x s
  | .hostLinkDown => Sys2Proof.Machine.execHostLinkDown s
  | .versionReq p h adv => Sys2Proof.Machine.execVersionReq p h adv s
  | .spdm p h msg => Sys2Proof.Machine.execSpdm p h msg s
  | .heartbeat p h => Sys2Proof.Machine.execHeartbeat p h s
  | .closeSession p h => Sys2Proof.Machine.execCloseSession p h s
  | .regRead p h addr count => Sys2Proof.Machine.execRegRead p h addr count s
  | .regWrite p h addr vals => Sys2Proof.Machine.execRegWrite p h addr vals s
  | .memRead p h addr len => Sys2Proof.Machine.execMemRead p h addr len s
  | .memWrite p h addr data => Sys2Proof.Machine.execMemWrite p h addr data s
  | .incr p h offset job amount => Sys2Proof.Machine.execIncr p h offset job amount s
  | .subscribe p h levels frm => Sys2Proof.Machine.execSubscribe p h levels frm s
  | .eventAck p h => Sys2Proof.Machine.execEventAck p h s
  | .eventResend p slot => Sys2Proof.Machine.execEventResend p slot s
  | .journalRead p h index count => Sys2Proof.Machine.execJournalRead p h index count s
  | .mrReg p h base len rights sealedMr => Sys2Proof.Machine.execMrReg p h base len rights sealedMr s
  | .mrDereg p h rkey => Sys2Proof.Machine.execMrDereg p h rkey s
  | .qpSet p h q => Sys2Proof.Machine.execQpSet p h q s
  | .qpQuery p h qpn => Sys2Proof.Machine.execQpQuery p h qpn s
  | .sessionIdleTimeout p slot => Sys2Proof.Machine.execSessionIdleTimeout p slot s
  | .rdmaWrite p k => Sys2Proof.Machine.execRdmaWrite p k s
  | .rdmaRead p k => Sys2Proof.Machine.execRdmaRead p k s
  | .sourceBlockExpire p src => Sys2Proof.Machine.execSourceBlockExpire p src s
  | .inputFault => Sys2Proof.Machine.execInputFault s
  | .railFault rail => Sys2Proof.Machine.execRailFault rail s
  | .powerSample avg100 rest => Sys2Proof.Machine.execPowerSample avg100 rest s
  | .telemetryRecord rcd => Sys2Proof.Machine.execTelemetryRecord rcd s
  | .refLoss => Sys2Proof.Machine.execRefLoss s
  | .holdoverExpire => Sys2Proof.Machine.execHoldoverExpire s
  | .opChangeStep r what => Sys2Proof.Machine.execOpChangeStep r what s
  | .cellClockGate c => Sys2Proof.Machine.execCellClockGate c s
  | .cellPowerGate c => Sys2Proof.Machine.execCellPowerGate c s
  | .cellWake c => Sys2Proof.Machine.execCellWake c s
  | .governorWindow r => Sys2Proof.Machine.execGovernorWindow r s
  | .governorSlot r => Sys2Proof.Machine.execGovernorSlot r s
  | .fantailRecompute p np => Sys2Proof.Machine.execFantailRecompute p np s
  | .trimSample r watts withheldUs => Sys2Proof.Machine.execTrimSample r watts withheldUs s
  | .regionRest r => Sys2Proof.Machine.execRegionRest r s
  | .droopDetect r => Sys2Proof.Machine.execDroopDetect r s
  | .droopEnd r stretched => Sys2Proof.Machine.execDroopEnd r stretched s
  | .clockMoveAbandon r => Sys2Proof.Machine.execClockMoveAbandon r s
  | .thermalStep r hottest index twice105 => Sys2Proof.Machine.execThermalStep r hottest index twice105 s
  | .overtempComparator => Sys2Proof.Machine.execOvertempComparator s
  | .stackTemperature st celsius => Sys2Proof.Machine.execStackTemperature st celsius s
  | .fanClear p => Sys2Proof.Machine.execFanClear p s
  | .railSelWrite p v => Sys2Proof.Machine.execRailSelWrite p v s
  | .fanSelWrite p v => Sys2Proof.Machine.execFanSelWrite p v s
  | .thermSelWrite r v => Sys2Proof.Machine.execThermSelWrite r v s
  | .eventRecordWrite => Sys2Proof.Machine.execEventRecordWrite s
  | .regionLoss r cause => Sys2Proof.Machine.execRegionLoss r cause s
  | .partitionFreezeTimeout p => Sys2Proof.Machine.execPartitionFreezeTimeout p s
  | .crosscheck r first x => Sys2Proof.Machine.execCrosscheck r first x s
  | .tollStart p => Sys2Proof.Machine.execTollStart p s
  | .tollHashEnd p => Sys2Proof.Machine.execTollHashEnd p s
  | .tollDecide p => Sys2Proof.Machine.execTollDecide p s
  | .tollTimeout p => Sys2Proof.Machine.execTollTimeout p s
  | .tollAbort p => Sys2Proof.Machine.execTollAbort p s
  | .pondCopyEnd p => Sys2Proof.Machine.execPondCopyEnd p s
  | .pondFarDrain p => Sys2Proof.Machine.execPondFarDrain p s
  | .pondDisarm p => Sys2Proof.Machine.execPondDisarm p s
  | .pondReturn p => Sys2Proof.Machine.execPondReturn p s
  | .acceptOpen p => Sys2Proof.Machine.execAcceptOpen p s
  | .acceptClose p => Sys2Proof.Machine.execAcceptClose p s
  | .pondAbort p => Sys2Proof.Machine.execPondAbort p s
  | .fatalDump p => Sys2Proof.Machine.execFatalDump p s
  | .dumpEnd p => Sys2Proof.Machine.execDumpEnd p s
  | .dumpRelease p => Sys2Proof.Machine.execDumpRelease p s
  | .pctrlDress p => Sys2Proof.Machine.execPctrlDress p s
  | .dressingStep p res => Sys2Proof.Machine.execDressingStep p res s
  | .trngHealthFail => Sys2Proof.Machine.execTrngHealthFail s
  | .codewordLockLoss f => Sys2Proof.Machine.execCodewordLockLoss f s
  | .leatPortTrained p t => Sys2Proof.Machine.execLeatPortTrained p t s
  | .farPortTrained q t => Sys2Proof.Machine.execFarPortTrained q t s
  | .powerOff => Sys2Proof.Machine.execPowerOff s
  | .millerWatchdog => Sys2Proof.Machine.execMillerWatchdog s
  | .hurstFault cause => Sys2Proof.Machine.execHurstFault cause s
  | .jobCommandEnd p => Sys2Proof.Machine.execJobCommandEnd p s
  | .rcRegisterRead p off => Sys2Proof.Machine.execRcRegisterRead p off s
  | .testClockStretch r => Sys2Proof.Machine.execTestClockStretch r s

end Sys2Proof.Machine
end

