-- ==== Sys2Proof/WellFormed.lean ====
section
/-! DEFINITION. Well-formed commands: what an operand must be for the command to be one that the hardware can meet. A command that is not well formed has a meaning
all the same (exec is total); what a host or a program may get wrong is no matter of form, and its own rule answers it. -/

namespace Sys2Proof

/-- A link message in the widths of its header (R253), with a data area of at most 4,096 bytes. -/
def wfMsg (m : Machine.LinkMsg) : Bool :=
  decide (m.kind < 256) && decide (m.vc < 4) && decide (m.fmt < 16) && decide (m.len < 2 ^ 16) && decide (m.job < 2 ^ 16) && decide (m.status < 2 ^ 16)
    && decide (m.src < 2 ^ 32) && decide (m.dst < 2 ^ 32) && decide (m.addr < 2 ^ 64) && decide (m.txid < 2 ^ 64) && decide (m.amount < 2 ^ 64)
    && decide (m.seq < 2 ^ 64) && decide (m.data.length ≤ 4096)

/-- A message that reaches a router: one that stands in an inbox was checked when it arrived. -/
def wfMsgIn : MsgIn → Bool
  | .inbox _ => true
  | .leat _ m _ _ => wfMsg m
  | .self m => wfMsg m

/-- Whether a command is well formed. -/
def wellFormed : Instr → Bool
  | .stackRead _ _ err _ => err.all (fun e => decide (e.1 < 36))
  | .patrolScrub _ err => err.all (fun e => decide (e.1 < 36))
  | .stackWrite _ _ data => decide (data.bytes.length ≤ 32)
  | .gristAdd _ _ _ src _ => src.bytes.length == 256
  | .farAccess _ acc _ => (match acc with
    | .read _ n _ => decide (1 ≤ n)
    | .write _ bs _ => decide (1 ≤ bs.length))
  | .msgWrite m => wfMsgIn m
  | .msgGrist m => wfMsgIn m
  | .msgReadReq m => wfMsgIn m
  | .msgSignal m => wfMsgIn m
  | .msgMillrace m => wfMsgIn m
  | .msgReadResp m => wfMsgIn m
  | .msgAck m => wfMsgIn m
  | .guestRequest m => wfMsg m
  | .ethFrameReceive fr => decide (64 ≤ fr.bytes) && decide (fr.bytes ≤ 9216)
  | .regWrite _ _ _ vals => decide (16 + 8 * vals.length ≤ 4144)
  | .memWrite _ _ _ data => decide (16 + data.length ≤ 4144)
  | .rdmaWrite _ k => decide (k.data.length ≤ 4096)
  | .telemetryRecord rcd => rcd.length == 64
  | .powerSample _ rest => rest.np.length == 6
  | .powerOn | .modReset | .startStepComplete _ _ | .entdaa _ | .bcStatus _ | .setCoord _ _ _ _ | .setBoardLimit _ _ | .bcTelemetry _ | .bcDress _ _
  | .readSummary _ _ _ | .alertRead _ | .raiseSvn _ _ | .identityRead _ | .testArm _ _ _ | .testCtrlWrite _ _ | .registerWrite _ _ _ | .cellArm _
  | .cellDisarm _ | .cellDrain _ | .cellKill _ | .cellClear _ | .cellResume _ | .freezeSet _ | .freezeClear _ | .freezeComplete _
  | .cellDrainComplete _ | .killComplete _ | .cellJobWrite _ _ | .sregWrite _ _ _ | .hopperDataLoWrite _ _ | .hopperDataHiWrite _ _
  | .hopperDataHiRead _ | .nanRecClear _ | .launchFetchWord _ _ | .hfetchWordArrive _ _ | .nop _ | .endRun _ | .endComplete _ | .add _ | .sub _
  | .mul _ | .andW _ | .orW _ | .xorW _ | .shl _ | .shr _ | .sra _ | .slt _ | .sltu _ | .seq _ | .addi _ | .andi _ | .ori _ | .xori _ | .shli _
  | .shri _ | .srai _ | .slti _ | .sltiu _ | .seqi _ | .movi _ | .ld _ | .ldDataReturn _ _ | .st _ | .stPerformed _ _ | .beq _ | .bne _ | .blt _
  | .bge _ | .bltu _ | .bgeu _ | .jmp _ | .call _ | .ret _ | .jr _ | .dbnz _ | .hfetch _ | .hwait _ | .rdcnt _ | .fence _ | .fenceSatisfied _ _
  | .phase _ | .trap _ | .engineCommandBegin _ _ | .tdld _ _ | .afill _ _ | .ascale _ _ | .mma _ _ | .mmaSliceIssue _ _ | .drain _ _ | .mred _ _
  | .arrayCommandComplete _ | .millraceTileReceive _ _ | .millraceCredit _ | .mredReceiveTimeout _ | .mredCreditTimeout _ | .srSeedWrite _ _
  | .mrLinkWrite _ _ _ | .heldAccessProceed _ _ | .vpld _ _ | .vprog _ _ | .vcomp _ _ | .vexpd _ _ | .vmld _ _ | .vmst _ _ | .vmop _ _ | .vmrange _ _
  | .vred _ _ | .vectorGroupIssue _ | .vectorCommandComplete _ | .mdataRead _ | .mdataWrite _ _ | .sdesc _ _ | .sarm _ _ | .sstop _ _
  | .descriptorBegin _ _ | .segmentGrant _ _ | .shardHeaderRead _ _ _ | .accessErrorResponse _ _ _ _ _ | .retryTimerExpire _ _ _ _ _
  | .descriptorComplete _ _ _ | .stampHeaderWrite _ _ _ | .paceRecheck _ _ _ | .channelStallDetect _ _ | .chStop _ _ | .channelResume _ _
  | .chDstBaseWrite _ _ _ | .chPaceWrite _ _ _ | .sluiceSegWrite _ _ | .hrCfgWrite _ _ | .headraceInject _ _ _ _ | .headraceHop _ _
  | .headraceMarker _ | .sig _ _ | .sigr _ _ | .sigrAck _ _ _ | .waitCmd _ _ | .shut _ _ | .counterSignalApply _ | .waitTimeout _ | .claim _ _ _
  | .ctrRelease _ _ | .syncSelWrite _ _ _ | .preempt _ _ | .jobResume _ _ | .jobReset _ _ | .lineCtrlWrite _ _ _ | .shutMaskWrite _ _ _
  | .ceWindowExpire _ | .prioAgeExpire _ | .stackLoss _ _ | .farCompletionTimeout _ | .farLinkDown _ | .farViral _ | .farMalformed _ _
  | .requestTimeout _ | .leatHeaderNak _ _ | .leatSeqAck _ _ | .leatCreditReturn _ _ _ | .leatPortOut _ | .leatRetrainCause _ _ | .leatRetrain _
  | .leatRestore _ | .weirCtrlKill | .weirJobWrite _ | .flitSend _ | .flitReceive _ _ | .gapNakTimer _ | .replayTimeout _ | .flitLock _ _
  | .trainingTimeout _ | .linkRetryTimer _ | .keyingRecord _ _ | .keyingTimeout _ | .keyingIdleEnd _ | .epochRoll _ | .flRetrain _ | .flUnfence _
  | .flDisable _ | .discWindowExpire _ | .l2Commit _ | .l2CommitEnd _ | .planStageWrite _ _ _ | .probeWindowEnd _ _ | .routeReprobeTimer _ _
  | .hostLinkUp | .dadTimer _ _ | .hostLinkDown | .versionReq _ _ _ | .spdm _ _ _ | .heartbeat _ _ | .closeSession _ _ | .regRead _ _ _ _
  | .memRead _ _ _ _ | .incr _ _ _ _ _ | .subscribe _ _ _ _ | .eventAck _ _ | .eventResend _ _ | .journalRead _ _ _ _ | .mrReg _ _ _ _ _ _
  | .mrDereg _ _ _ | .qpSet _ _ _ | .qpQuery _ _ _ | .sessionIdleTimeout _ _ | .rdmaRead _ _ | .sourceBlockExpire _ _ | .inputFault | .railFault _
  | .refLoss | .holdoverExpire | .opChangeStep _ _ | .cellClockGate _ | .cellPowerGate _ | .cellWake _ | .governorWindow _
  | .governorSlot _ | .fantailRecompute _ _ | .trimSample _ _ _ | .regionRest _ | .droopDetect _ | .droopEnd _ _ | .clockMoveAbandon _
  | .thermalStep _ _ _ _ | .overtempComparator | .stackTemperature _ _ | .fanClear _ | .railSelWrite _ _ | .fanSelWrite _ _ | .thermSelWrite _ _
  | .eventRecordWrite | .regionLoss _ _ | .partitionFreezeTimeout _ | .crosscheck _ _ _ | .tollStart _ | .tollHashEnd _ | .tollDecide _
  | .tollTimeout _ | .tollAbort _ | .pondCopyEnd _ | .pondFarDrain _ | .pondDisarm _ | .pondReturn _ | .acceptOpen _ | .acceptClose _ | .pondAbort _
  | .fatalDump _ | .dumpEnd _ | .dumpRelease _ | .pctrlDress _ | .dressingStep _ _ | .trngHealthFail | .codewordLockLoss _ | .leatPortTrained _ _
  | .farPortTrained _ _ | .powerOff | .millerWatchdog | .hurstFault _ | .jobCommandEnd _ | .rcRegisterRead _ _ | .testClockStretch _ => true

end Sys2Proof
end

