-- ==== Sys2Proof/Safety.lean ====
section
/-! DEFINITION. What counts as a safe run: a step that answers a next state, and the canonical form of memory that every step keeps. -/

namespace Sys2Proof

/-- A state at which the block takes a step: neither a fault nor a refusal. -/
def Safe (s : Machine.State) : Prop := ∃ t, Machine.step s = .next t

/-- The memory of a state is in its canonical form: keys strictly rising, no byte listed that equals what an unlisted key reads as. -/
def MemoryOk (s : Machine.State) : Prop := Machine.Memory.wf s.mem = true

end Sys2Proof
end

