-- ==== Sys2Proof/Certificates/Slice0/Obligations.lean ====
section
/-! DEFINITION. The statements for the provers, one proposition each, and the words they are stated in. -/

namespace Sys2Proof.Claims

open Sys2Proof.Machine

/-- The module has power and is not held in its reset or input fault state (R337, R421). -/
abbrev Live (s : State) : Prop := s.module.held = false ∧ s.module.powered = true

/-- The command answers a next state, and `P` holds of it. -/
def Goes (i : Instr) (s : State) (P : State → Prop) : Prop := ∃ t, exec i s = .next t ∧ P t

/-- Nothing of the state differs but registers of space 5, and of those only the listed ones. -/
def OnlyRegs (s t : State) (ws : List Nat) : Prop := t = { s with regs := t.regs } ∧ ∀ o, o ∉ ws → t.rd o = s.rd o

/-- Nothing differs but one cell's typed state, which is `x`. -/
def OnlyCell (s t : State) (c : Nat) (x : Cell) : Prop := t = { s with cells := t.cells } ∧ t.cell c = x ∧ ∀ d, d ≠ c → t.cell d = s.cell d

/-- Nothing differs but one cell's typed state, which is `x`, and the listed registers. -/
def CellAndRegs (s t : State) (c : Nat) (x : Cell) (ws : List Nat) : Prop :=
  t = { s with cells := t.cells, regs := t.regs } ∧ t.cell c = x ∧ (∀ d, d ≠ c → t.cell d = s.cell d) ∧ ∀ o, o ∉ ws → t.rd o = s.rd o

/-- The core of cell `c` takes the word `w` at its program counter (R43, R46, R50, R51, R54, R65, R67, R68): the cell runs and is clocked, no load and no END is awaited,
no fence and no acquire holds the core, the word is valid and passes its dispatch checks, no register it names is pending, and a releasing word of the core's
own classes waits for nothing. -/
abbrev Takes (s : State) (c : Nat) (w : Word128) : Prop :=
  (s.cell c).st = .running ∧ s.clocked c = true ∧ (s.cell c).ld = none ∧ (s.cell c).endReq = none
    ∧ (s.cell c).fenceHolds .core (s.opseq c) = false ∧ (s.cell c).acquireHolds = false
    ∧ s.wordAt c = some w ∧ dispatchCheck w = none ∧ (s.cell c).stallsOnReg w = false
    ∧ ((wclass w = 0 ∨ wclass w = 5) → wREL w = true → (s.cell c).earlierDone 31 0 (s.opseq c) = true)

/-- CELL.PC, CELL.OPSEQ and scalar register n of a cell. -/
def pcReg (c : Nat) : Nat := cellBase c + rPC
def seqReg (c : Nat) : Nat := cellBase c + rOPSEQ
def scalarReg (c n : Nat) : Nat := cellBase c + 0x100 + 8 * n

/-- A taken word that writes the scalar register named by its rd field with `f` of the state and moves to the next word. -/
def WritesRd (i : CellId → Instr) (code : Nat) (f : State → Nat → Word128 → Word64) : Prop :=
  ∀ (c : CellId) (s : State) (w : Word128), Live s → Takes s c w → wcode w = code →
    Goes (i c) s (fun t => t.sreg c (fRd w) = (if fRd w = 0 then 0 else f s c w) ∧ t.pc c = (s.pc c + 1) % 4096 ∧ t.opseq c = s.opseq c + 1
      ∧ OnlyRegs s t ([pcReg c, seqReg c] ++ (if fRd w = 0 then [] else [scalarReg c (fRd w)])))

/-- The operands of layouts A and I. -/
def rA (s : State) (c : Nat) (w : Word128) : Word64 := s.sreg c (fRa w)
def rB (s : State) (c : Nat) (w : Word128) : Word64 := s.sreg c (fRb w)

/-- The core of a cell reaches a word: every check that R50, R65, R68 and R76 make before the word itself is looked at passes. -/
abbrev Reaches (s : State) (c : Nat) : Prop :=
  (s.cell c).st = .running ∧ s.clocked c = true ∧ (s.cell c).ld = none ∧ (s.cell c).endReq = none
    ∧ (s.cell c).fenceHolds .core (s.opseq c) = false ∧ (s.cell c).acquireHolds = false

/-- A conditional branch on `p` of its two registers. -/
def Branches (i : CellId → Instr) (code : Nat) (p : Word64 → Word64 → Bool) : Prop :=
  ∀ (c : CellId) (s : State) (w : Word128), Live s → Takes s c w → wcode w = code →
    Goes (i c) s (fun t => t.pc c = (if p (s.sreg c (fld w 111 107)) (s.sreg c (fld w 106 102)) then fTarget w else (s.pc c + 1) % 4096)
      ∧ t.opseq c = s.opseq c + 1 ∧ OnlyRegs s t [pcReg c, seqReg c])

/-- A jump to `f` of the state that also writes one scalar register (number and value; number 0: none). -/
def Jumps (i : CellId → Instr) (code : Nat) (f : State → Nat → Word128 → Nat) (g : State → Nat → Word128 → Nat × Word64) : Prop :=
  ∀ (c : CellId) (s : State) (w : Word128), Live s → Takes s c w → wcode w = code →
    Goes (i c) s (fun t => t.pc c = f s c w ∧ t.opseq c = s.opseq c + 1 ∧ t.sreg c (g s c w).1 = (if (g s c w).1 = 0 then 0 else (g s c w).2)
      ∧ OnlyRegs s t ([pcReg c, seqReg c] ++ (if (g s c w).1 = 0 then [] else [scalarReg c (g s c w).1])))

/-- The rows of the engines' command words, with class and opcode. -/
def engineRows : List ((CellId → Phase → Instr) × Nat) :=
  [(.tdld, cTDLD), (.afill, cAFILL), (.ascale, cASCALE), (.mma, cMMA), (.drain, cDRAIN), (.mred, cMRED),
   (.vpld, cVPLD), (.vprog, cVPROG), (.vcomp, cVCOMP), (.vexpd, cVEXPD), (.vmld, cVMLD), (.vmst, cVMST), (.vmop, cVMOP), (.vmrange, cVMRANGE), (.vred, cVRED),
   (.sdesc, cSDESC), (.sarm, cSARM), (.sstop, cSSTOP), (.sig, cSIG), (.sigr, cSIGR), (.waitCmd, cWAIT), (.shut, cSHUT)]

/-- Every row whose word the core takes, with class and opcode. -/
def coreRows : List ((CellId → Instr) × Nat) :=
  [(.nop, cNOP), (.endRun, cEND), (.add, 0x008), (.sub, 0x009), (.mul, 0x00A), (.andW, 0x00C), (.orW, 0x00D), (.xorW, 0x00E), (.shl, 0x010), (.shr, 0x011),
   (.sra, 0x012), (.slt, 0x014), (.sltu, 0x015), (.seq, 0x016), (.addi, 0x020), (.andi, 0x024), (.ori, 0x025), (.xori, 0x026), (.shli, 0x028), (.shri, 0x029),
   (.srai, 0x02A), (.slti, 0x02C), (.sltiu, 0x02D), (.seqi, 0x02E), (.movi, 0x02F), (.ld, cLD), (.st, cST), (.beq, 0x040), (.bne, 0x041), (.blt, 0x042),
   (.bge, 0x043), (.bltu, 0x044), (.bgeu, 0x045), (.jmp, 0x046), (.call, 0x047), (.ret, 0x048), (.jr, 0x049), (.dbnz, 0x04A), (.hfetch, cHFETCH), (.hwait, cHWAIT),
   (.rdcnt, cRDCNT), (.fence, cFENCE), (.phase, cPHASE), (.trap, cTRAP)] 
    ++ engineRows.map (fun r => (fun c => r.1 c .dispatch, r.2))

/-- Nothing differs but one cell's typed state, registers, bytes of memory with their poison, and the events raised; the listed runs (key, bytes) are all of memory that may differ. -/
def CellWorkEv (s t : State) (c : Nat) (runs : List (Nat × Nat)) : Prop :=
  t = { s with cells := t.cells, regs := t.regs, mem := t.mem, poison := t.poison, raised := t.raised } ∧ (∀ d, d ≠ c → t.cell d = s.cell d)
    ∧ ∀ a, (∀ r ∈ runs, a < r.1 ∨ r.1 + r.2 ≤ a) → t.memB a = s.memB a

/-- Nothing differs but one cell's typed state, registers, and bytes of memory with their poison; the listed runs (key, bytes) are all of memory that may differ. -/
def CellWork (s t : State) (c : Nat) (runs : List (Nat × Nat)) : Prop :=
  t = { s with cells := t.cells, regs := t.regs, mem := t.mem, poison := t.poison } ∧ (∀ d, d ≠ c → t.cell d = s.cell d)
    ∧ ∀ a, (∀ r ∈ runs, a < r.1 ∨ r.1 + r.2 ≤ a) → t.memB a = s.memB a

/-- The oldest begun array command of a cell that has not run is `y`, at place `i`, of the opcode. -/
abbrev ArrNext (s : State) (c i : Nat) (y : ArrX) (code : Nat) : Prop :=
  findIdx (fun z => !z.started) (s.cell c).xArray = some i ∧ (s.cell c).xArray[i]? = some y ∧ wcode y.cmd.word = code

/-- The oldest begun vector command of a cell that has not run is `y`, at place `j`, of the opcode, and no command before it has results in flight. -/
abbrev VecNext (s : State) (c j : Nat) (y : VecX) (code : Nat) : Prop :=
  (s.cell c).vecNew code = some (j, y) ∧ ∀ z ∈ (s.cell c).xVector.take j, z.flight = none

/-- A begun vector command has run: it stands at its place as `y`. -/
def VecAt (s : State) (c j : Nat) (y : VecX) : List VecX := setAt (s.cell c).xVector j y

/-- The vector commands with the checks that R150 makes of each; VPLD's also look at the record it reads. -/
def vecRows (s : State) (c : Nat) : List ((CellId → Phase → Instr) × Nat × (QCmd → List (Nat × Nat))) :=
  [(.vmop, cVMOP, fun _ => []), (.vmrange, cVMRANGE, fun _ => []), (.vmld, cVMLD, fun q => addrFails (q.ops.getD 0 0) 1024 128),
   (.vmst, cVMST, fun q => addrFails (q.ops.getD 0 0) 1024 128), (.vprog, cVPROG, s.vprogFails c), (.vcomp, cVCOMP, compFails), (.vexpd, cVEXPD, compFails),
   (.vred, cVRED, fun q => strmFails (q.ops.getD 0 0) (fld q.word 80 77) (fld q.word 111 99 + 1)
      ++ strmFails (q.ops.getD 1 0) 0 ((fld q.word 111 99 + 1 + fld q.word 98 86) / (fld q.word 98 86 + 1)))]

/-- A command's first NaN origin does not halt its cell (R104). -/
abbrev NoNanHalt (q : QCmd) (cfg : Nat) (o : Option NanOrigin) : Prop := (o.isSome && wTRAP q.word && cfg % 2 == 1) = false

/-- The accumulator elements that an MMA's slice leaves, columns and their scales given (R91 to R93, R105). -/
def sliceOf (s : State) (c : Nat) (y : ArrX) (cols scales : List (List (Nat × Bool))) : List (Nat × Bool) :=
  let m := s.mmaOf c y.cmd
  let k0 := y.slices * m.w
  let n := min m.w (m.k - k0)
  (gridSlice (nbits y.nanCfg 1 1 == 1) (y.slices == 0) m k0 (lanesOf m.a (s.operandRows c m.a m.koff k0 n) (s.operandScales c m.a m.koff k0 n)) (lanesOf m.b cols scales)
    (s.mmaAcc c m y)).1

/-- A slice of the MMA at place `i` is issued: its set holds `es`, it is counted, and no other byte of memory differs. -/
def SliceDone (s t : State) (c i : Nat) (y : ArrX) (es : List (Nat × Bool)) : Prop :=
  (∃ z, (t.cell c).xArray = setAt (s.cell c).xArray i z ∧ z.cmd = y.cmd ∧ z.slices = y.slices + 1 ∧ z.total = y.total ∧ z.finished = (y.slices + 1 == y.total))
    ∧ (∀ j, j < 1024 → t.readB (cellKey c (setOff (s.mmaOf c y.cmd).set + 4 * j)) 4 = toBytes 4 (es.getD j (0, false)).1)
    ∧ (∀ a, a < cellKey c (setOff (s.mmaOf c y.cmd).set) ∨ cellKey c (setOff (s.mmaOf c y.cmd).set) + 4096 ≤ a → t.memB a = s.memB a)
    ∧ (t.region (cellRegion c)).points = (s.region (cellRegion c)).points + 3 ∧ t.far = s.far ∧ t.counters = s.counters ∧ ∀ d, d ≠ c → t.cell d = s.cell d

/-- The counter table is in its canonical form: keys strictly rising and no counter listed that is as an unlisted one reads. -/
abbrev CountersOk (s : State) : Prop := Table.wf s.counters (fun _ => {}) = true

/-- A command done on a live module whose only effect is on registers: the listed ones, which then hold what `P` says. -/
def GoesRegs (i : Instr) (s : State) (ws : List Nat) (P : State → Prop) : Prop := Goes i s (fun t => P t ∧ OnlyRegs s t ws)

/-- Nothing differs but registers, the bytes of memory and their poison, and which units' tags are out of step with their content. -/
def OnlyMem (s t : State) : Prop := t = { s with regs := t.regs, mem := t.mem, poison := t.poison, stale := t.stale }

/-- The check of the unit of a stack's key has failed (R244): the unit is poison, MEM.INTEG_FAIL has counted it and INTEGRITY_FAIL is raised; no byte has changed. -/
def CheckFailed (s t : State) (st k : Nat) : Prop :=
  (∀ j, j < 8 → t.poisoned (k / 256 * 256 + 32 * j) = true) ∧ t.rf (memBase st + 0x78) 63 0 = (s.rf (memBase st + 0x78) 63 0 + 1) % 2 ^ 64
    ∧ stackEvent s evIntegrityFail st 0 (k / 256 * 256 % 2 ^ 44) ∈ t.raised ∧ t.mem = s.mem

/-- The state is `x`, whatever order the events raised on the way stand in. -/
def Becomes (t x : State) : Prop := t = { x with raised := t.raised }

/-- An arrived request is sound, and addressed to partition `d` of this package, which serves it (R256). -/
abbrev Served (a : Arrival) (d : Nat) : Prop :=
  a.state.requestFault a = none ∧ coPackage a.msg.dst = coPackage (a.state.coordOf (a.state.arrivalPart a)) ∧ coPart a.msg.dst = d
    ∧ a.state.partValid d = true ∧ a.state.partBusy d = false ∧ a.msg.isProbe = false ∧ a.state.partDead d = false

/-- A state with the response of a status to an arrived request sent by the partition at whose router it arrived, or by the partition that it addresses. -/
def Replied (a : Arrival) (st : Nat) (x : State) : State := x.reply (a.state.arrivalPart a) a.via a.msg st
def RepliedBy (a : Arrival) (d st : Nat) (x : State) : State := x.reply d a.via a.msg st

/-- The rows of request messages, and of all messages, with the kinds that each takes (R254). -/
def requestRows : List ((MsgIn → Instr) × (Nat → Bool)) :=
  [(.msgWrite, fun k => k == mkWRITE || !(isRequest k || k == mkRESP || k == mkACK)), (.msgGrist, fun k => k == mkGRIST), (.msgReadReq, fun k => k == mkREAD),
    (.msgSignal, fun k => k == mkSIGNAL), (.msgMillrace, fun k => k == mkMILLRACE)]
def msgRows : List ((MsgIn → Instr) × (Nat → Bool)) := requestRows ++ [(.msgReadResp, fun k => k == mkRESP), (.msgAck, fun k => k == mkACK)]

/-- The request at hand does not wait, for a busy set (R35, R113) or for room in a cell's receive buffer (R127). -/
def GoesOn (i : Instr) (s : State) (a : Arrival) : Prop := match i with
  | .msgWrite _ | .msgReadReq _ => s.msgHeld a = none
  | .msgMillrace _ => s.millraceWaits a = false
  | _ => True

/-- The state in which a request is judged: one that waited waits no longer. -/
def judgedIn (i : Instr) (a : Arrival) : State := match i with
  | .msgWrite _ | .msgReadReq _ => a.state.unhold (.cmd i)
  | _ => a.state

/-- How many of a sending end's messages that await acknowledgement the other end has accepted in sequence (R261). -/
def leatAccepted (s : State) (p : Nat) : Nat :=
  let x := s.leat (leatPair p)
  x.unacked.length - (x.txSeq + 2 ^ 16 - (match leatPeer p with
    | some q => (s.leat (leatPair q)).rxNext
    | none => x.txSeq)) % 2 ^ 16

/-- A record of the peer's keying is out of its order or fails its check (R284, R285). -/
def keyRecordFails (l : Link) : KeyRec → Bool
  | .hello _ _ => l.keyRecs != 0
  | .cert ok => !(ok && l.keyRecs == 1)
  | .kex _ ok => !(ok && l.keyRecs == 2)
  | .finish ok _ => !(ok && l.keyRecs == 3)
  | .advertise _ _ _ _ _ => true
  | .malformed => true

/-- The relays of a probed route that have answered, and not with NO_ROUTE, NOPART or FEATURE: at most four of the own group, or two of another (R305). -/
def answeringRelays (s : State) (p key : Nat) : List Nat :=
  (((s.route p key).probes.filter (fun x => match x.2 with
    | some st => st != stNOROUTE && st != stNOPART && st != stFEATURE
    | none => false)).map (fun x => x.1)).take (if key < 16 then 4 else 2)

/-- Nothing differs but one link's typed state, which is `x`, and its registers. -/
def OnlyLink (s t : State) (f : Nat) (x : Link) : Prop := t = { s with links := t.links, regs := t.regs } ∧ t.link f = x ∧ ∀ g, g ≠ f → t.link g = s.link g

/-- A request of a session reaches its execution (R315 to R320): the endpoint answers and may send, the source is not blocked, the session is the one in slot `slot`, under the request's version, the
message is sealed and its tag passes, no reserved field is set, and its SEQ is new. -/
abbrev InSession (s : State) (p : Nat) (h : HzHead) (slot : Nat) (x : Session) : Prop :=
  s.answers p = true ∧ s.epPaused p = false ∧ (s.source p h.src).blocked = false ∧ (s.part p).st ≠ .dressing ∧ x.version = h.version
    ∧ s.sessSlot p h.session.toNat = some slot ∧ s.session p slot = some x ∧ h.sealedMsg = true ∧ h.tagOk = true ∧ h.reserved = false
    ∧ h.seq ≠ 0 ∧ h.seq.msb = false ∧ x.kept.find? (fun k => k.1 == h.seq) = none ∧ x.inExec.any (fun q => q.1 == h.seq) = false
    ∧ (lowestKept x.kept).any (fun n => decide (h.seq.toNat ≤ n)) = false ∧ x.inExec.length < 64

/-- The rows of requests that need a session: endpoint, type, header and the length that the body must have (R316). -/
def sessionRow : Instr → Option (Nat × Nat × HzHead × Nat)
  | .heartbeat p h => some (p, 3, h, 0)
  | .closeSession p h => some (p, 4, h, 0)
  | .regRead p h _ _ => some (p, 0x10, h, 16)
  | .regWrite p h _ vals => some (p, 0x11, h, 16 + 8 * vals.length)
  | .memRead p h _ _ => some (p, 0x12, h, 16)
  | .memWrite p h _ data => some (p, 0x13, h, 16 + data.length)
  | .incr p h _ _ _ => some (p, 0x20, h, 16)
  | .subscribe p h _ _ => some (p, 0x30, h, 16)
  | .journalRead p h _ _ => some (p, 0x40, h, 16)
  | .mrReg p h _ _ _ _ => some (p, 0x50, h, 24)
  | .mrDereg p h _ => some (p, 0x51, h, 8)
  | .qpSet p h _ => some (p, 0x52, h, 32)
  | .qpQuery p h _ => some (p, 0x53, h, 8)
  | _ => none

/-- The busy set that a host access must wait for (R35, R113). -/
def mustHold (i : Instr) (s : State) : Option (Nat × Nat) := match i with
  | .memRead p h addr len => if s.hzReaches p h then s.waitsOn { part := p, dump := true } false addr.toNat len.toNat else none
  | .memWrite p h addr data => if s.hzReaches p h then s.waitsOn { part := p } true addr.toNat data.length else none
  | _ => none

/-- The state in which a request is judged: a host access that waited waits no longer. -/
def freeOf (i : Instr) (s : State) : State := match i with
  | .memRead _ _ _ _ | .memWrite _ _ _ _ => s.unhold (.cmd i)
  | _ => s

/-- After a SUBSCRIBE, what the new mask selects is sent (R323). -/
def thenEvents (i : Instr) (s : State) : State := match i with
  | .subscribe p _ _ _ => s.sendEvents p
  | _ => s

/-- A session of an endpoint has answered a request: the response is the last message that left, and is kept for copies of the request (R317, R324). -/
def Answers (t : State) (p slot type : Nat) (h : HzHead) (x : Session) (st : Nat) (body : List Byte) : Prop :=
  (t.endpoint p).out.head? = some (x.reply type h.seq st body) ∧ ∃ y, t.session p slot = some y ∧ y.id = x.id ∧ (h.seq, type, st, body) ∈ y.kept

/-- A packet reaches its queue pair, in RTS, of an endpoint that may send (R325, R328, R331, R332). -/
abbrev AtQp (s : State) (p : Nat) (k : RdmaPkt) : Prop :=
  s.answers p = true ∧ s.epPaused p = false ∧ (s.source p k.src).blocked = false ∧ 0x100 ≤ k.qpn.toNat ∧ k.qpn.toNat ≤ 0x13F ∧ (s.part p).st ≠ .dressing ∧ k.malformed = false
    ∧ (s.qp p k.qpn.toNat).st = .rts ∧ (s.qp p k.qpn.toNat).gid = k.src

/-- The state in which its request is judged: the frame counted, and a CNP sent for ECN-CE (R325). -/
def atQp (s : State) (p : Nat) (k : RdmaPkt) : State := if k.ecn then (s.hostRecv p).sendCnp p k.qpn.toNat else s.hostRecv p


/-- The commands of the always-on domain: the module's power and reset, the board controller's commands (R296, R421, R426), and the over-temperature comparator (R362). -/
def alwaysOn : Instr → Bool
  | .modReset | .powerOn | .powerOff | .startStepComplete _ _ | .inputFault | .railFault _ | .entdaa _ | .bcStatus _ | .setCoord _ _ _ _ | .setBoardLimit _ _
  | .bcTelemetry _ | .bcDress _ _ | .readSummary _ _ _ | .alertRead _ | .raiseSvn _ _ | .identityRead _ | .testArm _ _ _ | .overtempComparator => true
  | _ => false

end Sys2Proof.Claims

open Sys2Proof Sys2Proof.Machine Sys2Proof.Claims

/-- R49, R57: the three-register operations write rd with the result modulo 2^64; s0 stays zero; nothing else changes but CELL.PC and CELL.OPSEQ. -/
def Sys2Proof.Claims.RegisterAluResult : Prop :=
  WritesRd .add 0x008 (fun s c w => rA s c w + rB s c w)
    ∧ WritesRd .sub 0x009 (fun s c w => rA s c w - rB s c w)
    ∧ WritesRd .mul 0x00A (fun s c w => rA s c w * rB s c w)
    ∧ WritesRd .andW 0x00C (fun s c w => rA s c w &&& rB s c w)
    ∧ WritesRd .orW 0x00D (fun s c w => rA s c w ||| rB s c w)
    ∧ WritesRd .xorW 0x00E (fun s c w => rA s c w ^^^ rB s c w)
    ∧ WritesRd .shl 0x010 (fun s c w => rA s c w <<< ((rB s c w).toNat % 64))
    ∧ WritesRd .shr 0x011 (fun s c w => rA s c w >>> ((rB s c w).toNat % 64))
    ∧ WritesRd .sra 0x012 (fun s c w => (rA s c w).sshiftRight ((rB s c w).toNat % 64))
    ∧ WritesRd .slt 0x014 (fun s c w => if (rA s c w).toInt < (rB s c w).toInt then 1 else 0)
    ∧ WritesRd .sltu 0x015 (fun s c w => if (rA s c w).toNat < (rB s c w).toNat then 1 else 0)
    ∧ WritesRd .seq 0x016 (fun s c w => if rA s c w = rB s c w then 1 else 0)

/-- R49, R57: the immediate operations take their 64-bit immediate as it stands in the word; MOVI writes it. -/
def Sys2Proof.Claims.ImmediateAluResult : Prop :=
  WritesRd .addi 0x020 (fun s c w => rA s c w + fImm w)
    ∧ WritesRd .andi 0x024 (fun s c w => rA s c w &&& fImm w)
    ∧ WritesRd .ori 0x025 (fun s c w => rA s c w ||| fImm w)
    ∧ WritesRd .xori 0x026 (fun s c w => rA s c w ^^^ fImm w)
    ∧ WritesRd .shli 0x028 (fun s c w => rA s c w <<< (fImm w).toNat)
    ∧ WritesRd .shri 0x029 (fun s c w => rA s c w >>> (fImm w).toNat)
    ∧ WritesRd .srai 0x02A (fun s c w => (rA s c w).sshiftRight (fImm w).toNat)
    ∧ WritesRd .slti 0x02C (fun s c w => if (rA s c w).toInt < (fImm w).toInt then 1 else 0)
    ∧ WritesRd .sltiu 0x02D (fun s c w => if (rA s c w).toNat < (fImm w).toNat then 1 else 0)
    ∧ WritesRd .seqi 0x02E (fun s c w => if rA s c w = fImm w then 1 else 0)
    ∧ WritesRd .movi 0x02F (fun _ _ w => fImm w)

/-- R57, R58: a conditional branch goes to its target when its registers compare so, else to the next word; the jumps go where they name; CALL leaves the return index in s31;
DBNZ decrements and branches while the register reads non-zero. -/
def Obligations.BranchesSetThePc : Prop :=
  Branches .beq 0x040 (fun a b => a == b) ∧ Branches .bne 0x041 (fun a b => a != b)
    ∧ Branches .blt 0x042 (fun a b => decide (a.toInt < b.toInt)) ∧ Branches .bge 0x043 (fun a b => decide (b.toInt ≤ a.toInt))
    ∧ Branches .bltu 0x044 (fun a b => decide (a.toNat < b.toNat)) ∧ Branches .bgeu 0x045 (fun a b => decide (b.toNat ≤ a.toNat))
    ∧ Jumps .jmp 0x046 (fun _ _ w => fTarget w) (fun _ _ _ => (0, 0))
    ∧ Jumps .call 0x047 (fun _ _ w => fTarget w) (fun s c _ => (31, BitVec.ofNat 64 ((s.pc c + 1) % 4096)))
    ∧ Jumps .ret 0x048 (fun s c _ => (s.sreg c 31).toNat % 4096) (fun _ _ _ => (0, 0))
    ∧ Jumps .jr 0x049 (fun s c w => (s.sreg c (fRd w)).toNat % 4096) (fun _ _ _ => (0, 0))
    ∧ Jumps .dbnz 0x04A (fun s c w => if fRd w = 0 ∨ s.sreg c (fRd w) = 1 then (s.pc c + 1) % 4096 else fTarget w)
        (fun s c w => (fRd w, s.sreg c (fRd w) - 1))

/-- R45: the program counter advances modulo 4,096, and after word 4,095 execution continues at word 0. Stated on NOP, which does nothing else. -/
def Obligations.ProgramCounterWraps : Prop :=
  ∀ (c : CellId) (s : State) (w : Word128), Live s → Takes s c w → wcode w = cNOP →
    Goes (.nop c) s (fun t => t.pc c = (s.pc c + 1) % 4096 ∧ (s.pc c = 4095 → t.pc c = 0) ∧ OnlyRegs s t [pcReg c, seqReg c])

/-- R46: a core that reaches a word whose valid bit is clear halts the cell with HOPPER_UNLOADED; one that reaches a pending word stalls, and executes its contents
once it is valid. Stated for every row of the core's own classes and of the engines' words. -/
def Sys2Proof.Claims.UnloadedHaltsPendingStalls : Prop :=
  ∀ (c : CellId) (s : State), Live s → Reaches s c →
    (((s.cell c).hopper.get {} (s.pc c)).status = .unloaded → (s.cell c).launchPending (s.pc c) = false →
      Goes (.nop c) s (fun t => (t.cell c).st = .halted ∧ t.rf (cellBase c + rHALT) 7 0 = HaltReason.hopperUnloaded.code))
    ∧ (((s.cell c).hopper.get {} (s.pc c)).status = .pending → ∀ r ∈ coreRows, exec (r.1 c) s = .next s)

/-- R54, R59, R79: a word that fails its dispatch checks takes its place in the sequence, has no effect and halts the cell; the halt record names the reason, the unit, the hopper
index, the op sequence number and the word. Stated for every row whose word the core can find. -/
def Sys2Proof.Claims.BadWordHaltsWithRecord : Prop :=
  ∀ r ∈ coreRows, ∀ (c : CellId) (s : State) (w : Word128) (why : HaltReason), Live s → Reaches s c → s.wordAt c = some w → wcode w = r.2 →
    dispatchCheck w = some why →
    Goes (r.1 c) s (fun t => (t.cell c).st = .halted ∧ t.rf (cellBase c + rHALT) 7 0 = why.code ∧ t.rf (cellBase c + rHALT) 11 9 = wordUnit w
      ∧ t.rf (cellBase c + rHALT) 23 12 = s.pc c ∧ t.rd (cellBase c + rFAULTSEQ) = s.opseq c
      ∧ t.rd (cellBase c + rFAULTLO) = BitVec.ofNat 64 (w.toNat % 2 ^ 64) ∧ t.rd (cellBase c + rFAULTHI) = BitVec.ofNat 64 (w.toNat / 2 ^ 64)
      ∧ t.opseq c = s.opseq c + 1 ∧ t.mem = s.mem)

/-- R50, R65, R68, R76: no row of the core acts on a cell that is not RUNNING, whose load or END is awaited, or whose word at the program counter is another row's; the state is left. -/
def Sys2Proof.Claims.CoreRowsWait : Prop :=
  ∀ r ∈ coreRows, ∀ (c : CellId) (s : State), (∃ w, s.wordAt c = some w ∧ wcode w = r.2 ∧ (layoutOf (wcode w)).isSome = true) →
    (s.cell c).st ≠ .running ∨ s.clocked c = false ∨ (s.cell c).ld.isSome = true ∨ (s.cell c).endReq.isSome = true
      ∨ (s.cell c).fenceHolds .core (s.opseq c) = true ∨ (s.cell c).acquireHolds = true →
    exec (r.1 c) s = .next s

/-- R43, R47, R58, R65, R72, R73: the core's other commands. END registers an implicit fence; HFETCH marks its words pending and queues a fetch; HWAIT passes with no
fetch outstanding; RDCNT reads its selector; FENCE is noted; PHASE writes CELL.PHASE and, with LEAD, the region's tag; TRAP raises USER_TRAP and, in mode 1, halts. Where the rules leave a point open, the clauses follow the model's own choice or reading (log 2, 11). -/
def Obligations.CoreCommandsComplete : Prop :=
  ∀ (c : CellId) (s : State) (w : Word128), Live s → Takes s c w →
    (wcode w = cEND → Goes (.endRun c) s (fun t =>
      CellAndRegs s t c { s.cell c with endReq := some { seq := s.opseq c, scope := fld w 111 109, pc := s.pc c, word := w } } [pcReg c, seqReg c]))
    ∧ (wcode w = cHFETCH → (s.cell c).hfetches < 4 → Goes (.hfetch c) s (fun t =>
      (t.cell c).fetches = (s.cell c).fetches ++ [{ launch := false, addr := s.sreg c (fRd w), first := fld w 101 90, count := fld w 89 78 + 1, arrived := 0, acq := wACQ w, seq := s.opseq c }]
      ∧ (∀ j, j < fld w 89 78 + 1 → ((t.cell c).hopper.get {} ((fld w 101 90 + j) % 4096)).status = .pending)
      ∧ (∀ i, i < 4096 → (∀ j, j < fld w 89 78 + 1 → i ≠ (fld w 101 90 + j) % 4096) → (t.cell c).hopper.get {} i = (s.cell c).hopper.get {} i)))
    ∧ (wcode w = cHWAIT → (s.cell c).hfetches = 0 → Goes (.hwait c) s (fun t => t.pc c = (s.pc c + 1) % 4096 ∧ OnlyRegs s t [pcReg c, seqReg c]))
    ∧ (wcode w = cRDCNT → Goes (.rdcnt c) s (fun t => t.pc c = (s.pc c + 1) % 4096
      ∧ (fRd w ≠ 0 → (fld w 106 103 = 1 → t.sreg c (fRd w) = s.opseq c) ∧ (fld w 106 103 = 2 → t.sreg c (fRd w) = BitVec.ofNat 64 c)
        ∧ (fld w 106 103 = 3 → t.sreg c (fRd w) = BitVec.ofNat 64 (s.job c))
        ∧ (fld w 106 103 = 4 → t.sreg c (fRd w) = BitVec.ofNat 64 (s.coordOf (s.cellPart c)))
        ∧ (fld w 106 103 = 5 → ∃ n : Nat, t.sreg c (fRd w) = BitVec.ofNat 64 (n * (if s.partSecure (s.cellPart c) then 1000 else 40)) ∧ n * 40 < 2 ^ 64))))
    ∧ (wcode w = cFENCE → Goes (.fence c) s (fun t => CellAndRegs s t c
      { s.cell c with fences := (s.cell c).fences ++ [{ seq := s.opseq c, scope := fld w 111 109, wait := fld w 108 104, hold := fld w 103 99 }] } [pcReg c, seqReg c]))
    ∧ (wcode w = cPHASE → Goes (.phase c) s (fun t => t.rd (cellBase c + 0x88) = BitVec.ofNat 64 (fld w 111 106 + 256 * b2n (bit w 105))
      ∧ t.cells = s.cells ∧ (bit w 105 = true → (t.region (cellRegion c)).tag = some (fld w 111 106) ∧ (t.region (cellRegion c)).tagJob = s.job c)))
    ∧ (wcode w = cTRAP → Goes (.trap c) s (fun t =>
      (s.cellEvent c evUserTrap (s.job c) (fld w 111 96) (s.opseq c).toNat (s.sreg c (fld w 93 89)).toNat) ∈ t.raised
      ∧ (t.cell c).st = (if fld w 95 94 = 1 then .halted else .running)
      ∧ (fld w 95 94 = 1 → t.rf (cellBase c + rHALT) 7 0 = HaltReason.userTrap.code)))

/-- R51, R52, R56: LD and ST. An accepted LD stalls the core until its data returns; an accepted ST is posted; with eight outstanding, the
core stalls until the oldest of them is performed; a refused one halts the cell with ADDRESS_FAULT and its address. -/
def Sys2Proof.Claims.LoadsAndStoresAreTaken : Prop :=
  ∀ (c : CellId) (s : State) (w : Word128), Live s → Takes s c w →
    (wcode w = cLD → s.ldFault c (rA s c w + fImm w) (sizeBytes (fld w 37 35)) = false → Goes (.ld c) s (fun t =>
      CellAndRegs s t c { s.cell c with ld := some { rt := fRd w, addr := rA s c w + fImm w, size := fld w 37 35, seq := s.opseq c, pc := s.pc c, word := w } }
        [pcReg c, seqReg c]))
    ∧ (wcode w = cST → s.stFault c (rA s c w + fImm w) (sizeBytes (fld w 37 35)) = false → (s.cell c).posted.length < 8 →
      (s.cell c).posted.any (fun t => (s.cell c).stWait == some t.seq) = false → Goes (.st c) s (fun t =>
      CellAndRegs s t c { s.cell c with
        stWait := none, sts := (s.cell c).sts ++
          [{ addr := rA s c w + fImm w, bytes := toBytes (sizeBytes (fld w 37 35)) (s.sreg c (fRd w)).toNat, seq := s.opseq c, pc := s.pc c, word := w }] }
        [pcReg c, seqReg c]))
    ∧ (∀ o, wcode w = cST → s.stFault c (rA s c w + fImm w) (sizeBytes (fld w 37 35)) = false → (s.cell c).posted.head? = some o → 8 ≤ (s.cell c).posted.length →
      (s.cell c).posted.any (fun t => (s.cell c).stWait == some t.seq) = false → Goes (.st c) s (fun t => OnlyCell s t c { s.cell c with stWait := some o.seq }))
    ∧ (∀ o ∈ (s.cell c).posted, wcode w = cST → s.stFault c (rA s c w + fImm w) (sizeBytes (fld w 37 35)) = false → (s.cell c).stWait = some o.seq →
      exec (.st c) s = .next s)
    ∧ (wcode w = cLD → s.ldFault c (rA s c w + fImm w) (sizeBytes (fld w 37 35)) = true → Goes (.ld c) s (fun t =>
      (t.cell c).st = .halted ∧ t.rf (cellBase c + rHALT) 7 0 = HaltReason.addressFault.code ∧ t.rd (cellBase c + rFAULTADDR) = rA s c w + fImm w ∧ t.mem = s.mem))
    ∧ (wcode w = cST → s.stFault c (rA s c w + fImm w) (sizeBytes (fld w 37 35)) = true → Goes (.st c) s (fun t =>
      (t.cell c).st = .halted ∧ t.rf (cellBase c + rHALT) 7 0 = HaltReason.addressFault.code ∧ t.rd (cellBase c + rFAULTADDR) = rA s c w + fImm w ∧ t.mem = s.mem))

/-- R52, R56, R192, R233: the data of a load from memory, clean, goes extended into its register; poisoned, it halts the cell; a load of a counter returns the counter's value. -/
def Sys2Proof.Claims.LoadDataReturns : Prop :=
  ∀ (c : CellId) (s : State) (l : LdReq), Live s → (s.cell c).ld = some l → (s.cell c).st = .running →
    (∀ k, s.locate (s.cellRq c) false l.addr.toNat (sizeBytes l.size) = .mem k → s.busyAt k (sizeBytes l.size) = none → (s.cell c).sts = [] → s.lostRegions = [] →
      ((∀ j, j < sizeBytes l.size → s.poisoned (k + j) = false) → s.missedUnits k (sizeBytes l.size) = [] →
        Goes (.ldDataReturn c .ok) s (fun t => (t.cell c).ld = none ∧ t.sreg c l.rt = (if l.rt = 0 then 0 else extendLoad l.size (ofBytes (s.readB k (sizeBytes l.size))))
          ∧ t.mem = s.mem ∧ t.poison = s.poison ∧ t.counters = s.counters ∧ (t.cell c).st = .running))
      ∧ ((∃ j, j < sizeBytes l.size ∧ s.poisoned (k + j) = true) →
        Goes (.ldDataReturn c .ok) s (fun t => (t.cell c).ld = none ∧ (t.cell c).st = .halted ∧ t.rf (cellBase c + rHALT) 7 0 = HaltReason.poison.code
          ∧ t.rd (cellBase c + rFAULTADDR) = l.addr ∧ t.mem = s.mem)))
    ∧ (∀ off k, s.locate (s.cellRq c) false l.addr.toNat (sizeBytes l.size) = .ctr off → s.ctrKey (s.cellPart c) off = some k → s.ctrLost k = false → s.cellLost c = false →
      l.size = 3 → off % 8 = 0 →
      Goes (.ldDataReturn c .ok) s (fun t => (t.cell c).ld = none ∧ t.sreg c l.rt = (if l.rt = 0 then 0 else (s.ctr k).value) ∧ t.counters = s.counters ∧ t.mem = s.mem))

/-- R52, R62, R63, R64, R113, R233: a posted store that no earlier one blocks is performed at CELL scope, which frees its place, and then at every scope, when no busy set holds it: its
bytes are written at the address its request names, unless its piece holds poison, and every other byte of memory is left; one for a busy set is held until the set is free; the fence that waited
is dropped once what it waits for is done. Where the rules leave a point open, the clauses follow the model's own choice or reading (log 15, 52). -/
def Obligations.StoresArePerformed : Prop :=
  ∀ (c : CellId) (s : State), Live s →
    (∀ (i : Nat) (q : StReq), (s.cell c).sts[i]? = some q → s.stBlocked c q ((s.cell c).sts.take i) = false → q.atCell = false → s.ownStore c q = false →
      Goes (.stPerformed c i) s (fun t => OnlyCell s t c { s.cell c with sts := setAt (s.cell c).sts i { q with atCell := true } }))
    ∧ (∀ (i : Nat) (q : StReq) (k : Nat), (s.cell c).sts[i]? = some q → s.stBlocked c q ((s.cell c).sts.take i) = false → q.atCell = true ∨ s.ownStore c q = true →
      s.locate (s.cellRq c) true q.addr.toNat q.bytes.length = .mem k → s.busyAt k q.bytes.length = none → s.lostRegions = [] →
      s.stale = [] → s.missedUnits k q.bytes.length = [] → 0 < q.bytes.length → k % 32 + q.bytes.length ≤ 32 → q.bytes.length < 32 →
      Goes (.stPerformed c i) s (fun t => (t.cell c).sts = dropAt (s.cell c).sts i
        ∧ (∀ a, t.memB a = if k ≤ a ∧ a < k + q.bytes.length ∧ s.poisoned k = false then q.bytes.getD (a - k) 0 else s.memB a)
        ∧ t.poison = s.poison ∧ t.far = s.far ∧ (∀ d, d ≠ c.val → t.cell d = s.cell d)))
    ∧ (∀ (i : Nat) (q : StReq) (k : Nat) (d : Nat × Nat), (s.cell c).sts[i]? = some q → s.stBlocked c q ((s.cell c).sts.take i) = false →
      q.atCell = true ∨ s.ownStore c q = true → s.locate (s.cellRq c) true q.addr.toNat q.bytes.length = .mem k → 0 < q.bytes.length → s.busyAt k q.bytes.length = some d →
      Goes (.stPerformed c i) s (fun t => { who := .core c q.seq, cell := d.1, set := d.2 } ∈ t.held ∧ t = { s with held := t.held }))
    ∧ (∀ (i : Nat) (f : Fence), (s.cell c).fences[i]? = some f → (s.cell c).earlierDone f.wait f.scope f.seq = true →
      Goes (.fenceSatisfied c i) s (fun t => OnlyCell s t c { s.cell c with fences := dropAt (s.cell c).fences i }))
    ∧ (∀ (i r j : Nat) (h : Held) (q : Word64) (x : StReq) (k : Nat), (s.held.filter (fun h => h.cell == c.val))[i]? = some h → h.who = .core r q →
      findIdx (fun y : StReq => y.seq == q) (s.cell r).sts = some j →
      (s.cell r).sts[j]? = some x → s.stBlocked r x ((s.cell r).sts.take j) = false → x.atCell = true ∨ s.ownStore r x = true →
      s.locate (s.cellRq r) true x.addr.toNat x.bytes.length = .mem k → s.busyAt k x.bytes.length = none →
      Goes (.heldAccessProceed c i) s (fun t => (∀ g ∈ t.held, g.who ≠ .core r q) ∧ (∀ g ∈ s.held, g.who ≠ .core r q → g ∈ t.held) ∧ (t.cell r).sts = dropAt (s.cell r).sts j))
    ∧ (∀ (i : Nat) (h : Held), (s.held.filter (fun h => h.cell == c.val))[i]? = some h → s.heldAlive h = false →
      Goes (.heldAccessProceed c i) s (fun t => t = { s with held := s.held.filter (fun g => g.who != h.who) }))

/-- R43: when END's fence is satisfied the run ends: IDLE without REARM; with REARM, LAUNCH_STRIDE is added to LAUNCH_EXPECT and the cell is armed again. Where the rules leave a point open, the clauses follow the model's own choice or reading (log 52). -/
def Obligations.EndOfRun : Prop :=
  ∀ (c : CellId) (s : State) (e : EndReq), Live s → (s.cell c).endReq = some e → (s.cell c).st = .running → (s.cell c).earlierDone 31 e.scope e.seq = true →
    (s.rb (cellBase c + 0x48) 12 = false → Goes (.endComplete c) s (fun t => (t.cell c).st = .idle ∧ (t.cell c).endReq = none
      ∧ t.regs = s.regs ∧ t.mem = s.mem ∧ ∀ d, d ≠ c.val → t.cell d = s.cell d))
    ∧ (s.rb (cellBase c + 0x48) 12 = true → Goes (.endComplete c) s (fun t =>
      t.rd (cellBase c + 0x58) = s.rd (cellBase c + 0x58) + s.rd (cellBase c + 0x60) ∧ t.opseq c = 0
      ∧ ((t.cell c).st = .armed ∨ (t.cell c).st = .fetching ∨ (t.cell c).st = .running) ∧ (∀ n, t.sreg c n = s.sreg c n) ∧ ((s.cell c).sts = [] → t.mem = s.mem)
      ∧ ∀ d, d ≠ c.val → t.cell d = s.cell d))

/-- R40, R41, R42: ARM in IDLE with a job and a reachable launch counter is accepted: s1 to s31 read zero, the op sequence number is 0, the launch registers are latched, and the cell is
ARMED or, its counter's test met, FETCHING word 0; refused, it only sets CMD_REJECT. DISARM returns an ARMED cell to IDLE. -/
def Sys2Proof.Claims.ArmAndDisarm : Prop :=
  ∀ (c : CellId) (s : State), Live s →
    (s.armOk c = true → Goes (.cellArm c) s (fun t =>
      (∀ n, n < 32 → t.sreg c n = 0) ∧ t.opseq c = 0 ∧ ((t.cell c).st = .armed ∨ (t.cell c).st = .fetching)
      ∧ (s.rb (cellBase c + 0x50) 63 = true → (t.cell c).st = .fetching ∧ t.pc c = 0)
      ∧ (t.cell c).lAddr = s.rd (cellBase c + 0x40) ∧ (t.cell c).lCfg = s.rd (cellBase c + 0x48) ∧ (t.cell c).lCtr = s.rd (cellBase c + 0x50)
      ∧ (t.cell c).lExpect = s.rd (cellBase c + 0x58) ∧ t.job c = s.job c ∧ ((s.cell c).sts = [] → t.mem = s.mem) ∧ (∀ d, d ≠ c.val → t.cell d = s.cell d)))
    ∧ (s.armOk c = false → Goes (.cellArm c) s (fun t => t.rb (cellBase c + rSTATUS) 17 = true ∧ OnlyRegs s t [cellBase c + rSTATUS]))
    ∧ ((s.cell c).st = .armed → Goes (.cellDisarm c) s (fun t => (t.cell c).st = .idle ∧ t.regs = s.regs ∧ t.mem = s.mem
      ∧ (∀ k, s.ctrKey (s.cellPart c) (fld (s.cell c).lCtr 21 3 * 8) = some k → ∀ w ∈ (t.ctr k).waiters, w.cell ≠ c.val)
      ∧ ∀ d, d ≠ c.val → t.cell d = s.cell d))

/-- R76, R78: the life cycle's other commands, each from the states it is accepted in: DRAIN withdraws waits and END; KILL empties every engine and queue; CLEAR
zeroes what the kill froze; RESUME follows a TRAP's halt; FREEZE set and cleared; and the transitions the cell makes by itself. -/
def Sys2Proof.Claims.CellLifeCycle : Prop :=
  ∀ (c : CellId) (s : State), Live s →
    ((s.cell c).st = .running ∨ (s.cell c).st = .freezing ∨ (s.cell c).st = .frozen → (s.cell c).xSync.all SyncX.parked = true →
      Goes (.cellDrain c) s (fun t => (t.cell c).st = .draining ∧ (t.cell c).endReq = none ∧ (t.cell c).qArray = (s.cell c).qArray ∧ t.mem = s.mem))
    ∧ ((s.cell c).st ≠ .idle → (s.cell c).st ≠ .killing → (s.cell c).st ≠ .killed →
      Goes (.cellKill c) s (fun t => (t.cell c).st = .killing ∧ (t.cell c).frozenCtrs = true ∧ (t.cell c).qArray = [] ∧ (t.cell c).qVector = []
        ∧ (t.cell c).qSluice = [] ∧ (t.cell c).qSync = [] ∧ (t.cell c).xArray = [] ∧ (t.cell c).xVector = [] ∧ (t.cell c).xSync = [] ∧ (t.cell c).xSluice = []
        ∧ (t.cell c).sts = [] ∧ (t.cell c).ld = none ∧ (t.cell c).fetches = [] ∧ (t.cell c).endReq = none))
    ∧ ((s.cell c).st = .killed → Goes (.cellClear c) s (fun t => (t.cell c).st = .idle ∧ (t.cell c).frozenCtrs = false ∧ (∀ o ∈ frozenRegs c, t.rd o = 0) ∧ t.mem = s.mem))
    ∧ ((s.cell c).st = .halted → s.rf (cellBase c + rHALT) 7 0 = HaltReason.userTrap.code → Goes (.cellResume c) s (fun t => OnlyCell s t c { s.cell c with st := .running }))
    ∧ ((s.cell c).st = .armed ∨ (s.cell c).st = .fetching ∨ (s.cell c).st = .running →
      Goes (.freezeSet c) s (fun t => OnlyCell s t c { s.cell c with st := .freezing, prior := (s.cell c).st }))
    ∧ ((s.cell c).st = .freezing ∨ (s.cell c).st = .frozen → (s.cell c).prior ≠ .armed → (s.cell c).xSync = [] →
      Goes (.freezeClear c) s (fun t => (t.cell c).st = (s.cell c).prior ∧ t.regs = s.regs ∧ t.mem = s.mem ∧ ∀ d, d ≠ c.val → t.cell d = s.cell d))
    ∧ ((s.cell c).st = .freezing ∨ (s.cell c).st = .frozen → (s.cell c).prior = .armed → (s.cell c).xSync = [] →
      Goes (.freezeClear c) s (fun t => ((t.cell c).st = .armed ∨ (t.cell c).st = .fetching ∨ (t.cell c).st = .running)
        ∧ (bit (s.cell c).lCtr 63 = true → (t.cell c).st ≠ .armed) ∧ ((s.cell c).sts = [] → t.mem = s.mem)))
    ∧ ((s.cell c).st = .freezing → s.executing c = false → Goes (.freezeComplete c) s (fun t => t.cell c = { s.cell c with st := .frozen } ∧ t.regs = s.regs
        ∧ ∀ d, d ≠ c.val → t.cell d = s.cell d))
    ∧ ((s.cell c).st = .draining → s.executing c = false → (s.cell c).qArray = [] → (s.cell c).qVector = [] → (s.cell c).qSluice = [] → (s.cell c).qSync = [] →
      (s.cell c).xSluice = [] → (s.cell c).xSync = [] → Goes (.cellDrainComplete c) s (fun t => (t.cell c).st = .idle ∧ t.regs = s.regs ∧ t.mem = s.mem))
    ∧ ((s.cell c).st = .killing → s.executing c = false → Goes (.killComplete c) s (fun t => t.cell c = { s.cell c with st := .killed } ∧ t.regs = s.regs))

/-- R76: a CELL.CTRL write in a state that does not accept it sets CMD_REJECT and changes nothing else. -/
def Sys2Proof.Claims.RejectedControlWrites : Prop :=
  ∀ (c : CellId) (s : State), Live s →
    ((s.cell c).st ≠ .armed → Goes (.cellDisarm c) s (fun t => t.rb (cellBase c + rSTATUS) 17 = true ∧ OnlyRegs s t [cellBase c + rSTATUS]))
    ∧ ((s.cell c).st = .idle ∨ (s.cell c).st = .armed ∨ (s.cell c).st = .halted → Goes (.cellDrain c) s (fun t => t.rb (cellBase c + rSTATUS) 17 = true ∧ OnlyRegs s t [cellBase c + rSTATUS]))
    ∧ ((s.cell c).st = .idle ∨ (s.cell c).st = .killing ∨ (s.cell c).st = .killed → Goes (.cellKill c) s (fun t => t.rb (cellBase c + rSTATUS) 17 = true ∧ OnlyRegs s t [cellBase c + rSTATUS]))
    ∧ ((s.cell c).st ≠ .killed → Goes (.cellClear c) s (fun t => t.rb (cellBase c + rSTATUS) 17 = true ∧ OnlyRegs s t [cellBase c + rSTATUS]))
    ∧ ((s.cell c).st ≠ .halted → Goes (.cellResume c) s (fun t => t.rb (cellBase c + rSTATUS) 17 = true ∧ OnlyRegs s t [cellBase c + rSTATUS]))

/-- R74, R81, R104: CELL.JOB is written in IDLE only; the scalar registers and the hopper through its holding register in IDLE, FROZEN and HALTED only; HOPPER_INDEX advances modulo 4,096;
the NaN record is cleared whole. -/
def Sys2Proof.Claims.CellDebugRegisters : Prop :=
  ∀ (c : CellId) (v : Word64) (s : State), Live s →
    ((s.cell c).st = .idle → Goes (.cellJobWrite c v) s (fun t => t.job c = v.toNat % 2 ^ 16 ∧ OnlyRegs s t [cellBase c + rJOB]))
    ∧ ((s.cell c).st ≠ .idle → Goes (.cellJobWrite c v) s (fun t => t.rb (cellBase c + rSTATUS) 17 = true ∧ OnlyRegs s t [cellBase c + rSTATUS]))
    ∧ ((s.cell c).st = .idle ∨ (s.cell c).st = .frozen ∨ (s.cell c).st = .halted →
      (∀ n : Fin 32, Goes (.sregWrite c n v) s (fun t => t.sreg c n = (if n = 0 then 0 else v) ∧ OnlyRegs s t (if n = 0 then [] else [scalarReg c n])))
      ∧ Goes (.hopperDataLoWrite c v) s (fun t => OnlyCell s t c { s.cell c with holding := v })
      ∧ Goes (.hopperDataHiWrite c v) s (fun t =>
        (t.cell c).hopper.get {} (s.rf (cellBase c + rHINDEX) 11 0) = { bits := v ++ (s.cell c).holding, status := .valid }
        ∧ (∀ i, i ≠ s.rf (cellBase c + rHINDEX) 11 0 → (t.cell c).hopper.get {} i = (s.cell c).hopper.get {} i)
        ∧ t.rf (cellBase c + rHINDEX) 11 0 = (s.rf (cellBase c + rHINDEX) 11 0 + 1) % 4096))
    ∧ ((s.cell c).st ≠ .idle → (s.cell c).st ≠ .frozen → (s.cell c).st ≠ .halted → ∀ n : Fin 32,
      Goes (.sregWrite c n v) s (fun t => t.rb (cellBase c + rSTATUS) 17 = true ∧ OnlyRegs s t [cellBase c + rSTATUS]))
    ∧ Goes (.hopperDataHiRead c) s (fun t => t.rf (cellBase c + rHINDEX) 11 0 = (s.rf (cellBase c + rHINDEX) 11 0 + 1) % 4096 ∧ OnlyRegs s t [cellBase c + rHINDEX])
    ∧ Goes (.nanRecClear c) s (fun t => (∀ o ∈ [rNANSEQ, rNANLOC, rNANK, 0x428, 0x430], t.rd (cellBase c + o) = 0)
      ∧ OnlyRegs s t ([rNANSEQ, rNANLOC, rNANK, 0x428, 0x430].map (fun o => cellBase c + o)))

/-- R42, R44, R47, R48: a fetched word of the oldest fetch that reads clean, readable memory becomes valid with the sixteen bytes at its address; the launch fetch's word 0 moves a FETCHING cell
to RUNNING; a launch word that reads poison as word 0 halts the cell. Where the rules leave a point open, the clauses follow the model's own choice or reading (log 53). -/
def Obligations.FetchedWordsArrive : Prop :=
  ∀ (c : CellId) (s : State) (f : Fetch) (k : Nat), Live s → (s.cell c).fetches = [f] → f.arrived < f.count → f.first + f.arrived < 4096 →
    fld f.addr 56 52 = 0 ∨ fld f.addr 56 52 = 2 ∨ fld f.addr 56 52 = 3 →
    s.locate (s.cellRq c) false (fld (f.addr + BitVec.ofNat 64 (16 * f.arrived)) 56 0) 16 = .mem k → s.busyAt k 16 = none →
    (f.launch = true → (s.cell c).st = .fetching ∨ (s.cell c).st = .running →
      ((∀ j, j < 16 → s.poisoned (k + j) = false) → s.missedUnits k 16 = [] → s.lostRegions = [] → Goes (.launchFetchWord c .ok) s (fun t =>
        (t.cell c).hopper.get {} (f.first + f.arrived) = { bits := BitVec.ofNat 128 (ofBytes (s.readB k 16)), status := .valid }
        ∧ (t.cell c).fetches = (if f.arrived + 1 < f.count then [{ f with arrived := f.arrived + 1 }] else [])
        ∧ (f.arrived = 0 → f.first = 0 → (t.cell c).st = .running) ∧ t.mem = s.mem))
      ∧ ((∃ j, j < 16 ∧ s.poisoned (k + j) = true) → f.arrived = 0 → f.first = 0 → (s.cell c).st = .fetching → Goes (.launchFetchWord c .ok) s (fun t =>
        (t.cell c).st = .halted ∧ t.rf (cellBase c + rHALT) 7 0 = HaltReason.poison.code ∧ t.mem = s.mem)))
    ∧ (f.launch = false → (s.cell c).st ≠ .killing → (s.cell c).st ≠ .killed → fld f.addr 3 0 = 0 → fld f.addr 63 57 = 0 →
      (∃ l, s.locate (s.cellRq c) false (fld f.addr 56 0) (16 * f.count) = .mem l) → (∀ j, j < 16 → s.poisoned (k + j) = false) → s.missedUnits k 16 = [] → s.lostRegions = [] →
      Goes (.hfetchWordArrive c .ok) s (fun t =>
        (t.cell c).hopper.get {} (f.first + f.arrived) = { bits := BitVec.ofNat 128 (ofBytes (s.readB k 16)), status := .valid }
        ∧ (t.cell c).fetches = (if f.arrived + 1 < f.count then [{ f with arrived := f.arrived + 1 }] else []) ∧ (t.cell c).st = (s.cell c).st ∧ t.mem = s.mem))

/-- R60: a taken engine word joins the back of its queue with its operands read, when the queue has room, and does nothing else but move CELL.PC, CELL.OPSEQ and the queue's high-water mark;
a full queue stalls the core. -/
def Sys2Proof.Claims.EngineWordsAreQueued : Prop :=
  ∀ r ∈ engineRows, ∀ (c : CellId) (s : State) (w : Word128), Live s → Takes s c w → wcode w = r.2 →
    (((s.cell c).queue (classUnit (r.2 / 256))).length < queueDepth (classUnit (r.2 / 256)) → Goes (r.1 c .dispatch) s (fun t =>
      CellAndRegs s t c ((s.cell c).setQueue (classUnit (r.2 / 256)) ((s.cell c).queue (classUnit (r.2 / 256))
        ++ [{ word := w, seq := s.opseq c, pc := s.pc c, ops := (opRegs w).map (s.sreg c) }])) [pcReg c, seqReg c, cellBase c + 0x98]
      ∧ t.pc c = (s.pc c + 1) % 4096 ∧ t.opseq c = s.opseq c + 1))
    ∧ (queueDepth (classUnit (r.2 / 256)) ≤ ((s.cell c).queue (classUnit (r.2 / 256))).length → exec (r.1 c .dispatch) s = .next s)

/-- R61, R112, R113, R119, R159, R202: the engine begins the oldest queued command when it is free and nothing holds the queue; otherwise nothing happens. -/
def Sys2Proof.Claims.EnginesBeginInOrder : Prop :=
  ∀ (c : CellId) (u : CUnit) (s : State) (q : QCmd) (rest : List QCmd), Live s → u ≠ .core → (s.cell c).queue u = q :: rest →
    ((s.cell c).st.begins = true → s.clocked c = true → (s.cell c).fenceHolds u q.seq = false → (wREL q.word = true → (s.cell c).earlierDone 31 (s.relScope c q.word) q.seq = true) →
      s.engineFree c u q.word = true →
      Goes (.engineCommandBegin c u) s (fun t => (t.cell c).queue u = rest ∧ OnlyCell s t c (((s.cell c).setQueue u rest).begin u q (s.nanCfg c))))
    ∧ ((s.cell c).st.begins = false ∨ s.engineFree c u q.word = false ∨ (s.cell c).fenceHolds u q.seq = true → exec (.engineCommandBegin c u) s = .next s)

/-- R107, R111, R115, R118: TDLD loads its descriptor register from the cell store, AFILL fills its set, MMA zeroes its set when asked and counts its slices; a TDLD that breaks its alignment
ends in a halt with code 2 in ARR.ERR. -/
def Sys2Proof.Claims.ArrayLoadsFillsAndStarts : Prop :=
  ∀ (c : CellId) (s : State) (i : Nat) (y : ArrX), Live s →
    (ArrNext s c i y cTDLD → fld y.cmd.word 107 86 % 16 = 0 → fld y.cmd.word 107 86 + 32 ≤ 0x40_0000 → s.poisonAddr c [(fld y.cmd.word 107 86, 32)] = none →
      Goes (.tdld c .execute) s (fun t =>
        (∀ w, w < 4 → t.rd (cellBase c + rTD (fld y.cmd.word 111 108) w) = BitVec.ofNat 64 (ofBytes (s.readB (cellKey c (fld y.cmd.word 107 86 + 8 * w)) 8)))
        ∧ CellAndRegs s t c { s.cell c with xArray := setAt (s.cell c).xArray i { y.end with started := true } }
          ((upTo 4).map (fun w => cellBase c + rTD (fld y.cmd.word 111 108) w))))
    ∧ (ArrNext s c i y cTDLD → fld y.cmd.word 107 86 % 16 ≠ 0 → (s.cell c).st = .running → Goes (.tdld c .execute) s (fun t =>
        (t.cell c).st = .halted ∧ t.rf (cellBase c + rHALT) 7 0 = HaltReason.engineError.code ∧ t.rf (cellBase c + rARRERR) 7 0 = 2
        ∧ (t.cell c).xArray = dropAt (s.cell c).xArray i ∧ t.mem = s.mem))
    ∧ (ArrNext s c i y cAFILL → Goes (.afill c .execute) s (fun t =>
        (∀ j, j < 1024 → t.readB (cellKey c (setOff (fld y.cmd.word 111 110) + 4 * j)) 4 = toBytes 4 (fld (y.cmd.ops.getD 0 0) 31 0))
        ∧ (∀ j, j < 4096 → t.poisoned (cellKey c (setOff (fld y.cmd.word 111 110) + j)) = false)
        ∧ CellWork s t c [(cellKey c (setOff (fld y.cmd.word 111 110)), 4096)] ∧ t.regs = s.regs
        ∧ (t.cell c).xArray = setAt (s.cell c).xArray i { y.end with started := true }))
    ∧ (ArrNext s c i y cMMA → (s.mmaOf c y.cmd).opFails (s.mmaOf c y.cmd).a false = [] → (s.mmaOf c y.cmd).opFails (s.mmaOf c y.cmd).b true = [] →
      Goes (.mma c .execute) s (fun t =>
        (t.cell c).xArray = setAt (s.cell c).xArray i { y with total := (s.mmaOf c y.cmd).slices, started := true }
        ∧ ((s.mmaOf c y.cmd).zero = true → ∀ j, j < 4096 → t.memB (cellKey c (setOff (s.mmaOf c y.cmd).set + j)) = 0)
        ∧ ((s.mmaOf c y.cmd).zero = false → t.mem = s.mem ∧ t.poison = s.poison)
        ∧ CellWork s t c [(cellKey c (setOff (s.mmaOf c y.cmd).set), 4096)] ∧ t.regs = s.regs))

/-- R91, R92, R93, R105, R110, R111, R119, R121, R124: a slice of an MMA is issued, its column data in the cell store or at the front of the headrace buffer: it writes its set alone,
with the accumulators that the slice leaves, and is counted; DRAIN writes its rows, scales and statistics and, when it
zeroes, its set; ASCALE multiplies every element of a clean set by its row's clean factor. -/
def Sys2Proof.Claims.ArrayWorkStaysInItsBytes : Prop :=
  ∀ (c : CellId) (s : State) (i : Nat) (y : ArrX), Live s →
    (findIdx (fun z => z.started && !z.finished && wcode z.cmd.word == cMMA) (s.cell c).xArray = some i → (s.cell c).xArray[i]? = some y →
      y.slices < y.total → s.clocked c = true →
      (dSRC (s.mmaOf c y.cmd).b.d ≠ 1 → Goes (.mmaSliceIssue c y.slices) s (fun t => SliceDone s t c i y (sliceOf s c y
        (s.operandRows c (s.mmaOf c y.cmd).b (s.mmaOf c y.cmd).koff (y.slices * (s.mmaOf c y.cmd).w) (min (s.mmaOf c y.cmd).w ((s.mmaOf c y.cmd).k - y.slices * (s.mmaOf c y.cmd).w)))
        (s.operandScales c (s.mmaOf c y.cmd).b (s.mmaOf c y.cmd).koff (y.slices * (s.mmaOf c y.cmd).w) (min (s.mmaOf c y.cmd).w ((s.mmaOf c y.cmd).k - y.slices * (s.mmaOf c y.cmd).w))))))
      ∧ (∀ bs, dSRC (s.mmaOf c y.cmd).b.d = 1 → (s.cell c).hrBypass = false → (s.cell c).st ≠ .frozen → s.hrPeek c (s.mmaOf c y.cmd).streamBytes = .bytes bs →
        Goes (.mmaSliceIssue c y.slices) s (fun t =>
          SliceDone s t c i y (sliceOf s c y ((s.mmaOf c y.cmd).streamRows bs).1 ((s.mmaOf c y.cmd).streamRows bs).2))))
    ∧ (ArrNext s c i y cDRAIN → (s.drainOf c y.cmd.word).fails = [] → Goes (.drain c .execute) s (fun t =>
        (∃ z, (t.cell c).xArray = setAt (s.cell c).xArray i z ∧ z.cmd = y.cmd ∧ z.started = true ∧ z.finished = true ∧ z.setFree = true)
        ∧ CellWorkEv s t c (((s.drainOf c y.cmd.word).writes ++ [(setOff (s.drainOf c y.cmd.word).set, 4096)]).map (fun r : Nat × Nat => (cellKey c r.1, r.2)))
        ∧ ((s.drainOf c y.cmd.word).zeroAfter = true → ∀ j, j < 4096 → t.memB (cellKey c (setOff (s.drainOf c y.cmd.word).set + j)) = 0)))
    ∧ (ArrNext s c i y cASCALE → fld y.cmd.word 109 88 % 128 = 0 → fld y.cmd.word 109 88 + 128 ≤ 0x40_0000 →
      s.poisonAddr c [(fld y.cmd.word 109 88, 128), (setOff (fld y.cmd.word 111 110), 4096)] = none → Goes (.ascale c .execute) s (fun t =>
        (∀ r k, r < 32 → k < 32 → t.readB (cellKey c (setOff (fld y.cmd.word 111 110) + 4 * (32 * r + k))) 4
          = toBytes 4 (mul32 (ofBytes (s.readB (cellKey c (setOff (fld y.cmd.word 111 110) + 4 * (32 * r + k))) 4))
            (ofBytes (s.readB (cellKey c (fld y.cmd.word 109 88 + 4 * r)) 4))).1)
        ∧ CellWorkEv s t c [(cellKey c (setOff (fld y.cmd.word 111 110)), 4096)]
        ∧ ∃ z, (t.cell c).xArray = setAt (s.cell c).xArray i z ∧ z.finished = true))

/-- R61, R104, R118, R119, R435: a finished array command leaves the front of its engine; one that found a NaN origin under HALT, met an error or consumed poison halts the cell as it
does so. Where the rules leave a point open, the clauses follow the model's own choice or reading (log 36). -/
def Obligations.ArrayCommandsComplete : Prop :=
  ∀ (c : CellId) (s : State) (y : ArrX) (rest : List ArrX), Live s → (s.cell c).xArray = y :: rest →
    (y.finished = true → NoNanHalt y.cmd y.nanCfg y.origin → y.err = none → y.poisonAt = none →
      Goes (.arrayCommandComplete c) s (fun t => OnlyCell s t c { s.cell c with xArray := rest }))
    ∧ (y.finished = true → NoNanHalt y.cmd y.nanCfg y.origin → y.err = none → (s.cell c).st = .running → ∀ a, y.poisonAt = some a →
      Goes (.arrayCommandComplete c) s (fun t => (t.cell c).st = .halted ∧ (t.cell c).xArray = rest ∧ t.rf (cellBase c + rHALT) 7 0 = HaltReason.poison.code
        ∧ t.rd (cellBase c + rFAULTADDR) = a ∧ t.rd (cellBase c + rFAULTSEQ) = y.cmd.seq ∧ t.mem = s.mem))
    ∧ (y.finished = true → y.origin.isSome = true → wTRAP y.cmd.word = true → y.nanCfg % 2 = 1 → (s.cell c).st = .running →
      Goes (.arrayCommandComplete c) s (fun t => (t.cell c).st = .halted ∧ (t.cell c).xArray = rest ∧ t.rf (cellBase c + rHALT) 7 0 = HaltReason.nanTrap.code
        ∧ t.rd (cellBase c + rFAULTSEQ) = y.cmd.seq ∧ t.mem = s.mem))
    ∧ (∀ code td tag, y.finished = true → NoNanHalt y.cmd y.nanCfg y.origin → y.err = some (code, td, tag) → (s.cell c).st = .running →
      Goes (.arrayCommandComplete c) s (fun t => (t.cell c).st = .halted ∧ (t.cell c).xArray = rest ∧ t.rf (cellBase c + rHALT) 7 0 = HaltReason.engineError.code
        ∧ t.rf (cellBase c + rARRERR) 7 0 = code % 256 ∧ t.rd (cellBase c + rFAULTSEQ) = y.cmd.seq ∧ t.mem = s.mem))
    ∧ (y.finished = false → exec (.arrayCommandComplete c) s = .next s)

/-- R101, R124, R126 to R130: MRED FIRST sends the tile of its set and a LAST without a tile waits for one; the next hop's slot lets the waiting tile leave; a tile accepted joins the receive buffer and
ends its sender's command; the two timeouts end the waiting command with code 0x0B; a seed of zero loads state 1; MR.NEXT and MR.PREV take their defined
bits, and while an MRED or a tile is under way a write of them is rejected. Where the rules leave a point open, the clauses follow the model's own choice or reading (log 35). -/
def Obligations.MillraceHops : Prop :=
  ∀ (c : CellId) (s : State) (j : Nat) (y : ArrX), Live s →
    (ArrNext s c j y cMRED → mrRole y.cmd.word = 0 → (s.mrNext c).valid = true → mrZero y.cmd.word = false → Goes (.mred c .execute) s (fun t =>
      OnlyCell s t c { s.cell c with xArray := setAt (s.cell c).xArray j { y with
        started := true, setFree := true, wait := .credit, tile := some (tileOf (mrTag y.cmd.word) (s.job c) (s.readSet c (mrSet y.cmd.word)))
        poisonAt := s.poisonAddr c [(setOff (mrSet y.cmd.word), 4096)] } }))
    ∧ (ArrNext s c j y cMRED → mrRole y.cmd.word = 2 → (s.mrPrev c).valid = true → (s.cell c).rxTiles = [] → Goes (.mred c .execute) s (fun t =>
      OnlyCell s t c { s.cell c with xArray := setAt (s.cell c).xArray j { y with started := true, wait := .tile } }))
    ∧ ((s.cell c).orphans = [] → (s.cell c).mredIn .credit = some (j, y) → (s.mrNext c).remote = false → s.hopFails c = false → s.tileRoom (s.mrNext c).cell = true →
      Goes (.millraceCredit c) s (fun t => (t.cell c).xArray = setAt (s.cell c).xArray j { y with wait := .accept }
        ∧ ((s.cell c).frozenCtrs = false → t.rd (cellBase c + mrTX) = s.rd (cellBase c + mrTX) + 1) ∧ t.mem = s.mem ∧ ∀ d, d ≠ c.val → t.cell d = s.cell d))
    ∧ (∀ (d : CellId) (x : Tile), d ≠ c → (s.cell c).mredIn .accept = some (j, y) → y.tile = some x → (s.mrNext c).remote = false → (s.mrNext c).cell = d.val →
      s.hopFails c = false → s.tileOk d (s.coordOf (s.cellPart c)) c x.job = true → (s.cell d).mredIn .tile = none → Goes (.millraceTileReceive c d) s (fun t =>
        (t.cell d).rxTiles = (s.cell d).rxTiles ++ [s.tileFrom c x] ∧ (t.cell c).xArray = setAt (s.cell c).xArray j { y.end with wait := .none, tile := none } ∧ t.mem = s.mem))
    ∧ ((s.cell c).mredIn .tile = some (j, y) → s.mrLimit c ≠ 0 →
      Goes (.mredReceiveTimeout c) s (fun t => OnlyCell s t c { s.cell c with xArray := setAt (s.cell c).xArray j (y.mredErr 0x0B 0) }))
    ∧ ((s.cell c).mredIn .credit = some (j, y) → s.mrLimit c ≠ 0 →
      Goes (.mredCreditTimeout c) s (fun t => OnlyCell s t c { s.cell c with xArray := setAt (s.cell c).xArray j (y.mredErr 0x0B 0) }))
    ∧ (∀ v : Word64, Goes (.srSeedWrite c v) s (fun t => t.rd (cellBase c + rSRSEED) = BitVec.ofNat 64 (v.toNat % 2 ^ 32)
        ∧ t.rd (cellBase c + rSRSTATE) = (if v.toNat % 2 ^ 32 = 0 then 1 else BitVec.ofNat 64 (v.toNat % 2 ^ 32))
        ∧ OnlyRegs s t [cellBase c + rSRSEED, cellBase c + rSRSTATE]))
    ∧ (∀ (prev : Bool) (v : Word64), (s.cell c).xArray.any (fun y => wcode y.cmd.word == cMRED) = true ∨ (s.cell c).rxTiles ≠ [] ∨ (s.cell c).orphans ≠ [] →
      Goes (.mrLinkWrite c prev v) s (fun t => t.rb (cellBase c + 0x800) 3 = true ∧ OnlyRegs s t [cellBase c + 0x800]))
    ∧ (∀ (prev : Bool) (v : Word64), (s.cell c).xArray.any (fun y => wcode y.cmd.word == cMRED) = false → (s.cell c).rxTiles = [] → (s.cell c).orphans = [] → Goes (.mrLinkWrite c prev v) s (fun t =>
        t.rd (cellBase c + if prev then mrPREV else mrNEXT) = BitVec.ofNat 64 (fld v 63 62 * 2 ^ 62 + fld v 48 32 * 2 ^ 32 + fld v 9 0)
        ∧ OnlyRegs s t [cellBase c + if prev then mrPREV else mrNEXT]))

/-- R135, R140, R142, R148: the mask commands and VPLD. VMOP combines two masks, VMRANGE sets the bits from lo to hi − 1, VMLD and VMST move a mask from and to the cell store, VPLD
loads a record that passes its checks into its slot. -/
def Sys2Proof.Claims.MaskCommands : Prop :=
  ∀ (c : CellId) (s : State) (j : Nat) (y : VecX), Live s →
    (VecNext s c j y cVMOP → Goes (.vmop c .execute) s (fun t => OnlyCell s t c { (s.cell c).setMask (fld y.cmd.word 111 109)
      (maskOp (fld y.cmd.word 102 100) ((s.cell c).mask (fld y.cmd.word 108 106)) ((s.cell c).mask (fld y.cmd.word 105 103)))
      with xVector := VecAt s c j { y with started := true, finished := y.total == 0 } }))
    ∧ (VecNext s c j y cVMRANGE → Goes (.vmrange c .execute) s (fun t =>
      (∀ i, i < 8192 → bit ((t.cell c).mask (fld y.cmd.word 111 109)) i = decide ((y.cmd.ops.getD 0 0).toNat ≤ i ∧ i < (y.cmd.ops.getD 1 0).toNat))
      ∧ (∀ n, n ≠ fld y.cmd.word 111 109 → (t.cell c).mask n = (s.cell c).mask n) ∧ t = { s with cells := t.cells }
      ∧ (t.cell c).xVector = VecAt s c j { y with started := true, finished := y.total == 0 }))
    ∧ (VecNext s c j y cVMLD → addrFails (y.cmd.ops.getD 0 0) 1024 128 = [] → s.poisonAddr c [((y.cmd.ops.getD 0 0).toNat, 1024)] = none →
      Goes (.vmld c .execute) s (fun t =>
        (∀ i, i < 8192 → bit ((t.cell c).mask (fld y.cmd.word 111 109)) i = bit (s.memB (cellKey c ((y.cmd.ops.getD 0 0).toNat + i / 8))) (i % 8))
        ∧ t = { s with cells := t.cells } ∧ (t.cell c).xVector = VecAt s c j { y with started := true, finished := y.total == 0 }))
    ∧ (VecNext s c j y cVMST → addrFails (y.cmd.ops.getD 0 0) 1024 128 = [] → Goes (.vmst c .execute) s (fun t =>
        (∀ i, i < 8192 → bit (t.memB (cellKey c ((y.cmd.ops.getD 0 0).toNat + i / 8))) (i % 8) = bit ((s.cell c).mask (fld y.cmd.word 111 109)) i)
        ∧ CellWork s t c [(cellKey c (y.cmd.ops.getD 0 0).toNat, 1024)] ∧ t.regs = s.regs
        ∧ (t.cell c).xVector = VecAt s c j { y with started := true, finished := y.total == 0 }))
    ∧ (VecNext s c j y cVPLD → addrFails (y.cmd.ops.getD 0 0) 128 16 = [] → s.poisonAddr c [((y.cmd.ops.getD 0 0).toNat, 128)] = none →
      recordFails (ofBytes (s.readB (cellKey c (y.cmd.ops.getD 0 0).toNat) 128)) = [] → Goes (.vpld c .execute) s (fun t => OnlyCell s t c
        { (s.cell c).setSlot (fld y.cmd.word 111 109) { valid := true, record := BitVec.ofNat 1024 (ofBytes (s.readB (cellKey c (y.cmd.ops.getD 0 0).toNat) 128)) }
          with xVector := VecAt s c j { y with started := true, finished := y.total == 0 } }))

/-- R131, R148, R150, R151: an element command that passes its checks starts with ceil(N / lanes) lane groups to issue; any vector command but VPLD that passes its checks and whose reads no
interlock holds runs, and one whose reads wait for an earlier command's results in flight is left as it is. -/
def Sys2Proof.Claims.ElementCommands : Prop :=
  ∀ (c : CellId) (s : State) (j : Nat) (y : VecX), Live s →
    (VecNext s c j y cVPROG → s.vprogFails c y.cmd = [] → Goes (.vprog c .execute) s (fun t => OnlyCell s t c
      { s.cell c with xVector := VecAt s c j { y with started := true, finished := false, total := (fld y.cmd.word 108 96 + vprogLanes y.cmd) / vprogLanes y.cmd } }))
    ∧ (VecNext s c j y cVRED → strmFails (y.cmd.ops.getD 0 0) (fld y.cmd.word 80 77) (fld y.cmd.word 111 99 + 1) = [] →
      strmFails (y.cmd.ops.getD 1 0) 0 ((fld y.cmd.word 111 99 + 1 + fld y.cmd.word 98 86) / (fld y.cmd.word 98 86 + 1)) = [] →
      Goes (.vred c .execute) s (fun t => OnlyCell s t c
        { s.cell c with xVector := VecAt s c j { y with started := true, finished := false, total := (fld y.cmd.word 111 99 + 128) / 128 } }))
    ∧ (VecNext s c j y cVCOMP → compFails y.cmd = [] → Goes (.vcomp c .execute) s (fun t => OnlyCell s t c
      { s.cell c with xVector := VecAt s c j { y with started := true, finished := false, total := (fld y.cmd.word 111 99 + 128) / 128 } }))
    ∧ (VecNext s c j y cVEXPD → compFails y.cmd = [] → Goes (.vexpd c .execute) s (fun t => OnlyCell s t c
      { s.cell c with xVector := VecAt s c j { y with started := true, finished := false, total := (fld y.cmd.word 111 99 + 128) / 128 } }))
    ∧ (∀ r ∈ vecRows s c, (s.cell c).vecNew r.2.1 = some (j, y) →
      ((s.cell c).vecInterlock j (vecReads0 y.cmd).1 (vecReads0 y.cmd).2 = false → r.2.2 y.cmd = [] →
        Goes (r.1 c .execute) s (fun t => ∃ z, (t.cell c).xVector[j]? = some z ∧ z.cmd = y.cmd ∧ z.started = true ∧ z.finished = (z.total == 0)))
      ∧ ((s.cell c).vecInterlock j (vecReads0 y.cmd).1 (vecReads0 y.cmd).2 = true → exec (r.1 c .execute) s = .next s))

/-- R131, R133, R141, R147, R151: a lane group. It issues unless an interlock holds what it reads; it is counted; what was in flight is written, and no other byte of memory; VCOMP and VEXPD count the
mask bits that are set among the group's elements. -/
def Sys2Proof.Claims.LaneGroups : Prop :=
  ∀ (c : CellId) (s : State) (j : Nat) (y : VecX), Live s → (s.cell c).vecIssuing = some (j, y) → s.clocked c = true →
    (s.vecHeld c = true → exec (.vectorGroupIssue c) s = .next s)
    ∧ (s.vecHeld c = false → Goes (.vectorGroupIssue c) s (fun t =>
      t = { s with cells := t.cells, regs := t.regs, mem := t.mem, poison := t.poison, regions := t.regions, raised := t.raised }
      ∧ (∀ d, d ≠ c.val → t.cell d = s.cell d)
      ∧ ((s.cell c).frozenCtrs = false → t.rd (cellBase c + 0xC10) = s.rd (cellBase c + 0xC10) + 1)
      ∧ (t.region (cellRegion c)).points = (s.region (cellRegion c)).points + 1
      ∧ (y.flight = none → t.mem = s.mem ∧ t.poison = s.poison)
      ∧ (∀ a, (∀ f ∈ ((s.cell c).xVector.take (j + 1)).filterMap VecX.flight, a < cellKey c f.run.1 ∨ cellKey c f.run.1 + f.run.2 ≤ a) → t.memB a = s.memB a)
      ∧ ∃ z f, (t.cell c).xVector[j]? = some z ∧ z.cmd = y.cmd ∧ z.groups = y.groups + 1 ∧ z.total = y.total ∧ z.finished = (y.groups + 1 == y.total) ∧ z.flight = some f
        ∧ (wcode y.cmd.word = cVPROG → f.base = (strmO y.cmd).base.toNat ∧ f.width = fmtBits (strmO y.cmd).fmt ∧ f.first = y.span.1
          ∧ f.outs.length = (if (strmO y.cmd).en then y.span.2 - y.span.1 else 0) ∧ f.mfirst = y.span.1 ∧ f.mouts.length = y.span.2 - y.span.1)
        ∧ (wcode y.cmd.word = cVRED → f.base = (y.cmd.ops.getD 1 0).toNat ∧ f.width = 32 ∧ f.first = y.span.1 / (fld y.cmd.word 98 86 + 1)
          ∧ (y.total = (fld y.cmd.word 111 99 + 128) / 128 →
            f.first + f.outs.length ≤ (fld y.cmd.word 111 99 + 1 + fld y.cmd.word 98 86) / (fld y.cmd.word 98 86 + 1)))
        ∧ (wcode y.cmd.word = cVCOMP → f.base = (y.cmd.ops.getD 1 0).toNat ∧ f.first = y.count ∧ z.count = y.count + f.outs.length
          ∧ z.count = y.count + ((upTo (y.span.2 - y.span.1)).filter (fun i => bit ((t.cell c).mask (fld y.cmd.word 84 82)) (y.span.1 + i))).length
          ∧ z.result = BitVec.ofNat 64 z.count)
        ∧ (wcode y.cmd.word = cVEXPD → f.base = (y.cmd.ops.getD 1 0).toNat ∧ f.first = y.span.1 ∧ f.outs.length = y.span.2 - y.span.1
          ∧ z.count = y.count + ((upTo (y.span.2 - y.span.1)).filter (fun i => bit ((t.cell c).mask (fld y.cmd.word 84 82)) (y.span.1 + i))).length
          ∧ z.result = BitVec.ofNat 64 z.count)))

/-- R104, R143, R145, R150, R153, R154: a finished vector command writes its last group and delivers its value, or zero if it consumed poison, and then halts the cell; one whose check failed halts it in
its turn; VEC.MDATA moves VEC.MSEL.WORD on modulo 128 at a read, and a write in a debuggable state replaces the 64 bits it names. -/
def Sys2Proof.Claims.VectorCompletion : Prop :=
  ∀ (c : CellId) (s : State), Live s →
    (∀ y rest, (s.cell c).xVector = y :: rest → y.finished = true → y.err = none → y.poisonAt = none → NoNanHalt y.cmd y.nanCfg y.origin →
      Goes (.vectorCommandComplete c) s (fun t => t.sreg c (delivReg y.cmd.word) = (if delivReg y.cmd.word = 0 then 0 else y.result) ∧ (t.cell c).xVector = rest
        ∧ (∀ a, (∀ f, y.flight = some f → a < cellKey c f.run.1 ∨ cellKey c f.run.1 + f.run.2 ≤ a) → t.memB a = s.memB a)
        ∧ (y.flight = none → CellAndRegs s t c { s.cell c with xVector := rest } (if delivReg y.cmd.word = 0 then [] else [scalarReg c (delivReg y.cmd.word)]))))
    ∧ (∀ y rest a, (s.cell c).xVector = y :: rest → y.finished = true → y.err = none → y.poisonAt = some a → NoNanHalt y.cmd y.nanCfg y.origin → (s.cell c).st = .running →
      Goes (.vectorCommandComplete c) s (fun t => ((s.cell c).xSync = [] → t.sreg c (delivReg y.cmd.word) = 0) ∧ (t.cell c).xVector = rest ∧ (t.cell c).st = .halted
        ∧ t.rf (cellBase c + rHALT) 7 0 = HaltReason.poison.code ∧ t.rd (cellBase c + rFAULTADDR) = a))
    ∧ (∀ y rest e, (s.cell c).xVector = y :: rest → y.finished = true → y.err = some e → (s.cell c).st = .running →
      Goes (.vectorCommandComplete c) s (fun t => ((s.cell c).xSync = [] → t.sreg c (delivReg y.cmd.word) = 0) ∧ (t.cell c).xVector = rest ∧ (t.cell c).st = .halted
        ∧ t.rf (cellBase c + rHALT) 7 0 = HaltReason.engineError.code ∧ t.rf (cellBase c + rVECERR) 7 0 = e.1 % 256))
    ∧ Goes (.mdataRead c) s (fun t => t.rf (cellBase c + rMSEL) 6 0 = (s.rf (cellBase c + rMSEL) 6 0 + 1) % 128 ∧ OnlyRegs s t [cellBase c + rMSEL])
    ∧ (∀ v : Word64, (s.cell c).debuggable = true → Goes (.mdataWrite c v) s (fun t =>
      (∀ i, i < 8192 → bit ((t.cell c).mask (s.rf (cellBase c + rMSEL) 9 7)) i
        = (if i / 64 = s.rf (cellBase c + rMSEL) 6 0 then bit v (i % 64) else bit ((s.cell c).mask (s.rf (cellBase c + rMSEL) 9 7)) i))
      ∧ t.rf (cellBase c + rMSEL) 6 0 = (s.rf (cellBase c + rMSEL) 6 0 + 1) % 128))
    ∧ (∀ v : Word64, (s.cell c).debuggable = false → Goes (.mdataWrite c v) s (fun t => t.rb (cellBase c + rSTATUS) 17 = true ∧ OnlyRegs s t [cellBase c + rSTATUS]))

/-- R62, R155, R159, R160, R169: SDESC puts the descriptor it reads, with its bases replaced, into the channel's free slot, once no earlier descriptor has still to write its bytes; SARM starts a new run of the armed stream; SSTOP disarms an idle
stream, and completes at once where none is armed. Where the rules leave a point open, the clauses follow the model's own choice or reading (log 37). -/
def Obligations.SluiceCommands : Prop :=
  ∀ (c : CellId) (s : State) (q : QCmd), Live s →
    ((s.cell c).sluiceBegun cSDESC = some q → s.ownBlocked c q.seq [(ownBase c + fld q.word 109 88, 64)] = true → exec (.sdesc c .execute) s = .next s)
    ∧ ((s.cell c).sluiceBegun cSDESC = some q → s.ownBlocked c q.seq [(ownBase c + fld q.word 109 88, 64)] = false → s.poisonAddr c [(fld q.word 109 88, 64)] = none →
      Goes (.sdesc c .execute) s (fun t =>
      (t.chan (cellBlock c) (cellChan c (fld q.word 111 110))).slots = (s.chan (cellBlock c) (cellChan c (fld q.word 111 110))).slots
        ++ [Desc.withBases { raw := BitVec.ofNat 512 (ofBytes (s.readB (cellKey c (fld q.word 109 88)) 64)), cell := c, seq := q.seq, job := s.job c } (baseOps q).1 (baseOps q).2]
      ∧ t.mem = s.mem ∧ t.counters = s.counters ∧ (∀ d, d ≠ c.val → t.cell d = s.cell d)))
    ∧ ((s.cell c).sluiceBegun cSDESC = some q → s.ownBlocked c q.seq [(ownBase c + fld q.word 109 88, 64)] = false → (s.cell c).st = .running → ∀ a, s.poisonAddr c [(fld q.word 109 88, 64)] = some a → Goes (.sdesc c .execute) s (fun t =>
      (t.cell c).st = .halted ∧ t.rf (cellBase c + rHALT) 7 0 = HaltReason.poison.code ∧ t.rd (cellBase c + rFAULTADDR) = a ∧ t.mem = s.mem))
    ∧ (∀ d, (s.cell c).sluiceBegun cSARM = some q → (s.chan (cellBlock c) (cellChan c (fld q.word 111 110))).armed = some d →
      (s.chan (cellBlock c) (cellChan c (fld q.word 111 110))).slots.any Desc.persist = false → Goes (.sarm c .execute) s (fun t =>
        (∃ e, (t.chan (cellBlock c) (cellChan c (fld q.word 111 110))).armed = some e
          ∧ (t.chan (cellBlock c) (cellChan c (fld q.word 111 110))).slots = (s.chan (cellBlock c) (cellChan c (fld q.word 111 110))).slots ++ [e]
          ∧ e.seq = q.seq ∧ e.job = s.job c ∧ e.ph = .issued ∧ e.moved = 0)
        ∧ t.mem = s.mem ∧ (∀ d, d ≠ c.val → t.cell d = s.cell d)))
    ∧ (∀ d, (s.cell c).sluiceBegun cSSTOP = some q → (s.chan (cellBlock c) (cellChan c (fld q.word 111 110))).armed = some d →
      (s.chan (cellBlock c) (cellChan c (fld q.word 111 110))).slots.any Desc.persist = false → Goes (.sstop c .execute) s (fun t =>
        (t.chan (cellBlock c) (cellChan c (fld q.word 111 110))).armed = none ∧ t.regs = s.regs ∧ t.mem = s.mem))
    ∧ ((s.cell c).sluiceBegun cSSTOP = some q → (s.chan (cellBlock c) (cellChan c (fld q.word 111 110))).armed = none → Goes (.sstop c .execute) s (fun t =>
        OnlyCell s t c { s.cell c with xSluice := (s.cell c).xSluice.filter (fun y => y.1.seq != q.seq) }))

/-- R164, R168, R171: a channel that is not halted begins its oldest issued descriptor, which moves or, above LOW, waits to be paced; one that fails its checks leaves its slot, and the
channel halts with the reason and address in its FAIL registers. -/
def Sys2Proof.Claims.DescriptorsBeginOrHaltTheirChannel : Prop :=
  ∀ (b : BlockId) (ch : ChanId) (s : State) (i : Nat) (d : Desc), Live s →
    findIdx (fun x : Desc => x.ph == .issued) (s.chan b ch).slots = some i → (s.chan b ch).slots[i]? = some d → s.chHalted b ch = false →
    (s.beginFail d = none → Goes (.descriptorBegin b ch) s (fun t =>
      (t.chan b ch).slots = setAt (s.chan b ch).slots i { d with
        ph := if d.pace && decide (s.fillLevel b ch > (s.wmarkLow b ch : Int)) then .paced else .moving
        tag := s.rd (blockBase b + 0x400 + 8 * d.tagslot) }
      ∧ ((s.cell d.cell).sts.all (fun q => !q.atCell) = true → t = { s with chans := t.chans })))
    ∧ (∀ reason addr, s.beginFail d = some (reason, addr) → Goes (.descriptorBegin b ch) s (fun t =>
      t.chHalted b ch = true ∧ t.rf (chBase b ch + 0x30) 7 0 = reason ∧ t.rd (chBase b ch + 0x40) = BitVec.ofNat 64 (addr % 2 ^ 57)
      ∧ t.rd (chBase b ch + 0x48) = d.seq ∧ (t.chan b ch).slots = dropAt (s.chan b ch).slots i
      ∧ (∃ e ∈ t.raised, e.code = evSluiceHalt ∧ e.index = b.val ∧ e.arg0 = ch.val + reason * 2 ^ 8) ∧ t.mem = s.mem ∧ t.signals = s.signals))

/-- R155, R162, R165, R166: a local COPY of one run of clean bytes from memory to memory, when it completes, has put the source's bytes at the destination and changed no other byte;
its slot is free, and its LCTR's signal, if it names one, is on its way under the cell's job. Where the rules leave a point open, the clauses follow the model's own choice or reading (log 37). -/
def Obligations.LocalCopyCompletes : Prop :=
  ∀ (b : BlockId) (ch : ChanId) (slot : Fin 4) (s : State) (d : Desc) (a n x k l : Nat), Live s →
    (s.chan b ch).slots[slot.val]? = some d → d.op = 0 → d.remote = 0 → d.ph = .moving → d.vmode = 0 → d.indexed = false → d.pace = false → d.moved = 0 → d.late = [] →
    s.descBlocked b ch slot.val d = false → s.descHeld d = none → s.lostRegions = [] → s.stale = [] → s.missedUnits k n = [] → s.missedUnits l n = [] →
    s.descRuns d = [{ srcs := [(a, n)], dst := x, len := n }] → 0 < n →
    s.locate (s.cellRq d.cell) false a n = .mem k → s.locate (s.cellRq d.cell) true x n = .mem l →
    (∀ j, j < n → s.poisoned (k + j) = false) → (∀ j, j < n → s.poisoned (l + j) = false) →
    Goes (.descriptorComplete b ch slot) s (fun t =>
      (∀ z, t.memB z = if l ≤ z ∧ z < l + n then s.memB (k + (z - l)) else s.memB z)
      ∧ (t.chan b ch).slots = dropAt (s.chan b ch).slots slot.val
      ∧ t.signals = s.signals ++ (if d.lctrEn then [{ part := s.cellPart d.cell, offset := d.lctr, amount := d.amount, job := d.job, src := .lctr d.cell d.seq }] else [])
      ∧ t.counters = s.counters ∧ t.raised = s.raised)

/-- R156, R168, R169, R170, R177, R179, R180: what else happens to a channel or its descriptor: a segment is granted in turn, a header is read and recorded, or found poisoned, a failed
access waits for its retry while the other segments go on, the retry succeeds, or is the last one and fails the descriptor with BUS_ERROR, a header is written after its payload, a paced channel moves again, and a stall is recorded and raised. -/
def Sys2Proof.Claims.DescriptorEvents : Prop :=
  ∀ (b : BlockId) (ch : ChanId) (slot : Fin 4) (s : State) (d : Desc), Live s → (s.chan b ch).slots[slot.val]? = some d →
    (((upTo 16).map (fun i => ((s.sluice b).lastGrant + 1 + i) % 16)).find? (fun c => (s.chan b c).wanting) = some ch.val → s.bufLevel b + s.segBytes b ≤ 196608 →
      Goes (.segmentGrant b ch) s (fun t => t.chan b ch = { s.chan b ch with
          segs := (s.chan b ch).segs ++ [(s.segOwner (s.chan b ch), s.segBytes b)]
          wanting := decide (4096 + (((s.chan b ch).segs.map (fun g => g.2)).sum + s.segBytes b) < ((s.chan b ch).slots.map s.descLeft).sum) }
        ∧ (t.sluice b).lastGrant = ch.val ∧ t.mem = s.mem ∧ t.cells = s.cells))
    ∧ (∀ k, d.ph = .moving → d.late = [] → d.readsHeader = true → d.headerOk = false → s.descBlocked b ch slot.val d = false → s.descPending b ch d = false → d.remote = 0 →
      s.locate (s.cellRq d.cell) false d.src 64 = .mem k → s.busyAt k 64 = none → (∃ j, j < 64 ∧ s.poisoned (k + j) = true) → Goes (.shardHeaderRead b ch slot) s (fun t =>
        t.chHalted b ch = true ∧ t.rf (chBase b ch + 0x30) 7 0 = 0x0C ∧ (t.chan b ch).slots = dropAt (s.chan b ch).slots slot.val))
    ∧ (∀ k, d.ph = .moving → d.late = [] → d.op = 2 → d.vmode = 1 → d.headerOk = false → s.descBlocked b ch slot.val d = false → s.descPending b ch d = false → d.remote = 0 →
      s.locate (s.cellRq d.cell) false d.src 64 = .mem k → s.busyAt k 64 = none → (∀ j, j < 64 → s.poisoned (k + j) = false) → s.missedUnits k 64 = [] → s.lostRegions = [] → hdrReserved (s.readB k 64) = false →
      s.memB (k + 8) = 0 → (∀ r ∈ s.descRuns d, ∀ x ∈ r.srcs, d.src + 64 ≤ x.1 ∧ x.1 + x.2 ≤ d.src + 64 + ofBytes (s.readB (k + 0x18) 8)) →
      Goes (.shardHeaderRead b ch slot) s (fun t => (t.chan b ch).slots = setAt (s.chan b ch).slots slot.val { d with headerOk := true }
        ∧ t.rd (blockBase b + 0x400 + 8 * d.tagslot) = BitVec.ofNat 64 (ofBytes (s.readB k 8)) ∧ t.mem = s.mem ∧ t.cells = s.cells ∧ t.raised = s.raised))
    ∧ (∀ pos s1, d.ph = .moving → d.remote = 0 → d.op ≠ 6 → d.moved ≤ pos → pos < totalOf (s.descRuns d) → (d.readsHeader = true → d.headerOk = true) → d.late = [] → d.pace = false →
      s.descBlocked b ch slot.val d = false → s.descHeld d = none → s.moveRuns d d.moved (d.granule pos) 0 (s.descRuns d) = .ok s1 →
      0 < s1.rf (blockBase b + 8) 2 0 → Goes (.accessErrorResponse b ch slot pos false) s (fun t => t.mem = s1.mem
        ∧ (t.chan b ch).slots = (let z := min (totalOf (s.descRuns d)) ((pos / 4096 + 1) * 4096)
          setAt (s1.chan b ch).slots slot.val { d with moved := z, late := [{ pos := d.granule pos, stop := z, addr := srcAt (s.descRuns d) pos, tries := 1 }] })))
    ∧ (∀ l s1, d.ph = .moving → d.remote = 0 → d.op ≠ 6 → d.late = [l] → (d.readsHeader = true → d.headerOk = true) → d.pace = false →
      s.descBlocked b ch slot.val d = false → s.descHeld d = none → (s.unhold (.desc b ch d.seq)).moveRuns d d.moved (totalOf (s.descRuns d)) 0 (s.descRuns d) = .ok s1 →
      Goes (.descriptorComplete b ch slot) s (fun t => t.mem = s1.mem ∧ (t.chan b ch).slots = setAt (s1.chan b ch).slots slot.val { d with moved := totalOf (s.descRuns d) }))
    ∧ (∀ l s1, d.ph = .moving → d.remote = 0 → d.op ≠ 6 → d.late = [l] → l.pos < posHeader → s.chFrozen b ch = false → s.chKilled b ch = false → s.descHeld d = none →
      (s.bump (chBase b ch + 0x60) 31 0 1).moveRuns d l.pos l.stop 0 (s.descRuns d) = .ok s1 → Goes (.retryTimerExpire b ch slot 0 true) s (fun t =>
        t.mem = s1.mem ∧ (t.chan b ch).slots = setAt (s1.chan b ch).slots slot.val { d with late := [] }))
    ∧ (∀ l, d.ph = .moving → d.remote = 0 → d.late = [l] → l.pos = posHeader → s.chFrozen b ch = false → s.chKilled b ch = false → Goes (.retryTimerExpire b ch slot 0 true) s (fun t =>
        (t.chan b ch).slots = setAt (s.chan b ch).slots slot.val { d with late := [] }
        ∧ t.rf (chBase b ch + 0x60) 31 0 = (s.rf (chBase b ch + 0x60) 31 0 + 1) % 2 ^ 32 ∧ t.mem = s.mem))
    ∧ (∀ l, d.ph = .moving → d.remote = 0 → d.late = [l] → s.chFrozen b ch = false → s.rf (blockBase b + 8) 2 0 ≤ l.tries → Goes (.retryTimerExpire b ch slot 0 false) s (fun t =>
        (t.chan b ch).slots = dropAt (s.chan b ch).slots slot.val ∧ t.chHalted b ch = true ∧ t.rf (chBase b ch + 0x30) 7 0 = 0x07
        ∧ t.rd (chBase b ch + 0x40) = BitVec.ofNat 64 (l.addr % 2 ^ 57)))
    ∧ (∀ k, d.ph = .stamping → d.late = [] → d.remote = 0 → s.chFrozen b ch = false → s.descPending b ch d = false → s.headerFault d = none →
      s.locate (s.cellRq d.cell) true d.dst 64 = .mem k → s.busyAt k 64 = none →
      (∀ j, j < 64 → s.poisoned (k + j) = false) → s.missedUnits k 64 = [] → s.stale = [] → s.lostRegions = [] → Goes (.stampHeaderWrite b ch slot) s (fun t =>
        (∀ x, t.memB x = if k ≤ x ∧ x < k + 64 then (s.headerBytes d).getD (x - k) 0 else s.memB x)
        ∧ (t.chan b ch).slots = dropAt (s.chan b ch).slots slot.val))
    ∧ (d.ph = .paced → s.fillLevel b ch ≤ (s.wmarkLow b ch : Int) → s.chFrozen b ch = false → (s.cell (chanCell b ch)).st ≠ .freezing →
      Goes (.paceRecheck b ch slot) s (fun t => (t.chan b ch).slots = setAt (s.chan b ch).slots slot.val { d with ph := .moving } ∧ t = { s with chans := t.chans }))
    ∧ (d.ph ≠ .issued → (s.sluice b).stallRecorded = [] → Goes (.channelStallDetect b ch) s (fun t =>
        (t.chan b ch).stalled = true ∧ (t.sluice b).stallRecorded ≠ [] ∧ (∃ e ∈ t.raised, e.code = evBlockStall ∧ e.index = b.val) ∧ t.mem = s.mem ∧ t.cells = s.cells))

/-- R168, R169, R171, R183, R188: the driver's registers of a channel and of the headrace: STOP disarms an idle stream, RESUME clears HALTED, a write of CHn_DST_BASE with no stream stores
the base, with an idle stream starts a run of it, CHn_PACE restarts the pacing, SLUICE.CFG.SEG keeps the reserved value out, and HR.CFG is written while no stream is open. -/
def Sys2Proof.Claims.ChannelRegisters : Prop :=
  ∀ (b : BlockId) (ch : ChanId) (c : CellId) (v : Word64) (s : State), Live s →
    ((s.chan b ch).slots.any Desc.persist = false → Goes (.chStop b ch) s (fun t => (t.chan b ch).armed = none ∧ t.regs = s.regs ∧ t.mem = s.mem))
    ∧ Goes (.channelResume b ch) s (fun t => t.chHalted b ch = false ∧ OnlyRegs s t [chBase b ch + 8])
    ∧ ((s.chan b ch).slots.any Desc.persist = true → Goes (.chDstBaseWrite b ch v) s (fun t => t.rb (chBase b ch + 8) 9 = true ∧ OnlyRegs s t [chBase b ch + 8]))
    ∧ ((s.chan b ch).slots.any Desc.persist = false → (s.chan b ch).armed = none →
      Goes (.chDstBaseWrite b ch v) s (fun t => t.rf (chBase b ch + 0x18) 56 0 = v.toNat % 2 ^ 57 ∧ OnlyRegs s t [chBase b ch + 0x18]))
    ∧ (∀ d, (s.chan b ch).slots.any Desc.persist = false → (s.chan b ch).armed = some d → Goes (.chDstBaseWrite b ch v) s (fun t =>
      ∃ e, (t.chan b ch).armed = some e ∧ (t.chan b ch).slots = (s.chan b ch).slots ++ [e] ∧ e.ph = .issued ∧ e.moved = 0 ∧ e.dst = v.toNat % 2 ^ 57
        ∧ e.src = s.rf (chBase b ch + 0x10) 56 0 ∧ e.cell = d.cell ∧ e.seq = d.seq ∧ t.mem = s.mem ∧ t.cells = s.cells))
    ∧ (∀ k, s.ctrKey (s.blockPart b) (fld v 21 3 * 8) = some k → Goes (.chPaceWrite b ch v) s (fun t =>
      (t.chan b ch).paceP = 0 ∧ (t.chan b ch).paceC0 = (s.ctr k).value.toNat ∧ t.rf (chBase b ch + 0x20) 28 24 = fld v 28 24
      ∧ t.rf (chBase b ch + 0x20) 21 3 = fld v 21 3 ∧ t.cells = s.cells ∧ t.mem = s.mem))
    ∧ Goes (.sluiceSegWrite b v) s (fun t => t.rf (blockBase b) 1 0 = (if fld v 1 0 = 3 then s.rf (blockBase b) 1 0 else fld v 1 0) ∧ OnlyRegs s t [blockBase b])
    ∧ ((s.cell c).headrace.isOpen = false → (bit v 2 = true → c.val % 48 ≠ 47) → Goes (.hrCfgWrite c v) s (fun t =>
      t.hrRole c = fld v 1 0 ∧ t.hrFwd c = bit v 2 ∧ t.hrLow c = fld v 12 8 ∧ t.hrHigh c = fld v 20 16 ∧ OnlyRegs s t [hrBase c]))
    ∧ ((s.cell c).headrace.isOpen = true → Goes (.hrCfgWrite c v) s (fun t => t.rb (hrBase c + hrSTATUS) 3 = true ∧ OnlyRegs s t [hrBase c + hrSTATUS]))

/-- R171, R184 to R187: stream bytes enter the head's buffer at its end and count as moved; what an ended stream of the channel still owes, poison and its marker, enters before them (R171); they reach the next cell of the chain in order; a marker before the bytes that an array needs
ends its command with HEADRACE_SHORT. -/
def Sys2Proof.Claims.HeadraceStreams : Prop :=
  ∀ (s : State), Live s →
    (∀ (b : BlockId) (ch : ChanId) (slot : Fin 4) (n h : Nat) (d : Desc) (bs : List PByte) (s1 : State), (s.chan b ch).slots[slot.val]? = some d → (s.chan b ch).owed = [] → d.ph = .moving → d.op = 6 →
      s.headOf d = some h → 0 < n → n ≤ 1024 → d.moved + n ≤ totalOf (s.descRuns d) → s.headTaken b ch d = false →
      ((s.chan b ch).slots.take slot.val).any (fun e => e.op == 6 && s.headOf e == some h) = false → (s.cell h).headrace.stopped = false → (s.cell h).headrace.room n = true →
      (s.cell h).st = .running → (s.cell h).headrace.level < s.hrHigh h * 1024 → d.late = [] → s.descBlocked b ch slot.val d = false → s.descHeld d = none →
      (s.unhold (.desc b ch d.seq)).streamBytes d n = some (bs, s1) → Goes (.headraceInject b ch slot n) s (fun t =>
        (t.cell h).headrace.items = (s.cell h).headrace.items ++ bs.map (fun x => { job := d.job, byte := some x })
          ++ (if d.moved + n = totalOf (s.descRuns d) ∧ d.close = true then [{ job := d.job, byte := none }] else [])
        ∧ (t.chan b ch).slots = setAt (s.chan b ch).slots slot.val { d with moved := d.moved + n } ∧ t.mem = s.mem))
    ∧ (∀ (b : BlockId) (ch : ChanId) (slot : Fin 4) (n h : Nat) (i : HrItem) (rest : List (Nat × HrItem)), (s.chan b ch).owed = (h, i) :: rest → 0 < n → n ≤ 1024 →
      (∀ o ∈ (s.sluice b).owners, o.1 = h → o.2 = ch.val) → (s.cell h).headrace.stopped = false → (s.cell h).headrace.room n = true → (s.cell h).st = .running →
      (s.cell h).headrace.level < s.hrHigh h * 1024 → Goes (.headraceInject b ch slot n) s (fun t =>
        (t.cell h).headrace.items = (s.cell h).headrace.items ++ nextOwed h n (s.chan b ch).owed ∧ (t.chan b ch).slots = (s.chan b ch).slots
        ∧ (t.chan b ch).owed = (s.chan b ch).owed.drop (nextOwed h n (s.chan b ch).owed).length ∧ t.mem = s.mem))
    ∧ (∀ (c : CellId) (n : Nat) (i : HrItem) (is : List HrItem), c.val % 48 ≠ 47 →
      (oneStream ((s.cell c).headrace.items.drop (s.cell c).headrace.forwarded)).take n = i :: is → s.hrFwd c = true → (s.cell c).headrace.refused = false →
      s.hrRefusal (c + 1) i.job = none → (s.cell (c + 1)).headrace.room ((i :: is).filter (fun x => x.byte.isSome)).length = true → (s.cell (c + 1)).st = .running →
      Goes (.headraceHop c n) s (fun t => (t.cell (c + 1)).headrace.items = (s.cell (c + 1)).headrace.items ++ i :: is ∧ t.mem = s.mem ∧ t.counters = s.counters
        ∧ ∀ d, d ≠ c.val → d ≠ c.val + 1 → t.cell d = s.cell d))
    ∧ (∀ (c : CellId) (y : ArrX) (rest : List ArrX) (k : Nat), (s.cell c).st = .running → (s.cell c).xArray = y :: rest → y.started = true → y.finished = false →
      wcode y.cmd.word = cMMA → dSRC (s.mmaOf c y.cmd).b.d = 1 → s.hrPeek c (s.mmaOf c y.cmd).streamBytes = .short k → Goes (.headraceMarker c) s (fun t =>
        (t.cell c).st = .halted ∧ t.rf (cellBase c + rARRERR) 7 0 = 7 ∧ (t.cell c).xArray = rest ∧ t.mem = s.mem))

/-- R190, R191, R194, R195, R197: a signal on its way, judged against an owned counter of its job, adds its amount, saturating at 2^64 − 1, and becomes the counter's last signaller; to a
FROZEN one it is held pending; under another job, to a free or an abandoned counter it changes no counter and a refusal not answered to a cell is counted. Where the rules leave a point open, the clauses follow the model's own choice or reading (log 38). -/
def Obligations.SignalsAreJudged : Prop :=
  ∀ (s : State) (i : Nat) (g : Signal) (k : Nat), Live s → s.signals[i]? = some g → s.ctrKey g.part g.offset = some k → s.ctrLost k = false →
    ((s.ctr k).st = .owned → (s.ctr k).job = g.job → Goes (.counterSignalApply i) s (fun t =>
      (t.ctr k).value = BitVec.ofNat 64 (min ((s.ctr k).value.toNat + g.amount.toNat) (2 ^ 64 - 1)) ∧ (t.ctr k).last = some g.last
      ∧ (t.ctr k).st = .owned ∧ (t.ctr k).job = (s.ctr k).job
      ∧ (t.ctr k).saturated = ((s.ctr k).saturated || decide (2 ^ 64 ≤ (s.ctr k).value.toNat + g.amount.toNat))
      ∧ ((∀ w ∈ (s.ctr k).waiters, (s.cell w.cell).sts = []) → t.mem = s.mem)))
    ∧ ((s.ctr k).st = .frozen → (s.ctr k).job = g.job → Goes (.counterSignalApply i) s (fun t =>
      (t.ctr k).pending = BitVec.ofNat 64 (min ((s.ctr k).pending.toNat + g.amount.toNat) (2 ^ 64 - 1)) ∧ (t.ctr k).value = (s.ctr k).value ∧ (t.ctr k).st = .frozen))
    ∧ ((s.ctr k).st = .free ∨ (s.ctr k).st = .abandoned ∨ (s.ctr k).job ≠ g.job → ∀ co q, g.src = .remote co q → Goes (.counterSignalApply i) s (fun t =>
      t.counters = s.counters ∧ t.signals = dropAt s.signals i
      ∧ t.rf (syncBase g.part (ctrUnit k) + 0x58) 31 0 = (s.rf (syncBase g.part (ctrUnit k) + 0x58) 31 0 + 1) % 2 ^ 32
      ∧ OnlyRegs { s with signals := t.signals } t [syncBase g.part (ctrUnit k) + 0x58]))

/-- R190, R201, R202, R208: SIG sends its signal under its cell's job; SIGR sends a SIGNAL message and awaits its acknowledgement, which ends it with the status into its
register. Where the rules leave a point open, the clauses follow the model's own choice or reading (log 54). -/
def Obligations.SignalsAreSent : Prop :=
  ∀ (c : CellId) (s : State) (q : QCmd), Live s →
    (s.cell c).xSync = [{ cmd := q, ph := .begun }] →
      (wcode q.word = cSIG → (s.ctrKey (s.cellPart c) (syOffset q.word)).isSome = true → Goes (.sig c .execute) s (fun t =>
        t.signals = s.signals ++ [{ part := s.cellPart c, offset := syOffset q.word, amount := q.ops.getD 0 0 + syImm q.word, job := s.job c, src := .cell c q.seq }]
        ∧ OnlyCell { s with signals := t.signals } t c { s.cell c with xSync := [{ cmd := q, ph := .flying }] }))
      ∧ (wcode q.word = cSIG → (s.ctrKey (s.cellPart c) (syOffset q.word)).isSome = false → (s.cell c).st = .running → Goes (.sig c .execute) s (fun t =>
        (t.cell c).st = .halted ∧ t.rf (cellBase c + rHALT) 7 0 = HaltReason.addressFault.code ∧ (t.cell c).xSync = [] ∧ t.signals = s.signals ∧ t.counters = s.counters))
      ∧ (∀ s1, wcode q.word = cSIGR → s.sendReq (s.cellPart c) (.sigr c q.seq) 0 none
          { kind := mkSIGNAL, dst := fld (q.ops.getD 1 0) 16 0, addr := syOffset q.word, amount := (syAmount q).toNat, job := s.job c, seq := q.seq.toNat } = .sent s1 →
        Goes (.sigr c .execute) s (fun t => (t.cell c).xSync = (s1.cell c).xSync.map (fun y => if y.cmd.seq == q.seq then { y with ph := .ackWait } else y) ∧ t.reqs = s1.reqs))

/-- R205, R208: a SIGR's acknowledgement delivers its status into SREG; with SREG s0, a status other than OK halts the cell with ENGINE_ERROR. -/
def Obligations.AcknowledgementsEndSigr : Prop :=
  ∀ (c : CellId) (s : State) (q : QCmd) (st : SyncStatus), Live s → (s.cell c).xSync = [{ cmd := q, ph := .ackWait }] → (s.cell c).st = .running → wcode q.word = cSIGR →
    st = .ok ∨ st = .owner ∨ st = .abandoned ∨ st = .refused ∨ st = .unreached ∨ st = .unknown →
    (delivReg q.word ≠ 0 → Goes (.sigrAck c 0 st) s (fun t => t.sreg c (delivReg q.word) = BitVec.ofNat 64 st.code ∧ (t.cell c).xSync = [] ∧ (t.cell c).st = .running
      ∧ t.counters = s.counters ∧ t.mem = s.mem ∧ ∀ r ∈ t.reqs, r.src ≠ .sigr c q.seq))
    ∧ (delivReg q.word = 0 → st ≠ .ok → Goes (.sigrAck c 0 st) s (fun t => (t.cell c).st = .halted ∧ t.rf (cellBase c + rHALT) 7 0 = HaltReason.engineError.code
      ∧ t.rf (cellBase c + rSYNCERR) 7 0 = st.code))

/-- R193, R197, R206, R212: a WAIT whose counter has reached its value ends with OK, one that has not is registered; SHUT sets its ready bit, and opens the line when every participant is ready;
a timer that expires ends the wait with TIMEOUT. Where the rules leave a point open, the clauses follow the model's own choice or reading (log 38). -/
def Obligations.WaitsAndShutters : Prop :=
  ∀ (c : CellId) (s : State) (q : QCmd), Live s → (s.cell c).st = .running →
    (∀ k, (s.cell c).xSync = [{ cmd := q, ph := .begun }] → wcode q.word = cWAIT → s.ctrKey (s.cellPart c) (syOffset q.word) = some k → s.ctrLost k = false →
      (s.ctr k).st = .owned → (s.ctr k).job = s.job c →
      ((syAmount q).toNat ≤ (s.ctr k).value.toNat → Goes (.waitCmd c .execute) s (fun t => (t.cell c).xSync = [] ∧ (delivReg q.word ≠ 0 → t.sreg c (delivReg q.word) = 0)
        ∧ (t.cell c).st = .running ∧ (t.ctr k).value = (s.ctr k).value ∧ t.mem = s.mem))
      ∧ ((s.ctr k).value.toNat < (syAmount q).toNat → Goes (.waitCmd c .execute) s (fun t =>
        (t.ctr k).waiters = (s.ctr k).waiters ++ [{ cell := c, launch := false, expect := syAmount q, timed := syTimeout q.word != 0 }]
        ∧ (t.cell c).xSync = [{ cmd := q, ph := .waiting, listed := true }] ∧ t.rd (cellBase c + rWAITEXPECT) = syAmount q ∧ t.rd (cellBase c + rWAITTARGET) = BitVec.ofNat 64 (syOffset q.word)
        ∧ (t.ctr k).value = (s.ctr k).value)))
    ∧ ((s.cell c).xSync = [{ cmd := q, ph := .begun }] → wcode q.word = cSHUT → s.rb (lineCtrl (s.cellPart c) (syLine q.word)) 16 = true →
      s.rb (lineStatus (s.cellPart c) (syLine q.word)) 11 = false → s.rf (lineCtrl (s.cellPart c) (syLine q.word)) 15 0 = s.job c → s.inMask c (syLine q.word) = true →
      ((∃ d ∈ s.participants (s.cellPart c) (syLine q.word), d ≠ c.val ∧ d ∉ (s.line (s.cellPart c) (syLine q.word)).waiting) → Goes (.shut c .execute) s (fun t =>
        (t.line (s.cellPart c) (syLine q.word)).waiting = (s.line (s.cellPart c) (syLine q.word)).waiting ++ [c.val] ∧ (t.cell c).xSync = [{ cmd := q, ph := .shutWait, listed := true }]
        ∧ t.counters = s.counters ∧ t.mem = s.mem))
      ∧ (s.participants (s.cellPart c) (syLine q.word) = [c.val] → (s.line (s.cellPart c) (syLine q.word)).waiting = [] → Goes (.shut c .execute) s (fun t =>
        t.rf (lineStatus (s.cellPart c) (syLine q.word)) 63 32 = (s.rf (lineStatus (s.cellPart c) (syLine q.word)) 63 32 + 1) % 2 ^ 32
        ∧ (t.line (s.cellPart c) (syLine q.word)).waiting = [] ∧ (t.cell c).xSync = [] ∧ (t.cell c).st = .running
        ∧ (delivReg q.word ≠ 0 → t.sreg c (delivReg q.word) = 0))))
    ∧ ((s.cell c).xSync = [{ cmd := q, ph := .waiting, listed := true }] → wcode q.word = cWAIT → syTimeout q.word ≠ 0 → delivReg q.word ≠ 0 → Goes (.waitTimeout c) s (fun t =>
      (t.cell c).xSync = [] ∧ t.sreg c (delivReg q.word) = BitVec.ofNat 64 SyncStatus.timeout.code ∧ (t.cell c).st = .running
      ∧ ∀ k, s.ctrKey (s.cellPart c) (syOffset q.word) = some k → ∀ w ∈ (t.ctr k).waiters, w.cell ≠ c.val))

/-- R196, R210, R215: the counter port. CLAIM takes a free counter for a job with the starting value; RELEASE frees an owned one without waiters; a claim of a counter
that is not free is rejected; selecting a counter shows its value, pending sum, owner and state. -/
def Sys2Proof.Claims.CounterPort : Prop :=
  ∀ (p : PartId) (u : SyncUnit) (s : State) (k : Nat), Live s → s.unitOf p u = true →
    (∀ job : BitVec 16, s.indexKey p u (s.rf (syncBase p (unitNum u)) 12 0) = some k → (s.ctr k).st = .free → job ≠ 0 → Goes (.claim p u job) s (fun t =>
      t.ctr k = { st := .owned, job := job.toNat, value := s.rd (syncBase p (unitNum u) + 0x10) } ∧ (∀ j, j ≠ k → t.ctr j = s.ctr j) ∧ t = { s with counters := t.counters }))
    ∧ (∀ job : BitVec 16, s.indexKey p u (s.rf (syncBase p (unitNum u)) 12 0) = some k → (s.ctr k).st ≠ .free ∨ job = 0 → Goes (.claim p u job) s (fun t =>
      t.rb (syncBase p (unitNum u) + 0x18) 0 = true ∧ OnlyRegs s t [syncBase p (unitNum u) + 0x18]))
    ∧ (s.indexKey p u (s.rf (syncBase p (unitNum u)) 12 0) = some k → (s.ctr k).st = .owned → (s.ctr k).waiters = [] → Goes (.ctrRelease p u) s (fun t =>
      t.ctr k = {} ∧ (∀ j, j ≠ k → t.ctr j = s.ctr j) ∧ t = { s with counters := t.counters }))
    ∧ (s.indexKey p u (s.rf (syncBase p (unitNum u)) 12 0) = some k → (s.ctr k).st = .owned → (s.ctr k).waiters ≠ [] → Goes (.ctrRelease p u) s (fun t =>
      t.rb (syncBase p (unitNum u) + 0x18) 0 = true ∧ OnlyRegs s t [syncBase p (unitNum u) + 0x18]))
    ∧ (∀ v : Word64, s.indexKey p u (fld v 12 0) = some k → Goes (.syncSelWrite p u v) s (fun t =>
      t.rd (syncBase p (unitNum u)) = BitVec.ofNat 64 (fld v 12 0) ∧ t.rd (syncBase p (unitNum u) + 0x20) = (s.ctr k).value
      ∧ t.rd (syncBase p (unitNum u) + 0x28) = (s.ctr k).pending
      ∧ t.rd (syncBase p (unitNum u) + 0x30) = BitVec.ofNat 64 ((s.ctr k).job + (s.ctr k).st.code * 2 ^ 16 + b2n (s.ctr k).saturated * 2 ^ 18)
      ∧ t.counters = s.counters ∧ t.mem = s.mem))

/-- R196, R198, R199, R215: in a state whose counter table is in its canonical form and whose job unit is idle, PREEMPT freezes exactly the owned counters of the job in the partition with nothing pending; RESUME
adds what was pending and returns them to their owner; RESET abandons them; each leaves the job unit busy until JOB_COMMAND_END. -/
def Sys2Proof.Claims.JobCommands : Prop :=
  ∀ (p : PartId) (job : BitVec 16) (s : State), Live s → CountersOk s → s.rb (pkgSyncBase p + 0x108) 0 = false →
    Goes (.preempt p job) s (fun t => t.rb (pkgSyncBase p + 0x108) 0 = true
      ∧ (∀ k, t.ctr k = if (s.ctr k).st = .owned ∧ (s.ctr k).job = job.toNat ∧ s.ctrPart k = p.val then { s.ctr k with st := .frozen, pending := 0 } else s.ctr k)
      ∧ OnlyRegs { s with counters := t.counters } t [pkgSyncBase p + 0x108])
    ∧ Goes (.jobResume p job) s (fun t => t.rb (pkgSyncBase p + 0x108) 0 = true
      ∧ (∀ k, (s.ctr k).st = .frozen → (s.ctr k).job = job.toNat → s.ctrPart k = p.val → (t.ctr k).st = .owned ∧ (t.ctr k).pending = 0
        ∧ (t.ctr k).value = BitVec.ofNat 64 (min ((s.ctr k).value.toNat + (s.ctr k).pending.toNat) (2 ^ 64 - 1)))
      ∧ (∀ k, (s.ctr k).st ≠ .frozen ∨ (s.ctr k).job ≠ job.toNat ∨ s.ctrPart k ≠ p.val → (t.ctr k).st = (s.ctr k).st ∧ (t.ctr k).value = (s.ctr k).value))
    ∧ Goes (.jobReset p job) s (fun t => t.rb (pkgSyncBase p + 0x108) 0 = true
      ∧ (∀ k, (s.ctr k).st = .owned ∨ (s.ctr k).st = .frozen → (s.ctr k).job = job.toNat → s.ctrPart k = p.val → (t.ctr k).st = .abandoned)
      ∧ (∀ k, (s.ctr k).job ≠ job.toNat ∨ s.ctrPart k ≠ p.val → (t.ctr k).st = (s.ctr k).st))
    ∧ Goes (.jobCommandEnd p) s (fun t => t.rb (pkgSyncBase p + 0x108) 0 = false ∧ OnlyRegs s t [pkgSyncBase p + 0x108])

/-- R211, R214: enabling a line that is not enabled clears its status and sets its job; enabling it twice is rejected; disabling it ends its waiting SHUTs and clears ENABLE; mask bits of an
enabled line keep their value. Where the rules leave a point open, the clauses follow the model's own choice or reading (log 38). -/
def Obligations.ShutterRegisters : Prop :=
  ∀ (p : PartId) (n : Fin 32) (v : Word64) (s : State), Live s →
    (bit v 16 = true → s.rb (lineCtrl p n) 16 = false → Goes (.lineCtrlWrite p n v) s (fun t => t.rb (lineCtrl p n) 16 = true ∧ t.rf (lineCtrl p n) 15 0 = v.toNat % 2 ^ 16
      ∧ t.rd (lineStatus p n) = 0 ∧ (t.line p n).waiting = [] ∧ t.cells = s.cells ∧ t.mem = s.mem))
    ∧ (bit v 16 = true → s.rb (lineCtrl p n) 16 = true → Goes (.lineCtrlWrite p n v) s (fun t => t.rb (shutBase p + 0x200) 0 = true ∧ OnlyRegs s t [shutBase p + 0x200]))
    ∧ (bit v 16 = false → Goes (.lineCtrlWrite p n v) s (fun t => t.rb (lineCtrl p n) 16 = false ∧ (t.line p n).waiting = []))
    ∧ (∀ b : BlockId, (∀ i, i < 16 → s.rb (lineCtrl (s.blockPart b) i) 16 = false) → Goes (.shutMaskWrite b false v) s (fun t =>
      t.rd (shutMaskBase b) = v ∧ OnlyRegs s t [shutMaskBase b]))
    ∧ (∀ b : BlockId, (∀ i, i < 16 → s.rb (lineCtrl (s.blockPart b) i) 16 = true) → Goes (.shutMaskWrite b false v) s (fun t =>
      t.rd (shutMaskBase b) = s.rd (shutMaskBase b) ∧ OnlyRegs s t [shutMaskBase b, shutMaskBase b + 0x20]))

/-- R226, R227, R232: the decoder corrects every error of one symbol and names it, takes the codeword for data and the poison mask for poison. -/
def Obligations.DecoderCorrectsOneSymbol : Prop :=
  rsDecode (List.replicate 36 0) = .data ∧ rsDecode poisonMask = .poison
    ∧ (∀ (i : Fin 36) (b : Byte), b ≠ 0 → rsDecode (errPattern [(i.val, b)]) = .corrected i.val b.toNat)

/-- R221: the interleave is one to one. For any number of stacks, a local offset of a stack is where exactly one space 0 offset is placed, and back. -/
def Obligations.InterleaveIsOneToOne : Prop :=
  ∀ n : Nat, 0 < n → (∀ i loc, i < n → place (unplace i loc n) n = (i, loc)) ∧ (∀ a, (place a n).1 < n ∧ unplace (place a n).1 (place a n).2 n = a)

/-- R227, R228, R244: a controller read without an error counts its 32 bytes and changes nothing else; a corrected error of one symbol is counted and leaves data and poison; an
uncorrectable one makes the piece poison and raises UNCORRECTABLE; a tag found changed makes the whole unit poison and raises INTEGRITY_FAIL. -/
def Sys2Proof.Claims.StackReads : Prop :=
  ∀ (st : StackId) (piece : BitVec 31) (s : State) (k : Nat), Live s → s.stackLost st = false → k = s.stackKey st (piece.toNat * 32) →
    (s.poisoned k = false → s.tagMiss k = false →
      GoesRegs (.stackRead st piece [] false) s [memBase st + mRDBYTES] (fun t => t.rd (memBase st + mRDBYTES) = s.rd (memBase st + mRDBYTES) + 32))
    ∧ (s.poisoned k = true → s.tagMiss k = false → Goes (.stackRead st piece [] false) s (fun t => t.rd (memBase st + mRDBYTES) = s.rd (memBase st + mRDBYTES) + 32
      ∧ (∀ j, t.poisoned j = s.poisoned j) ∧ t = { s with regs := t.regs, poison := t.poison }))
    ∧ (∀ err i v, s.poisoned k = false → s.tagMiss k = false → rsDecode (errPattern err) = .corrected i v →
      errPattern err = (upTo 36).map (fun j => if j = i then v else 0) →
      Goes (.stackRead st piece err false) s (fun t => t.rf (memBase st + 0x30) 31 0 = (s.rf (memBase st + 0x30) 31 0 + 1) % 2 ^ 32
        ∧ t.mem = s.mem ∧ (∀ j, t.poisoned j = s.poisoned j) ∧ t.raised = s.raised ∧ t.ceWin.get 0 st = s.ceWin.get 0 st + 1))
    ∧ (∀ err, s.poisoned k = false → rsDecode (errPattern err) = .bad →
      Goes (.stackRead st piece err false) s (fun t => t.mem = s.mem ∧ t.poisoned k = true ∧ stackEvent s evUncorrectable st 0 (k % 2 ^ 44) ∈ t.raised))
    ∧ (s.tagged k = true → Goes (.stackRead st piece [] true) s (fun t => CheckFailed s t st k))

/-- R233, R244, R245: a controller write stores its enabled bytes at the stack's place and no other byte; a write of a whole piece makes it clean; a partial write to a poisoned
piece is discarded and counted; one into a unit whose tag is found changed is discarded, and the unit becomes poison. -/
def Sys2Proof.Claims.StackWrites : Prop :=
  ∀ (st : StackId) (addr : BitVec 36) (data : List (Option Byte)) (s : State) (bs : List (Option Byte)) (k : Nat), Live s → s.stackLost st = false →
    bs = data.take (32 - addr.toNat % 32) → (bs.filter Option.isSome).length ≠ 0 → k = s.stackKey st addr.toNat →
    (s.tagMiss k = false → (bs.filter Option.isSome).length = 32 ∨ s.poisoned k = false → Goes (.stackWrite st addr ⟨data, [], false⟩) s (fun t =>
      (∀ x, t.memB x = if k ≤ x then (bs.getD (x - k) none).getD (s.memB x) else s.memB x)
      ∧ (∀ x, t.poisoned x = if (bs.filter Option.isSome).length = 32 ∧ x / 32 = k / 32 then false else s.poisoned x) ∧ OnlyMem s t))
    ∧ (s.tagMiss k = false → (bs.filter Option.isSome).length ≠ 32 → s.poisoned k = true → Goes (.stackWrite st addr ⟨data, [], false⟩) s (fun t =>
      t.rf (memBase st + mPOISONKEEP) 63 0 = (s.rf (memBase st + mPOISONKEEP) 63 0 + 1) % 2 ^ 64 ∧ t = { s with regs := t.regs, stale := t.stale }))
    ∧ (s.tagged k = true → Goes (.stackWrite st addr ⟨data, [], true⟩) s (fun t => CheckFailed s t st k))

/-- R236, R239, R244: a grist add of a clean granule into a clean granule stores grist_add of the two in the format, element by element, and no other byte; poison on either
side makes the whole granule poison and stores nothing, and so does a tag of the destination found changed. -/
def Sys2Proof.Claims.GristAdds : Prop :=
  ∀ (st : StackId) (g : BitVec 28) (fmt : Fin 5) (src : List Byte) (pz : Bool) (s : State) (k : Nat), Live s → s.stackLost st = false → src.length = 256 →
    k = s.stackKey st (g.toNat * 256) →
    (pz = false → s.tagMiss k = false → (∀ j, j < 8 → s.poisoned (k + 32 * j) = false) → Goes (.gristAdd st g fmt ⟨src, pz⟩ ⟨[], false⟩) s (fun t =>
      t.readB k 256 = (gristAdd fmt (s.readB k 256) src).1
      ∧ (∀ x, x < k ∨ k + 256 ≤ x → t.memB x = s.memB x) ∧ (∀ x, t.poisoned x = s.poisoned x) ∧ OnlyMem s t))
    ∧ (s.tagMiss k = false → pz = true ∨ (∃ j, j < 8 ∧ s.poisoned (k + 32 * j) = true) → Goes (.gristAdd st g fmt ⟨src, pz⟩ ⟨[], false⟩) s (fun t =>
      (∀ j, j < 8 → t.poisoned (k + 32 * j) = true) ∧ t.mem = s.mem ∧ OnlyMem s t))
    ∧ (s.tagged k = true → Goes (.gristAdd st g fmt ⟨src, pz⟩ ⟨[], true⟩) s (fun t => CheckFailed s t st k))

/-- R224, R229, R230, R235: the scrubber moves to the next piece; the correction window ends with CE_THRESHOLD when its count passed the threshold, and begins at 0; an aged
request is counted; a lost stack takes its region with it and raises STACK_LOST. Where the rules leave a point open, the clauses follow the model's own choice or reading (log 23, 48). -/
def Obligations.StackUpkeep : Prop :=
  ∀ (st : StackId) (s : State), Live s →
    (s.stackLost st = false → s.rb (memBase st + 0x20) 8 = true → s.poisoned (s.stackKey st (s.rf (memBase st + 0x28) 30 0 * 32)) = false →
      GoesRegs (.patrolScrub st []) s [memBase st + 0x28] (fun t => t.rf (memBase st + 0x28) 30 0 = (s.rf (memBase st + 0x28) 30 0 + 1) % 2 ^ 31))
    ∧ (s.stackLost st = false → s.rb (memBase st + 0x20) 8 = true → s.poisoned (s.stackKey st (s.rf (memBase st + 0x28) 30 0 * 32)) = true →
      Goes (.patrolScrub st []) s (fun t => t.rf (memBase st + 0x28) 30 0 = (s.rf (memBase st + 0x28) 30 0 + 1) % 2 ^ 31 ∧ (∀ k, t.poisoned k = s.poisoned k)
        ∧ t = { s with regs := t.regs, poison := t.poison }))
    ∧ (s.rf (memBase st + 0x38) 31 0 < s.ceWin.get 0 st → Goes (.ceWindowExpire st) s (fun t => t.ceWin.get 0 st = 0
      ∧ t.raised = s.raised ++ [stackEvent s evCeThreshold st (s.ceWin.get 0 st) 0] ∧ t.regs = s.regs ∧ t.mem = s.mem))
    ∧ (s.ceWin.get 0 st ≤ s.rf (memBase st + 0x38) 31 0 → Goes (.ceWindowExpire st) s (fun t => t.ceWin.get 0 st = 0 ∧ t = { s with ceWin := t.ceWin }))
    ∧ (s.rf (memBase st + 0x18) 15 0 ≠ 0 → GoesRegs (.prioAgeExpire st) s [memBase st + 0x90] (fun t => t.rd (memBase st + 0x90) = s.rd (memBase st + 0x90) + 1))
    ∧ (∀ cause, s.rf (memBase st + 8) 2 0 ≠ 3 → Goes (.stackLoss st cause) s (fun t => stackRegion st ∈ t.lostRegions
      ∧ stackEvent s evStackLost st (stackCause cause) 0 ∈ t.raised))

/-- R248, R249, R251, R252: a far-tier access of bytes attached to its partition over ports that are UP reads without changing what is stored, but for the pieces that the expander marks as poison, or stores its bytes for the
partition's session; memory of the package is not touched. -/
def Sys2Proof.Claims.FarTierAccesses : Prop :=
  ∀ (p : PartId) (s : State), Live s →
    (∀ off n marks, 0 < n → off.toNat + n ≤ s.farAvail p → s.farUp (s.farStart p + off.toNat) n = true → (s.farStart p + off.toNat) % 4096 + n ≤ 4096 → Goes (.farAccess p (.read off n marks) true) s (fun t =>
      t = { s with regs := t.regs, freeCtr := t.freeCtr, farPoison := t.farPoison } ∧ (marks = [] → t.farPoison = s.farPoison)
      ∧ (∀ m ∈ marks, m < ((s.farStart p + off.toNat) % 32 + n + 31) / 32 → t.farPoison.get false ((s.farStart p + off.toNat) / 32 + m) = true)
      ∧ t.rf (farBase (s.farPort (s.farStart p + off.toNat)) + 0x30) 63 0 = (s.rf (farBase (s.farPort (s.farStart p + off.toNat)) + 0x30) 63 0 + n) % 2 ^ 64))
    ∧ (∀ (off : BitVec 52) (d : List Byte), 0 < d.length → off.toNat + d.length ≤ s.farAvail p → s.farUp (s.farStart p + off.toNat) d.length = true → s.farPoison = [] →
      Goes (.farAccess p (.write off d false) true) s (fun t =>
        (∀ j, j < d.length → t.far.get none (s.farStart p + off.toNat + j) = some { value := d.getD j 0, epoch := (s.part p).epoch })
        ∧ (∀ b, b < s.farStart p + off.toNat ∨ s.farStart p + off.toNat + d.length ≤ b → t.far.get none b = s.far.get none b)
        ∧ t = { s with regs := t.regs, far := t.far, farPoison := t.farPoison }))
    ∧ (∀ acc, s.farSpan p acc = none → exec (.farAccess p acc true) s = .next s)

/-- R246, R247, R251: the far-tier ports. A missing completion is recorded with code 0x02; a link that goes down retrains while RETRAIN_MAX allows it and is disabled after that
with FAR_PORT_DOWN; a viral expander disables it; training brings it UP with
its capacity, and its retrains are counted afresh. -/
def Sys2Proof.Claims.FarTierPorts : Prop :=
  ∀ (q : FarPortId) (s : State), Live s →
    (s.farState q = 2 → GoesRegs (.farCompletionTimeout q) s [farBase q + 0x10] (fun t => t.rf (farBase q + 0x10) 7 0 = 2))
    ∧ (s.farState q = 2 → s.farTries.get 0 q < s.rf (farBase q + 0x40) 2 0 → Goes (.farLinkDown q) s (fun t => t.farState q = 3 ∧ t.rf (farBase q + 0x10) 7 0 = 1
      ∧ t.farTries.get 0 q = s.farTries.get 0 q + 1 ∧ t.raised = s.raised ∧ OnlyRegs { s with farTries := t.farTries } t [farBase q, farBase q + 0x10, farBase q + 0x28]))
    ∧ (s.farState q = 2 → s.rf (farBase q + 0x40) 2 0 ≤ s.farTries.get 0 q → Goes (.farLinkDown q) s (fun t => t.farState q = 4 ∧ t.rf (farBase q + 0x10) 7 0 = 5
      ∧ t.raised = s.raised ++ [{ code := evFarPortDown, part := 6, kind := 9, index := q, arg0 := 5 }] ∧ t.mem = s.mem ∧ t.far = s.far))
    ∧ (s.farState q = 2 → Goes (.farViral q) s (fun t => t.farState q = 4 ∧ t.rf (farBase q + 0x10) 7 0 = 3
      ∧ t.raised = s.raised ++ [{ code := evFarPortDown, part := 6, kind := 9, index := q, arg0 := 3 }] ∧ t.mem = s.mem ∧ t.far = s.far))
    ∧ (∀ n, s.farState q = 2 → n ≠ 16 → n ≠ 64 → GoesRegs (.farMalformed q n) s [farBase q + 0x20] (fun t => t.rd (farBase q + 0x20) = s.rd (farBase q + 0x20) + 1))
    ∧ (s.farState q = 2 → Goes (.farMalformed q 64) s (fun t => t.farState q = 4 ∧ t.rf (farBase q + 0x10) 7 0 = 4))
    ∧ (∀ bytes, s.farState q = 1 ∨ s.farState q = 3 → Goes (.farPortTrained q (.up bytes true true)) s (fun t => t.farState q = 2
      ∧ t.rd (farBase q + 8) = (if s.rd (farBase q + 8) = 0 then bytes else s.rd (farBase q + 8)) ∧ t.rf (farBase q) 15 8 = 16 ∧ t.farTries.get 0 q = 0
      ∧ OnlyRegs { s with farTries := t.farTries } t [farBase q, farBase q + 8]))
    ∧ (s.farState q = 1 → GoesRegs (.farPortTrained q .absent) s [farBase q] (fun t => t.farState q = 0))
    ∧ (s.farState q = 1 → GoesRegs (.farPortTrained q .unsupported) s [farBase q] (fun t => t.farState q = 4))

/-- R34, R233: the store of clean bytes in one run writes them to exactly its keys when none of its pieces holds poison, no tag is out of step and no region is lost, and leaves every other
byte and every poison mark. -/
def Obligations.StoresAreExact : Prop :=
  ∀ (s : State) (k : Nat) (bs : List Byte), s.lostRegions = [] → s.stale = [] → s.missedUnits k bs.length = [] → (∀ i, i < bs.length → s.poisoned (k + i) = false) →
    (∀ a, (s.storePB k (bs.map (fun b => (b, false)))).memB a = if k ≤ a ∧ a < k + bs.length then bs.getD (a - k) 0 else s.memB a)
    ∧ (∀ a, (s.storePB k (bs.map (fun b => (b, false)))).poisoned a = s.poisoned a)
    ∧ OnlyMem s (s.storePB k (bs.map (fun b => (b, false))))

/-- R233, R236, R256, R197, R126: a served request has its effect on its partition and is answered: a WRITE stores its bytes, a GRIST adds its granules, a READ_REQ is answered with the bytes
it names, a SIGNAL is judged at its counter, a MILLRACE tile enters its cell's receive buffer; one that names no place there is answered SPACE or RIGHTS. -/
def Sys2Proof.Claims.MessagesAreServed : Prop :=
  ∀ (mi : MsgIn) (s : State) (a : Arrival) (d : Nat) (u : State), Live s → Served a d →
    (s.arrive mi (fun k => k == mkWRITE || !(isRequest k || k == mkRESP || k == mkACK)) = .here a → s.msgHeld a = none → u = a.state.unhold (.cmd (.msgWrite mi)) →
      Goes (.msgWrite mi) s (fun t => Becomes t (RepliedBy a d (u.writeMsg d a.via a.msg).1 (u.writeMsg d a.via a.msg).2)
        ∧ (a.msg.job ≠ 0 → msgSpaceOk a.via a.msg.addr = true → ∀ k, a.msg.len ≠ 0 → u.locate { part := d } true a.msg.addr a.msg.len = .mem k → u.runLost k a.msg.len = false →
            Becomes t (RepliedBy a d stOK (u.storePB k a.msg.bytes)))
        ∧ (a.msg.job ≠ 0 → msgSpaceOk a.via a.msg.addr = false → Becomes t (RepliedBy a d stSPACE u))))
    ∧ (s.arrive mi (fun k => k == mkGRIST) = .here a → u = a.state →
      Goes (.msgGrist mi) s (fun t => Becomes t (RepliedBy a d (u.gristMsg d a.msg).1 (u.gristMsg d a.msg).2)
        ∧ (∀ k, a.msg.addr < 2 ^ 52 → a.msg.len = 256 → u.locate { part := d } true a.msg.addr 256 = .mem k → u.runLost k 256 = false →
            Becomes t (RepliedBy a d stOK
              (u.gristGranule k a.msg.fmt ((a.msg.bytes.take 256).map (fun x => x.1)) ((a.msg.bytes.take 256).any (fun x => x.2)))))))
    ∧ (s.arrive mi (fun k => k == mkREAD) = .here a → s.msgHeld a = none → u = a.state.unhold (.cmd (.msgReadReq mi)) →
      Goes (.msgReadReq mi) s (fun t => (msgSpaceOk a.via a.msg.addr = false → Becomes t (RepliedBy a d stSPACE u))
        ∧ (msgSpaceOk a.via a.msg.addr = true → (a.msg.amount = 0 → Becomes t (RepliedBy a d stOK u))
          ∧ (∀ k, a.msg.amount ≠ 0 → u.locate { part := d } false a.msg.addr a.msg.amount = .mem k →
              Becomes t ((u.loadPB k a.msg.amount).2.replyData d a.via a.msg (u.loadPB k a.msg.amount).1) ∧ t.mem = s.mem ∧ (u.missedUnits k a.msg.amount = [] → t.poison = s.poison))
          ∧ (∀ b, a.msg.amount ≠ 0 → u.locate { part := d } false a.msg.addr a.msg.amount = .far b →
              Becomes t (if u.farUp b a.msg.amount then (u.farLoad d b a.msg.amount).2.replyData d a.via a.msg (u.farLoad d b a.msg.amount).1 else RepliedBy a d stBUSY u))
          ∧ (a.msg.amount ≠ 0 → u.locate { part := d } false a.msg.addr a.msg.amount = .fault → Becomes t (RepliedBy a d stRIGHTS u)))))
    ∧ (s.arrive mi (fun k => k == mkSIGNAL) = .here a → u = a.state →
      Goes (.msgSignal mi) s (fun t => (2 ^ 52 ≤ a.msg.addr → Becomes t (RepliedBy a d stSPACE u))
        ∧ (∀ g : Signal, a.msg.addr < 2 ^ 52 →
            g = { part := d, offset := a.msg.addr, amount := BitVec.ofNat 64 a.msg.amount, job := a.msg.job, src := .remote a.msg.src (BitVec.ofNat 64 a.msg.seq) } →
            Becomes t (RepliedBy a d (signalStatus (u.landSignal g).1) (u.landSignal g).2))))
    ∧ (s.arrive mi (fun k => k == mkMILLRACE) = .here a → s.millraceWaits a = false → u = a.state →
      Goes (.msgMillrace mi) s (fun t =>
        (576 ≤ a.msg.addr % 1024 ∨ u.cellPart (a.msg.addr % 1024) ≠ d → Becomes t (RepliedBy a d stRIGHTS u))
        ∧ (a.msg.addr % 1024 < 576 → u.cellPart (a.msg.addr % 1024) = d →
          (u.tileOk (a.msg.addr % 1024) a.msg.src (a.msg.seq % 1024) a.msg.job = true → Becomes t (RepliedBy a d stOK (u.tileIn (a.msg.addr % 1024) a.msg.tile)))
          ∧ (u.tileOk (a.msg.addr % 1024) a.msg.src (a.msg.seq % 1024) a.msg.job = false →
              Becomes t (RepliedBy a d stJOB (u.tileRefused (a.msg.addr % 1024))) ∧ t.mem = s.mem ∧ t.cells = s.cells))))

/-- R255, R256, R289, R306: an unsound request is answered with the status that its first failed check gives, and counts as a violation of its link unless it is a probe. -/
def Sys2Proof.Claims.UnsoundRequestsAreRefused : Prop :=
  ∀ (mi : MsgIn) (s : State) (a : Arrival) (st : Nat), Live s → a.state.requestFault a = some st →
    ∀ r ∈ requestRows, s.arrive mi r.2 = .here a → GoesOn (r.1 mi) s a →
    Goes (r.1 mi) s (fun t => Becomes t (if a.msg.isProbe then Replied a st (judgedIn (r.1 mi) a)
      else (Replied a st (judgedIn (r.1 mi) a)).msgViolation a.via st a.msg))

/-- R266, R292, R303, R306, R372: a sound request that finds no partition to serve it has no effect there: one for another package is relayed; no such partition is NOPART; a probe is answered OK,
or BUSY by a partition being dressed; a partition that is being dressed or has not started answers BUSY, a lost one poison to a READ_REQ and BUSY to the rest. -/
def Sys2Proof.Claims.RequestsWithoutEffect : Prop :=
  ∀ (mi : MsgIn) (s : State) (a : Arrival) (u : State) (p d : Nat), Live s → a.state.requestFault a = none → p = a.state.arrivalPart a → d = coPart a.msg.dst →
    ∀ r ∈ requestRows, s.arrive mi r.2 = .here a → GoesOn (r.1 mi) s a → u = judgedIn (r.1 mi) a →
    Goes (r.1 mi) s (fun t => (coPackage a.msg.dst ≠ coPackage (u.coordOf p) → Becomes t (u.relay p a))
      ∧ (coPackage a.msg.dst = coPackage (u.coordOf p) →
        (u.partValid d = false → Becomes t (Replied a stNOPART u))
        ∧ (u.partValid d = true →
          (a.msg.isProbe = true → Becomes t (Replied a (if (u.part d).st = .dressing then stBUSY else stOK) u))
          ∧ (a.msg.isProbe = false → u.partBusy d = true → Becomes t (Replied a stBUSY u))
          ∧ (a.msg.isProbe = false → u.partBusy d = false → u.partDead d = true →
              Becomes t (if a.msg.kind = mkREAD then u.replyData p a.via a.msg a.msg.allPoison else Replied a stBUSY u)))))

/-- R16, R35, R113, R127, R260: a message with a hop to go on the leat makes that hop; a request for a busy set or a full receive buffer waits; where the named message is not, nothing happens. -/
def Sys2Proof.Claims.MessagesTravelOrWait : Prop :=
  ∀ (mi : MsgIn) (s : State), Live s →
    (∀ r ∈ msgRows, (∀ s1, s.arrive mi r.2 = .onward s1 → exec (r.1 mi) s = .next s1) ∧ (s.arrive mi r.2 = .no → exec (r.1 mi) s = .next s))
    ∧ (∀ (a : Arrival) (w : Nat × Nat), s.msgHeld a = some w →
      (s.arrive mi (fun k => k == mkWRITE || !(isRequest k || k == mkRESP || k == mkACK)) = .here a → exec (.msgWrite mi) s = .next (s.hold w (.cmd (.msgWrite mi))))
      ∧ (s.arrive mi (fun k => k == mkREAD) = .here a → exec (.msgReadReq mi) s = .next (s.hold w (.cmd (.msgReadReq mi)))))
    ∧ (∀ a : Arrival, s.millraceWaits a = true → s.arrive mi (fun k => k == mkMILLRACE) = .here a → exec (.msgMillrace mi) s = .next s)

/-- R256, R257, R208, R289, R304: a response ends the request it answers: a SIGR gets its status, a read's data goes where its request says, a relayed one goes back; one that answers nothing
goes on to its package or is discarded, and counts unless its request has ended without a response; a malformed one is discarded and counts; a request that has had no response in 100 µs ends
without one, a SIGR with UNKNOWN. Where the rules leave a point open, the clauses follow the model's own choice or reading (log 39, 55). -/
def Obligations.ResponsesEndRequests : Prop :=
  ∀ (s : State), Live s →
    (∀ (mi : MsgIn) (a : Arrival), ∀ i ∈ [(Instr.msgAck, mkACK), (Instr.msgReadResp, mkRESP)], s.arrive mi (fun k => k == i.2) = .here a → a.msg.kind = i.2 →
      (a.via = .guest → Goes (i.1 mi) s (fun t => Becomes t (a.state.guestResponse a.msg)))
      ∧ (a.via ≠ .guest → a.msg.vc = 0 → Goes (i.1 mi) s (fun t => Becomes t ((Replied a stBADKIND a.state).msgViolation a.via stBADKIND a.msg)))
      ∧ (a.via ≠ .guest → a.msg.vc = 3 → Goes (i.1 mi) s (fun t => Becomes t (a.state.msgViolation a.via stBADVC a.msg)))
      ∧ (a.via ≠ .guest → a.msg.vc = 1 ∨ a.msg.vc = 2 → a.msg.reserved = true → Goes (i.1 mi) s (fun t => Becomes t (a.state.msgViolation a.via stRESERVED a.msg)))
      ∧ (a.via ≠ .guest → a.msg.vc = 1 ∨ a.msg.vc = 2 → a.msg.reserved = false →
        (∀ r : Req, a.state.requestOf a.msg = some r → (∀ v x, r.src ≠ .relay v x) → (a.msg.kind = mkACK ∨ a.msg.status ≠ stOK ∨ a.msg.len = r.amount) →
          Goes (i.1 mi) s (fun t => Becomes t (a.state.endReq r (some a.msg))
            ∧ ∀ (c : Nat) (q : Word64), r.src = .sigr c q → a.msg.status ≠ stNOROUTE → Becomes t ((a.state.dropReq r).endSync c q (sigrStatus a.msg.status))))
        ∧ (∀ (r : Req) (v : Via) (x : Nat), a.state.requestOf a.msg = some r → r.src = .relay v x →
          Goes (i.1 mi) s (fun t => Becomes t (a.state.relayBack (a.state.arrivalPart a) r a.msg)))
        ∧ (∀ r : Req, a.state.requestOf a.msg = some r → (∀ v x, r.src ≠ .relay v x) → a.msg.kind = mkRESP → a.msg.status = stOK → a.msg.len ≠ r.amount →
          Goes (i.1 mi) s (fun t => Becomes t (a.state.msgViolation a.via stBADLEN a.msg)))
        ∧ (a.state.requestOf a.msg = none →
          Goes (i.1 mi) s (fun t => Becomes t (if coPackage a.msg.dst ≠ coPackage (a.state.coordOf (a.state.arrivalPart a)) ∧ a.msg.vc = 1 then a.state.forwardResp (a.state.arrivalPart a) a.msg
            else if a.state.ended.any (fun e => e.1 == a.msg.txid && (e.2 == a.msg.src || e.2 == a.msg.dst)) then a.state
            else a.state.msgViolation a.via 0x12 a.msg)))))
    ∧ (∀ (txid : Nat) (r : Req), s.reqs.find? (fun r => r.txid == txid && !r.retry) = some r → Goes (.requestTimeout txid) s (fun t => Becomes t (s.endReq r none)
        ∧ ∀ (c : Nat) (q : Word64), r.src = .sigr c q → Becomes t (({ s with ended := s.ended ++ [(r.txid, r.peer)] }.dropReq r).endSync c q .unknown)))
    ∧ (∀ txid, s.reqs.find? (fun r => r.txid == txid && !r.retry) = none → exec (.requestTimeout txid) s = .next s)

/-- R258, R260 to R262: the leat's own protocol. A header error of a message that crosses counts at its port, and the message is sent again; an acknowledgement frees every message up to its
sequence that the other end has accepted, and no other; credits return up to their limit. -/
def Sys2Proof.Claims.LeatProtocol : Prop :=
  ∀ (p : LeatId) (s : State), Live s →
    (∀ m, (s.leat p).st = .up → p.val = guestPort ∨ (s.leatSend p m).isSome = true → Goes (.leatHeaderNak p m) s (fun t =>
      t.rf (leatBase p + 0x20) 63 32 = (s.rf (leatBase p + 0x20) 63 32 + 1) % 2 ^ 32 ∧ (t.leat p).st = .up ∧ 1 ≤ (t.leat p).hdrErrs ∧ (t.leat p).hdrErrs ≤ (s.leat p).hdrErrs + 1
        ∧ t.mem = s.mem ∧ t.cells = s.cells ∧ t.selfMsgs = s.selfMsgs))
    ∧ (∀ m, (s.leat p).st ≠ .up ∨ (p.val ≠ guestPort ∧ s.leatSend p m = none) → exec (.leatHeaderNak p m) s = .next s)
    ∧ (∀ seq i, findIdx (fun u : Nat × LinkMsg => u.1 == seq % 2 ^ 16) (s.leat (leatPair p)).unacked = some i → i < leatAccepted s p →
      exec (.leatSeqAck p seq) s = .next (s.setLeat (leatPair p) { s.leat (leatPair p) with unacked := (s.leat (leatPair p)).unacked.drop (i + 1) }))
    ∧ (∀ seq, (∀ i, findIdx (fun u : Nat × LinkMsg => u.1 == seq % 2 ^ 16) (s.leat (leatPair p)).unacked = some i → leatAccepted s p ≤ i) → exec (.leatSeqAck p seq) s = .next s)
    ∧ (∀ n, Goes (.leatCreditReturn p 0 n) s (fun t => t = s.setLeat p { s.leat p with cr0 := min 2048 ((s.leat p).cr0 + n) }))
    ∧ (∀ n, Goes (.leatCreditReturn p 1 n) s (fun t => t = s.setLeat p { s.leat p with cr1 := min 2048 ((s.leat p).cr1 + n) }))
    ∧ (∀ n, Goes (.leatCreditReturn p 2 n) s (fun t => t = s.setLeat p { s.leat p with cr2 := min 1024 ((s.leat p).cr2 + n) }))

/-- R17, R261, R263, R265, R291, R293: retraining and restoring. An UP port retrains by command or cause, at both its ends, and counts it; at the guest port the fourth in 60 s kills the guest;
RESTORE trains an OUT_OF_SERVICE port; either command is rejected in any other state. -/
def Sys2Proof.Claims.LeatRetrains : Prop :=
  ∀ (p : LeatId) (s : State), Live s →
    (∀ r ∈ [(Instr.leatRetrain p, 0), (Instr.leatRetrainCause p true, 4), (Instr.leatRetrainCause p false, 0)], s.leatExists p = true → (s.leat p).st = .up →
      (r.1 = Instr.leatRetrainCause p false → 16 ≤ (s.leat p).hdrErrs) → Goes r.1 s (fun t => t.rf (leatBase p + 0x30) 31 0 = (s.rf (leatBase p + 0x30) 31 0 + 1) % 2 ^ 32 ∧ t.rf (leatBase p) 15 8 = r.2
        ∧ ((t.leat p).st = .retraining ∨ (p.val = guestPort ∧ (t.leat p).st = .held ∧ t.weir.killed = true))
        ∧ (∀ q, leatPeer p = some q → (s.leat q).st = .up → (t.leat q).st = .retraining)
        ∧ (p.val ≠ guestPort → t = { s with leats := t.leats, regs := t.regs })))
    ∧ ((s.leat p).st ≠ .up ∨ s.leatExists p = false → GoesRegs (.leatRetrain p) s [leatBase p] (fun t => t.rb (leatBase p) 4 = true))
    ∧ (∀ clock, (s.leat p).st ≠ .up ∨ s.leatExists p = false ∨ (clock = false ∧ (s.leat p).hdrErrs < 16) → exec (.leatRetrainCause p clock) s = .next s)
    ∧ (s.leatExists p = true → (s.leat p).st = .outOfService →
      exec (.leatRestore p) s = .next (s.setLeat p { s.leat p with st := .training, fails := 0, restore := true }))
    ∧ ((s.leat p).st ≠ .outOfService ∨ s.leatExists p = false → GoesRegs (.leatRestore p) s [leatBase p] (fun t => t.rb (leatBase p) 4 = true))

/-- R17, R263 to R267, R291: the ends of service and of training. A port goes out at both its ends; while its mate serves, its replay goes to the mate; out after its mate, or a spoke, it fails the
partitions that use it. A port trained with a common version is UP with fresh credits; without one it is DOWN for reason 2; a first failure is tried again. -/
def Sys2Proof.Claims.LeatPortStates : Prop :=
  ∀ (p : LeatId) (s : State), Live s → s.leatExists p = true →
    ((s.leat p).st = .up ∨ (s.leat p).st = .retraining → Goes (.leatPortOut p) s (fun t => (t.leat p).st = .outOfService ∧ (∀ q, leatPeer p = some q → (t.leat q).st = .outOfService)
      ∧ leatEvent s p evLeatPortDown 0 ∈ t.raised ∧ t.rf (leatBase p) 15 8 = (if s.rf (leatBase p) 15 8 = 4 then 4 else 3)
      ∧ (∀ m, leatMate p = some m → s.leatDead m = false →
          t.rf (leatBase m + 0x28) 63 0 = (s.rf (leatBase m + 0x28) 63 0 + (s.leat (leatPair p)).unacked.length) % 2 ^ 64 ∧ t.parts = s.parts)
      ∧ (∀ m, leatMate p = some m → s.leatDead m = true → ∀ d ∈ s.pairUsers p, (s.part d).st = .ready → (t.part d).st = .failing ∨ (t.part d).st = .dumping)
      ∧ (p.val ≠ guestPort → leatMate p = none → ∀ d, d = s.bedPart (if p.val < 48 then p.val / 8 else p.val - 48) → (s.part d).st = .ready →
          (t.part d).st = .failing ∨ (t.part d).st = .dumping)))
    ∧ ((s.leat p).st ≠ .up → (s.leat p).st ≠ .retraining → exec (.leatPortOut p) s = .next s)
    ∧ (∀ sp ex adv v fs, (s.leat p).st = .training ∨ (s.leat p).st = .retraining → s.leatAgreed p adv = some (v, fs) → Goes (.leatPortTrained p (.up sp ex adv)) s (fun t =>
      (t.leat p).st = .up ∧ (t.leat p).cr0 = 2048 ∧ (t.leat p).cr1 = 2048 ∧ (t.leat p).cr2 = 1024 ∧ t.rf (leatBase p) 15 8 = 0 ∧ (t.leat p).advert = some (s.leatAdvert p)
        ∧ t = { s with leats := t.leats, regs := t.regs, weir := t.weir }
        ∧ (if p.val = guestPort then t.weir.verMajor = v.1 ∧ t.weir.verMinor = v.2 ∧ t.weir.features = fs ∧ t.weir.held = false else t.weir = s.weir)))
    ∧ (∀ sp ex adv, (s.leat p).st = .training ∨ (s.leat p).st = .retraining → s.leatAgreed p adv = none → Goes (.leatPortTrained p (.up sp ex adv)) s (fun t =>
      ((t.leat p).st = .down ∨ (p.val = guestPort ∧ (t.leat p).st = .held ∧ t.weir.killed = true)) ∧ leatEvent s p evLinkViolation p ∈ t.raised ∧ t.rf (leatBase p) 15 8 = 2))
    ∧ ((s.leat p).st = .training ∨ (s.leat p).st = .retraining → Goes (.leatPortTrained p .failed) s (fun t =>
      ((s.leat p).fails = 0 → Becomes t (s.setLeat p { s.leat p with fails := 1 }))
      ∧ ((s.leat p).fails ≠ 0 → ((s.leat p).st = .retraining ∨ (s.leat p).restore = true → (t.leat p).st = .outOfService)
        ∧ ((s.leat p).st = .training → (s.leat p).restore = false → t.rf (leatBase p) 15 8 = 1
          ∧ ((t.leat p).st = .down ∨ (p.val = guestPort ∧ (t.leat p).st = .held ∧ t.weir.killed = true))))))
    ∧ (∀ x, (s.leat p).st ≠ .training → (s.leat p).st ≠ .retraining → exec (.leatPortTrained p x) s = .next s)

/-- R258, R262, R268 to R272, R294: the weir. A request that fails its checks is answered with its status, is counted, and passes nothing; one without credit is discarded and counted; one that
finds others waiting, or a bucket empty, waits; one that passes goes on under WEIR.JOB; a killed guest passes nothing; KILL holds the guest port; WEIR.JOB takes its new job. Where the rules leave a point open, the clauses follow the model's own choice or reading (log 25, 41). -/
def Obligations.WeirGuardsTheGuest : Prop :=
  ∀ (s : State), Live s →
    (∀ m p st code, s.guestPart = some p → s.weir.killed = false → s.weir.held = false → (s.leat guestPort).st = .up → s.weir.waiting = [] → m.leatPieces ≤ leatGrant m.vc →
      s.weirCheck m = some (st, code) →
      Goes (.guestRequest m) s (fun t => t.weir.answers = m.answer (s.coordOf p) st :: s.weir.answers ∧ t.rf (weirBase + 0x20) 31 0 = (s.rf (weirBase + 0x20) 31 0 + 1) % 2 ^ 32
        ∧ t.selfMsgs = s.selfMsgs ∧ t.mem = s.mem ∧ t.counters = s.counters))
    ∧ (∀ m p, s.guestPart = some p → s.weir.killed = false → s.weir.held = false → (s.leat guestPort).st = .up → s.weir.waiting.head? ≠ some m →
      leatGrant m.vc < s.guestHolds m.vc + m.leatPieces → Goes (.guestRequest m) s (fun t => t.rf (weirBase + 0x20) 31 0 = (s.rf (weirBase + 0x20) 31 0 + 1) % 2 ^ 32
        ∧ t.weir.answers = s.weir.answers ∧ t.selfMsgs = s.selfMsgs ∧ t.mem = s.mem ∧ t.counters = s.counters))
    ∧ (∀ m p, s.guestPart = some p → s.weir.killed = false → s.weir.held = false → (s.leat guestPort).st = .up → s.weir.waiting ≠ [] → s.weir.waiting.contains m = false →
      s.guestHolds m.vc + m.leatPieces ≤ leatGrant m.vc → exec (.guestRequest m) s = .next { s with weir := { s.weir with waiting := s.weir.waiting ++ [m] } })
    ∧ (∀ m p, s.guestPart = some p → s.weir.killed = false → s.weir.held = false → (s.leat guestPort).st = .up → s.weir.waiting = [] → m.leatPieces ≤ leatGrant m.vc →
      s.weirCheck m = none → (m.kind = mkREAD → s.weirRefill.weir.rdTokens < m.amount) → (m.kind = mkWRITE → s.weirRefill.weir.wrTokens < m.len) → m.kind = mkREAD ∨ m.kind = mkWRITE →
      Goes (.guestRequest m) s (fun t => t.weir.waiting = [m] ∧ t.selfMsgs = s.selfMsgs ∧ t.weir.outstanding = s.weir.outstanding ∧ t.mem = s.mem ∧ t.regs = s.regs))
    ∧ (∀ m p m1, s.guestPart = some p → s.weir.killed = false → s.weir.held = false → (s.leat guestPort).st = .up → s.weir.waiting = [] → m.leatPieces ≤ leatGrant m.vc →
      s.weirCheck m = none → (m.kind = mkREAD → m.amount ≤ s.weirRefill.weir.rdTokens) → (m.kind = mkWRITE → m.len ≤ s.weirRefill.weir.wrTokens) →
      m1 = { m with src := s.coordOf p, dst := s.coordOf p, job := s.rf (weirBase + 0x10) 15 0 } →
      Goes (.guestRequest m) s (fun t => t.selfMsgs = s.selfMsgs ++ [{ via := .guest, msg := m1, node := 6, goal := (s.msgHome m1).getD 6 }]
        ∧ t.weir.outstanding = s.weir.outstanding + 1 ∧ t = { s with weir := t.weir, selfMsgs := t.selfMsgs, freeCtr := t.freeCtr, regs := t.regs }
        ∧ ∀ o, o ≠ weirBase + 0x148 → t.rd o = s.rd o))
    ∧ (∀ m, s.guestPart = none ∨ s.weir.killed = true ∨ s.weir.held = true ∨ (s.leat guestPort).st ≠ .up → exec (.guestRequest m) s = .next s)
    ∧ (s.weir.killed = false → s.module.guestSite = true → Goes .weirCtrlKill s (fun t => t.weir.killed = true ∧ t.weir.held = true ∧ (t.leat guestPort).st = .held
      ∧ t.rf (weirBase + 8) 15 8 = 1 ∧ t.weir.waiting = [] ∧ t.mem = s.mem))
    ∧ (s.weir.killed = true ∨ s.module.guestSite = false → exec .weirCtrlKill s = .next s)
    ∧ (∀ v : Word64, GoesRegs (.weirJobWrite v) s [weirBase + 0x10] (fun t => t.rf (weirBase + 0x10) 15 0 = v.toNat % 2 ^ 16))

/-- R276 to R280, R284, R286, R292: sending flits. An identified link, or one with nothing to send or 64 flits unacknowledged, sends IDLE; an active one with slots waiting sends a numbered DATA
flit under its nonce and keeps it until it is acknowledged; in a replay it resends the next kept flit under its old number; a link that negotiates or keys sends a numbered CTRL flit with the
record that is due; a DRESSING link says so; the others send nothing. -/
def Sys2Proof.Claims.FlitsAreSent : Prop :=
  ∀ (f : LinkId) (s : State) (l : Link), Live s → l = s.link f →
    (l.st = .identified ∨ l.st = .peerDressing → exec (.flitSend f) s = .next (s.setLink f l.sendIdle))
    ∧ (l.st = .active → l.replay = 0 → 64 ≤ l.unacked.length ∨ (Link.fillTx 81 l).txSlots = [] → exec (.flitSend f) s = .next (s.setLink f l.sendIdle))
    ∧ (l.st = .active → l.replay = 0 → l.unacked.length < 64 → (Link.fillTx 81 l).txSlots ≠ [] → Goes (.flitSend f) s (fun t =>
      ∃ fl : Flit, (t.link f).out = some { fl with nonce := l.nonce } ∧ (t.link f).unacked = l.unacked ++ [(l.txSeq, fl)] ∧ (t.link f).txSeq = (l.txSeq + 1) % 4096
        ∧ fl.slots = (Link.fillTx 81 l).txSlots.take 80 ∧ fType fl.header = ftDATA ∧ fSeq fl.header = l.txSeq % 4096 ∧ fAdm fl.header = true
        ∧ t = { s with links := t.links, regs := t.regs } ∧ ∀ g, g ≠ f.val → t.link g = s.link g))
    ∧ (∀ q fl, l.st = .active ∨ ((l.st = .negotiating ∨ l.st = .keying) ∧ l.holdIdle = false) → 0 < l.replay → l.unacked[l.unacked.length - l.replay]? = some (q, fl) →
      Goes (.flitSend f) s (fun t => (t.link f).replay = l.replay - 1 ∧ (t.link f).unacked = l.unacked ∧ t.rd (flRegs f + flREPLAYS) = s.rd (flRegs f + flREPLAYS) + 1
        ∧ ∃ again : Flit, (t.link f).out = some again ∧ again.slots = fl.slots ∧ again.carries = fl.carries ∧ fSeq again.header = q % 4096))
    ∧ (l.st = .negotiating ∨ l.st = .keying → l.holdIdle = false → l.replay = 0 → l.unacked.length < 64 →
      (¬ (l.st = .keying ∧ l.keyTx = 2) → Goes (.flitSend f) s (fun t => ∃ fl : Flit, (t.link f).unacked = l.unacked ++ [(l.txSeq, fl)] ∧ (t.link f).txSeq = (l.txSeq + 1) % 4096
        ∧ fType fl.header = ftCTRL ∧ fl.carries = s.nextRec f ∧ (t.link f).keyTx = l.keyTx + (if (s.nextRec f).isSome then 1 else 0) ∧ t = { s with links := t.links }))
      ∧ (l.st = .keying → l.keyTx = 2 → s.module.trngFault = false → Goes (.flitSend f) s (fun t => ∃ (fl : Flit) (sig : BitVec 768),
          (t.link f).unacked = l.unacked ++ [(l.txSeq, fl)] ∧ fl.carries = some (.kex (Config.ecPublic (t.link f).ephemeral) sig) ∧ (t.link f).keyTx = 3
          ∧ t = { s with links := t.links, freeCtr := t.freeCtr }))
      ∧ (l.st = .keying → l.keyTx = 2 → s.module.trngFault = true → Goes (.flitSend f) s (fun t => (t.link f).keyFails = l.keyFails + 1)))
    ∧ (l.st = .negotiating ∨ l.st = .keying → l.holdIdle = true → exec (.flitSend f) s = .next (s.setLink f { l with out := none }))
    ∧ (l.st = .negotiating ∨ l.st = .keying → l.holdIdle = false → l.replay = 0 → 64 ≤ l.unacked.length → exec (.flitSend f) s = .next (s.setLink f l.sendIdle))
    ∧ (l.st = .dressing → Goes (.flitSend f) s (fun t => ∃ fl : Flit, t = s.setLink f { l with out := some fl } ∧ fType fl.header = ftDRESSING ∧ fl.slots = []))
    ∧ (l.st = .down ∨ l.st = .training ∨ l.st = .retraining ∨ l.st = .fenced ∨ l.st = .disabled → exec (.flitSend f) s = .next (s.setLink f { l with out := none }))

/-- R278, R279, R288, R289, R292: receiving on a link with keys. A sound DATA flit with the expected number advances it, and its whole message enters the receive buffer; one with another number is
discarded and the first discard of a gap sets NAK; an ACK frees the flits it covers; ADM and credits are taken over; a flit that cannot be corrected, and one that breaks a rule, is counted. -/
def Sys2Proof.Claims.FlitsAreReceived : Prop :=
  ∀ (f : LinkId) (fl : Flit) (s : State) (l : Link), Live s → l = s.link f →
    (l.st = .active ∨ l.st = .identified →
      (fl.fecBad = true → Goes (.flitReceive f fl) s (fun t => t.rf (flRegs f + 0x28) 63 0 = (s.rf (flRegs f + 0x28) 63 0 + 1) % 2 ^ 64))
      ∧ (fl.fecBad = false → 3 < fType fl.header ∨ fType fl.header = ftCTRL ∨ (fType fl.header ≠ ftDRESSING ∧ (fEpoch fl.header ≠ l.epochRx % 128 ∨ fl.tagBad = true))
          ∨ (fType fl.header = ftDATA ∧ fAdm fl.header = false) →
        Goes (.flitReceive f fl) s (fun t => t.rf (flRegs f + 0x48) 31 0 = (s.rf (flRegs f + 0x48) 31 0 + 1) % 2 ^ 32))
      ∧ (fl.fecBad = false → fType fl.header = ftDRESSING → Goes (.flitReceive f fl) s (fun t => (t.link f).st = .peerDressing ∧ (t.link f).keys = false))
      ∧ (fl.fecBad = false → fl.tagBad = false → fEpoch fl.header = l.epochRx % 128 → fNak fl.header = false →
        (∀ m left, fType fl.header = ftDATA → fAdm fl.header = true → fSeq fl.header = l.rxNext →
          parseSlots (l.rxSlots.length + fl.slots.length + 1) (l.rxSlots ++ fl.slots) = ([m], left) → l.used m.vc + m.slots ≤ vcSlots m.vc →
          Goes (.flitReceive f fl) s (fun t => (t.link f).rxNext = (l.rxNext + 1) % 4096 ∧ (t.link f).lastAck = l.rxNext ∧ (t.link f).rxSlots = left
            ∧ (t.link f).inbox = l.inbox ++ [(m, l.st == .active)] ∧ t.mem = s.mem))
        ∧ (∀ left, fType fl.header = ftDATA → fAdm fl.header = true → fSeq fl.header = l.rxNext →
          parseSlots (l.rxSlots.length + fl.slots.length + 1) (l.rxSlots ++ fl.slots) = ([], left) →
          Goes (.flitReceive f fl) s (fun t => (t.link f).rxNext = (l.rxNext + 1) % 4096 ∧ (t.link f).rxSlots = left ∧ (t.link f).inbox = l.inbox ∧ t.mem = s.mem))
        ∧ (fType fl.header = ftDATA → fAdm fl.header = true → fSeq fl.header ≠ l.rxNext → Goes (.flitReceive f fl) s (fun t =>
          (t.link f).rxNext = l.rxNext ∧ (t.link f).inbox = l.inbox ∧ (t.link f).gap = true ∧ (l.gap = false → (t.link f).nakDue = true)))
        ∧ (fType fl.header = ftIDLE → Goes (.flitReceive f fl) s (fun t => (t.link f).peerAdm = fAdm fl.header ∧ (t.link f).cr0 = min 1024 (l.cr0 + fCr0 fl.header)
          ∧ (t.link f).cr2 = min 512 (l.cr2 + fCr2 fl.header)
          ∧ (∀ i, findIdx (fun u : Nat × Flit => u.1 == fAck fl.header) l.unacked = some i → (t.link f).unacked = l.unacked.drop (i + 1))
          ∧ t = { s with links := t.links, regs := t.regs }))))
    ∧ (l.st ≠ .active → l.st ≠ .identified → l.st ≠ .peerDressing → (l.st = .negotiating ∨ l.st = .keying → l.holdIdle = true) → exec (.flitReceive f fl) s = .next s)

/-- R279, R284, R289, R292: receiving on a link without keys. The next CTRL flit of a negotiation or keying advances its numbering, another sets NAK; DATA is a violation; the peer's first CTRL flit
after its dressing starts the keying; what cannot be corrected is counted. -/
def Sys2Proof.Claims.OpenFlitsAreReceived : Prop :=
  ∀ (f : LinkId) (fl : Flit) (s : State) (l : Link), Live s → l = s.link f → ((l.st = .negotiating ∨ l.st = .keying) ∧ l.holdIdle = false) ∨ l.st = .peerDressing →
    (fl.fecBad = true → Goes (.flitReceive f fl) s (fun t => t.rf (flRegs f + 0x28) 63 0 = (s.rf (flRegs f + 0x28) 63 0 + 1) % 2 ^ 64))
    ∧ (fl.fecBad = false → 3 < fType fl.header ∨ fType fl.header = ftDATA →
      Goes (.flitReceive f fl) s (fun t => t.rf (flRegs f + 0x48) 31 0 = (s.rf (flRegs f + 0x48) 31 0 + 1) % 2 ^ 32))
    ∧ (fl.fecBad = false → fType fl.header = ftCTRL → l.st ≠ .peerDressing → fNak fl.header = false → Goes (.flitReceive f fl) s (fun t =>
      (if fSeq fl.header = l.rxNext then (t.link f).rxNext = (l.rxNext + 1) % 4096 ∧ (t.link f).lastAck = l.rxNext ∧ (t.link f).gap = false
        else (t.link f).rxNext = l.rxNext ∧ (t.link f).gap = true)
      ∧ (∀ i, findIdx (fun u : Nat × Flit => u.1 == fAck fl.header) l.unacked = some i → (t.link f).unacked = l.unacked.drop (i + 1))
      ∧ t = { s with links := t.links, regs := t.regs }))
    ∧ (fl.fecBad = false → fType fl.header = ftCTRL → l.st = .peerDressing → l.resuming = false → s.module.trngFault = false → Goes (.flitReceive f fl) s (fun t =>
      (t.link f).st = .keying ∧ (t.link f).rxNext = (fSeq fl.header + 1) % 4096 ∧ (t.link f).lastAck = fSeq fl.header))
    ∧ (fl.fecBad = false → fType fl.header = ftIDLE ∨ fType fl.header = ftDRESSING → fNak fl.header = false → Goes (.flitReceive f fl) s (fun t =>
      t = { s with links := t.links, regs := t.regs } ∧ (t.link f).rxNext = l.rxNext ∧ (t.link f).st = l.st))

/-- R279, R287, R291: the link's timers and its key epoch. An open gap sets NAK again after 4 µs; unacknowledged flits held for 4 µs are replayed, and the eighth replay without progress retrains;
an epoch roll moves both ends to the next epoch and its keys. -/
def Sys2Proof.Claims.LinkTimers : Prop :=
  ∀ (f : LinkId) (s : State) (l : Link), Live s → l = s.link f →
    exec (.gapNakTimer f) s = .next (if l.gap then s.setLink f { l with nakDue := true } else s)
    ∧ (l.st = .active ∨ l.st = .negotiating ∨ l.st = .keying → l.holdIdle = false → l.unacked ≠ [] → l.replay = 0 ∨ l.replayFrom ≠ l.ackedTo →
      (l.replaysNoProgress < 7 → exec (.replayTimeout f) s = .next (s.setLink f { l with
        replay := l.unacked.length, replayFrom := l.ackedTo, replaysNoProgress := l.replaysNoProgress + 1 }))
      ∧ (7 ≤ l.replaysNoProgress → l.st = .active → Goes (.replayTimeout f) s (fun t => ((t.link f).st = .retraining ∨ (t.link f).st = .fenced)
        ∧ t.rf (flRegs f + flRETRAINS) 31 0 = (s.rf (flRegs f + flRETRAINS) 31 0 + 1) % 2 ^ 32)))
    ∧ ((l.st ≠ .active ∧ l.st ≠ .negotiating ∧ l.st ≠ .keying) ∨ l.holdIdle = true ∨ l.unacked = [] ∨ (0 < l.replay ∧ l.replayFrom = l.ackedTo) → exec (.replayTimeout f) s = .next s)
    ∧ (l.st = .identified ∨ l.st = .active → exec (.epochRoll f) s = .next (s.setLink f { l with
        epochTx := (l.epochTx + 1) % 2 ^ 32, epochRx := (l.epochRx + 1) % 2 ^ 32, txCtr := 0, rxCtr := 0, txKey := nextKey l.txKey l.epochTx, rxKey := nextKey l.rxKey l.epochRx }))
    ∧ (l.st ≠ .identified → l.st ≠ .active → exec (.epochRoll f) s = .next s)

/-- R280, R283, R285, R291, R293, R300: the states of a flume link. It trains from DOWN by command or timer when it may be trained, negotiates at lock with all lanes, falls back to DOWN when training
takes too long, keys again at lock after a retrain, at half width where that is agreed; retrains when IDENTIFIED or ACTIVE, the fourth time in 60 s being fenced; is disabled from any state;
trains again when unfenced; a command its state does not admit is rejected. A link that cannot resume leaves everything but links and registers alone. Where the rules leave a point open, the clauses follow the model's own choice or reading (log 40). -/
def Obligations.LinkStates : Prop :=
  ∀ (f : LinkId) (s : State) (l : Link), Live s → l = s.link f →
    (l.st = .down → s.trainable f = true → ∀ i ∈ [Instr.flRetrain f, .linkRetryTimer f], Goes i s (fun t => (t.link f).st = .training
      ∧ (l.resuming = false → t = { s with links := t.links, regs := t.regs })))
    ∧ (l.st ≠ .down ∨ s.trainable f = false → exec (.linkRetryTimer f) s = .next s)
    ∧ (l.st = .training → Goes (.flitLock f false) s (fun t => (t.link f).st = .negotiating ∧ (t.link f).txSeq = 0 ∧ (t.link f).rxNext = 0 ∧ (t.link f).unacked = []
      ∧ t.rf (flRegs f) 10 8 = 4 ∧ (l.resuming = false → t = { s with links := t.links, regs := t.regs })))
    ∧ (l.st = .retraining → s.module.trngFault = false → Goes (.flitLock f false) s (fun t => (t.link f).st = .keying ∧ (t.link f).resuming = l.resuming ∧ t.rf (flRegs f) 10 8 = 4))
    ∧ (l.st = .retraining → s.module.trngFault = false → Goes (.flitLock f true) s (fun t =>
      if s.rf (flRegs f) 10 8 = 4 ∧ l.has featHALF = true ∧ nbits (s.cfgB 0x016) 2 2 = 1 then t.rf (flRegs f) 10 8 = 2 ∧ linkEvent s f evLinkHalfWidth 0 0 0 ∈ t.raised else (t.link f).st = .training))
    ∧ ((l.st ≠ .training ∧ l.st ≠ .retraining → ∀ h, exec (.flitLock f h) s = .next s) ∧ (l.st = .training → exec (.flitLock f true) s = .next s))
    ∧ (l.st = .training ∨ l.st = .retraining → Goes (.trainingTimeout f) s (fun t => (t.link f).st = .down ∧ t.rf (flRegs f) 23 16 = 1
      ∧ (l.resuming = false → t = { s with links := t.links, regs := t.regs })))
    ∧ (l.st ≠ .training → l.st ≠ .retraining → exec (.trainingTimeout f) s = .next s)
    ∧ (l.st = .identified ∨ l.st = .active → ∀ i ∈ [Instr.flRetrain f, .codewordLockLoss f], Goes i s (fun t => ((t.link f).st = .retraining ∨ (3 ≤ l.retrain60s ∧ (t.link f).st = .fenced))
      ∧ t.rf (flRegs f + flRETRAINS) 31 0 = (s.rf (flRegs f + flRETRAINS) 31 0 + 1) % 2 ^ 32 ∧ linkEvent s f evFlumeRetrain 0 0 0 ∈ t.raised
      ∧ (l.st = .identified → l.resuming = false → t.cells = s.cells ∧ t.mem = s.mem)))
    ∧ (l.st ≠ .identified → l.st ≠ .active → exec (.codewordLockLoss f) s = .next s)
    ∧ (l.st ≠ .disabled → Goes (.flDisable f) s (fun t => (t.link f).st = .disabled ∧ t.rf (flRegs f) 23 16 = 6
      ∧ (t.link f).keys = (l.keys && l.st != .identified && l.st != .active) ∧ (l.st ≠ .active → l.resuming = false → t = { s with links := t.links, regs := t.regs })))
    ∧ (l.st = .disabled → exec (.flDisable f) s = .next s)
    ∧ (l.st = .fenced → Goes (.flUnfence f) s (fun t => (t.link f).st = (if s.trainable f then .training else .down) ∧ (t.link f).keyFails = 0
      ∧ (l.resuming = false → t = { s with links := t.links, regs := t.regs })))
    ∧ (l.st ≠ .fenced → GoesRegs (.flUnfence f) s [flRegs f] (fun t => t.rb (flRegs f) 11 = true))
    ∧ ((l.st = .down ∧ s.trainable f = false) ∨ (l.st ≠ .down ∧ l.st ≠ .identified ∧ l.st ≠ .active) → GoesRegs (.flRetrain f) s [flRegs f] (fun t => t.rb (flRegs f) 11 = true))

/-- R267, R284, R285: keying. A common version brings a link from NEGOTIATING to KEYING with the common features, none fences it; the records are taken in their order; a record that
fails its check, out of its order or late counts one failure and holds the link idle, the third in a row fences it; the idle's end trains it. -/
def Sys2Proof.Claims.KeyingRecordsInOrder : Prop :=
  ∀ (f : LinkId) (s : State) (l : Link), Live s → l = s.link f →
    (∀ a b c d fs v, l.st = .negotiating → (s.flumeVersions.filter (fun v => inRange v (a.toNat, b.toNat) (c.toNat, d.toNat))).getLast? = some v →
      Goes (.keyingRecord f (.advertise a b c d fs)) s (fun t => (t.link f).features = (fs.toNat &&& s.cfgN 0x0B4 4) &&& flumeFeatures v
        ∧ (s.module.trngFault = false → (t.link f).st = .keying ∧ t = { s with links := t.links, regs := t.regs, freeCtr := t.freeCtr })
        ∧ (s.module.trngFault = true → (t.link f).keyFails = l.keyFails + 1)))
    ∧ (∀ a b c d fs, l.st = .negotiating → s.flumeVersions.filter (fun v => inRange v (a.toNat, b.toNat) (c.toNat, d.toNat)) = [] →
      Goes (.keyingRecord f (.advertise a b c d fs)) s (fun t => (t.link f).st = .fenced ∧ t.rf (flRegs f) 23 16 = 2 ∧ linkEvent s f evLinkViolation f 0 0 ∈ t.raised
        ∧ linkEvent s f evFlumeFenced 0 0 0 ∈ t.raised))
    ∧ (l.st = .keying → l.holdIdle = false →
      (∀ q r, l.keyRecs = 0 → exec (.keyingRecord f (.hello q r)) s = .next (s.setLink f { l with keyRecs := 1, hello := q, peerRandom := r }))
      ∧ (l.keyRecs = 1 → exec (.keyingRecord f (.cert true)) s = .next (s.setLink f { l with keyRecs := 2 }))
      ∧ (∀ pub, l.keyRecs = 2 → exec (.keyingRecord f (.kex pub true)) s = .next (s.setLink f { l with keyRecs := 3, peerPub := pub }))
      ∧ (∀ i, i = Instr.keyingTimeout f ∨ (∃ kr, keyRecordFails l kr = true ∧ i = .keyingRecord f kr) →
        (l.keyFails < 2 → exec i s = .next (s.setLink f { l with keyFails := l.keyFails + 1, holdIdle := true, keyRecs := 0, keyTx := 0 }))
        ∧ (2 ≤ l.keyFails → Goes i s (fun t => (t.link f).st = .fenced ∧ t.rf (flRegs f) 23 16 = 3 ∧ linkEvent s f evFlumeFenced 0 0 0 ∈ t.raised
          ∧ (l.resuming = false → t = { s with links := t.links, regs := t.regs, raised := t.raised })))))
    ∧ (l.st = .keying → l.holdIdle = true → Goes (.keyingIdleEnd f) s (fun t => (t.link f).st = (if s.trainable f then .training else .down)
      ∧ (l.resuming = false → t = { s with links := t.links, regs := t.regs })))
    ∧ (l.st ≠ .keying ∨ l.holdIdle = false → exec (.keyingIdleEnd f) s = .next s)
    ∧ (l.st ≠ .keying ∨ l.holdIdle = true → exec (.keyingTimeout f) s = .next s)
    ∧ (∀ kr, (l.st = .keying ∧ l.holdIdle = true) ∨ (l.st ≠ .keying ∧ l.st ≠ .negotiating) → exec (.keyingRecord f kr) s = .next s)

/-- R282, R284, R301, R302: FINISH. On a link that is not resuming, no other link being matched and no route held, FINISH of the planned peer installs the keys at epoch 0, makes the link ACTIVE and
its outcome MATCHED, with fresh numbering and credits; a peer that shows this package's own coordinate is MISWIRED and told once as COORD_CONFLICT. A resuming link whose peer is the same and
whose replay buffer was kept is ACTIVE again with the numbering it had, and replays. -/
def Sys2Proof.Claims.KeyingFinishes : Prop :=
  ∀ (f : LinkId) (s : State) (kept : Bool), Live s → (s.link f).st = .keying → (s.link f).holdIdle = false → (s.link f).keyRecs = 3 →
    ((s.link f).resuming = false → (s.link f).hello.coord ≠ s.coordOf (s.linkPart f) → s.planOf f = some ((s.link f).hello.coord, (s.link f).hello.link) →
      (∀ g, g ≠ f.val → s.outcome g ≠ .matched) → (s.fabric (s.linkPart f)).routes = [] →
      Goes (.keyingRecord f (.finish true kept)) s (fun t => (t.link f).st = .active ∧ (t.link f).keys = true ∧ (t.link f).epochTx = 0 ∧ (t.link f).epochRx = 0
        ∧ (t.link f).peer = some (s.link f).hello ∧ (t.link f).txSeq = 0 ∧ (t.link f).rxNext = 0 ∧ (t.link f).cr0 = 1024 ∧ t.outcome f = .matched ∧ t.mem = s.mem))
    ∧ ((s.link f).resuming = false → (s.link f).hello.coord = s.coordOf (s.linkPart f) → s.outcome f ≠ .miswired → Goes (.keyingRecord f (.finish true kept)) s (fun t =>
      t.outcome f = .miswired ∧ (t.link f).st = .identified ∧ ∃ e ∈ t.raised, e.code = evCoordConflict ∧ e.kind = 6 ∧ e.index = f.val))
    ∧ (∀ old us q1 q2 q3, (s.link f).resuming = true → (s.link f).peer = some old → old.identity = (s.link f).hello.identity → old.coord = (s.link f).hello.coord →
      old.link = (s.link f).hello.link → (s.link f).saved = some (us, q1, q2, q3) → Goes (.keyingRecord f (.finish true true)) s (fun t =>
        (t.link f).st = .active ∧ (t.link f).keys = true ∧ (t.link f).epochTx = 0 ∧ (t.link f).unacked = us ∧ (t.link f).txSeq = q1 ∧ (t.link f).rxNext = q2
          ∧ (t.link f).replay = us.length ∧ (t.link f).saved = none))

/-- R301, R302: the end of the discovery window makes every planned level-1 link that waits MISSING and settles the fabric: COMPLETE when all are matched, else DEGRADED as the policy allows, else JOIN_WAIT with
its alert bit. -/
def Sys2Proof.Claims.DiscoveryEnds : Prop :=
  ∀ (p : PartId) (s : State), Live s →
    ((s.fabric p).st ≠ .discovering → exec (.discWindowExpire p) s = .next s)
    ∧ ((s.fabric p).st = .discovering → Goes (.discWindowExpire p) s (fun t => (∀ e ∈ s.planned1 p, s.outcome e.1 = .waiting → t.outcome e.1 = .missing)
      ∧ (t.fabric p).st = (if s.allMatched p then .complete else if s.policyMet p then .degraded else .joinWait)
      ∧ (s.allMatched p = false → s.policyMet p = false → bit t.board.alert 4 = true) ∧ t.mem = s.mem ∧ t.links = s.links ∧ t.regs = s.regs))

/-- R300, R310: the level-2 commit. A staging write stores its entry while no commit is busy, and is rejected else; a commit with every cell of the partition idle puts the staged plan and routes in
force and is busy until L2_COMMIT_END; where none of the level-2 links is in use or resuming and no route is known, it touches no cell and no memory; a commit while one is busy or a cell is not
idle is rejected. -/
def Sys2Proof.Claims.LevelTwoPlans : Prop :=
  ∀ (p : PartId) (s : State), Live s →
    (∀ (d : Fin 1024) (v : Word64), s.l2Busy p = false → GoesRegs (.planStageWrite p (.route d) v) s [fabBase p + 0x4000 + 8 * d] (fun t =>
      t.rd (fabBase p + 0x4000 + 8 * d) = v &&& 0xFFFF_FFFF_FE0F_FFFF))
    ∧ (∀ (f : LinkId) (v : Word64), s.linkPart f = p →
      (s.l2Busy p = false → linkLevel f = 2 → fld v 63 62 = 0 ∨ fld v 63 62 = 2 →
        GoesRegs (.planStageWrite p (.plan f) v) s [fabBase p + 0x1000 + 16 * f] (fun t => t.rd (fabBase p + 0x1000 + 16 * f) = v &&& 0xC0FF_0000_0001_FFFF))
      ∧ (s.l2Busy p = true ∨ linkLevel f ≠ 2 ∨ fld v 63 62 = 1 ∨ fld v 63 62 = 3 → GoesRegs (.planStageWrite p (.plan f) v) s [fabBase p + 0x20] (fun t => t.rb (fabBase p + 0x20) 2 = true)))
    ∧ (∀ (f : LinkId) (v : Word64), s.linkPart f ≠ p → exec (.planStageWrite p (.plan f) v) s = .next s)
    ∧ (∀ (d : Fin 1024) (v : Word64), s.l2Busy p = true → ∀ i ∈ [Instr.planStageWrite p (.route d) v, .l2Commit p], GoesRegs i s [fabBase p + 0x20] (fun t =>
      t.rb (fabBase p + 0x20) 2 = true))
    ∧ ((∃ c ∈ s.partCells p, (s.cell c).st ≠ .idle) → GoesRegs (.l2Commit p) s [fabBase p + 0x20] (fun t => t.rb (fabBase p + 0x20) 2 = true))
    ∧ (s.l2Busy p = false → (∀ c ∈ s.partCells p, (s.cell c).st = .idle) → Goes (.l2Commit p) s (fun t => t.l2Busy p = true ∧ t.rb (fabBase p + 0x20) 1 = false
      ∧ (∀ f ∈ s.links2 p, (t.fabric p).plan2.get 0 f = s.rd (fabBase p + 0x1000 + 16 * f)) ∧ (∀ d, d < 1024 → (t.fabric p).route2.get 0 d = s.rd (fabBase p + 0x4000 + 8 * d))
      ∧ ((∀ f ∈ s.links2 p, (s.link f).st ≠ .identified ∧ (s.link f).st ≠ .active ∧ (s.link f).resuming = false) → (s.fabric p).routes = [] → t.mem = s.mem ∧ t.cells = s.cells)))
    ∧ (s.l2Busy p = true → Goes (.l2CommitEnd p) s (fun t => t.l2Busy p = false ∧ t.rb (fabBase p + 0x20) 1 = true
      ∧ (∀ f ∈ s.links2 p, (s.planOf f).isSome = true → s.outcome f = .waiting → t.outcome f = .missing) ∧ t = { s with fabrics := t.fabrics, regs := t.regs }))
    ∧ (s.l2Busy p = false → exec (.l2CommitEnd p) s = .next s)

/-- R305, R306: routes. The end of the probing takes the answering relays, or makes the route UNREACHABLE with ROUTE_LOST; a RELAY or UNREACHABLE route that is probed again asks every candidate. -/
def Sys2Proof.Claims.RoutesAreProbed : Prop :=
  ∀ (p : PartId) (d : BitVec 10) (s : State) (key : Nat), Live s → key = s.destKey p d.toNat →
    (∀ rs, (s.route p key).st = .probing → rs = answeringRelays s p key → Goes (.probeWindowEnd p d) s (fun t =>
      (t.route p key).st = (if rs = [] then .unreachable else .relay) ∧ (t.route p key).relays = rs
        ∧ (if rs = [] then partEvent p evRouteLost (keyArg key) 0 0 else partEvent p evRouteDetour (detourArg key rs) 0 0) ∈ t.raised
        ∧ ((s.route p key).held = [] → t.mem = s.mem ∧ t.cells = s.cells)))
    ∧ ((s.route p key).st ≠ .probing → exec (.probeWindowEnd p d) s = .next s)
    ∧ ((s.route p key).st = .relay ∨ (s.route p key).st = .unreachable → Goes (.routeReprobeTimer p d) s (fun t =>
      (s.candidates p key ≠ [] → (t.route p key).st = .probing ∧ (t.route p key).probes = (s.candidates p key).map (fun x => (x, none)) ∧ t.mem = s.mem ∧ t.cells = s.cells)
      ∧ (s.candidates p key = [] → (t.route p key).st = .unreachable ∧ partEvent p evRouteLost (keyArg key) 0 0 ∈ t.raised)))
    ∧ ((s.route p key).st ≠ .relay → (s.route p key).st ≠ .unreachable → exec (.routeReprobeTimer p d) s = .next s)

/-- R313: the host port's link and addresses. The link's rise makes every endpoint's addresses tentative; its fall loses what waits to leave, and is counted and told once start-up is past;
detection ends with an address PREFERRED, or DUPLICATE and told. -/
def Sys2Proof.Claims.HostLink : Prop :=
  ∀ (s : State), Live s →
    (s.module.hostUp = false → s.module.starting = false → Goes .hostLinkUp s (fun t => t.module.hostUp = true ∧ t.rf 0x0700_0000 9 8 = 2
      ∧ (∀ p ∈ s.validParts, ∀ l, s.addrState p l ≠ .duplicate → t.addrState p l = .tentative) ∧ (∀ p l, s.addrState p l = .duplicate → t.addrState p l = .duplicate)
      ∧ t.mem = s.mem))
    ∧ (s.module.hostUp = true ∨ s.module.starting = true → exec .hostLinkUp s = .next s)
    ∧ (s.module.hostUp = true → Goes .hostLinkDown s (fun t => t.module.hostUp = false ∧ t.port.paused = 0 ∧ (∀ p ∈ s.validParts, (t.endpoint p).queued = [])
      ∧ (s.inStartup = false → t.rd 0x0700_0020 = s.rd 0x0700_0020 + 1 ∧ t.raised = s.raised ++ [{ code := evHostPortDown, part := 6 }])
      ∧ (s.inStartup = true → t.regs = s.regs ∧ t.raised = s.raised)))
    ∧ (s.module.hostUp = false → exec .hostLinkDown s = .next s)
    ∧ (∀ (p : PartId) (l : Bool), s.addrState p l = .tentative → s.module.hostUp = true → exec (.dadTimer p ⟨l, false⟩) s = .next (s.setAddr p l .preferred)
      ∧ Goes (.dadTimer p ⟨l, true⟩) s (fun t => t.addrState p l = .duplicate ∧ t.raised = s.raised ++ [hostEvent p evAddressDuplicate 0 0 0]))
    ∧ (∀ (p : PartId) (l c : Bool), s.addrState p l ≠ .tentative ∨ s.module.hostUp = false → exec (.dadTimer p ⟨l, c⟩) s = .next s)

/-- R311, R312, R314, R324: frames at the host port. Bad frames are discarded and counted; a neighbour solicitation and an echo are answered by an endpoint whose address answers; a Huaza message
of a type that the host may not send is judged as such; a pause is taken over; a frame that finds its partition's share full, without flow control, is dropped. -/
def Sys2Proof.Claims.HostFrames : Prop :=
  ∀ (fr : Frame) (s : State) (p : Nat), Live s → p = fr.part.val →
    (s.partValid p = false ∨ s.module.hostUp = false → exec (.ethFrameReceive fr) s = .next s)
    ∧ (s.partValid p = true → s.module.hostUp = true → s.rxShare < fr.level + fr.bytes → s.epPfc p = false →
      exec (.ethFrameReceive fr) s = .next (s.bump 0x0700_0028 63 0 fr.bytes))
    ∧ (s.partValid p = true → s.module.hostUp = true → fr.level + fr.bytes ≤ s.rxShare ∨ s.epPfc p = true →
      ([FrameKind.badFcs, .wrongAddress, .ipv4, .extensionHeader, .wrongPort, .badChecksum].contains fr.kind = true → Goes (.ethFrameReceive fr) s (fun t =>
        t.rd (epBase p + epDISCARDS) = s.rd (epBase p + epDISCARDS) + 1 ∧ (fr.kind = .badFcs → t.rd 0x0700_0018 = s.rd 0x0700_0018 + 1)
        ∧ (s.epPfc p = false → t = { s with regs := t.regs })))
      ∧ (∀ a l, fr.kind = .neighbourSolicitation a l → Goes (.ethFrameReceive fr) s (fun t => t.mem = s.mem
        ∧ (s.addrAnswers p l = true → s.epPaused p = false → (t.endpoint p).out.head? = some (.neighbour false (s.epAddr p l)))
        ∧ (s.addrAnswers p l = true → s.epPaused p = true → (t.endpoint p).queued = (s.endpoint p).queued ++ [.neighbour false (s.epAddr p l)])))
      ∧ (∀ a l, fr.kind = .echo a l → Goes (.ethFrameReceive fr) s (fun t => t.mem = s.mem
        ∧ (s.addrAnswers p l = true → s.partConfidential p = false → s.epPaused p = false → (t.endpoint p).out.head? = some (.echo (s.epAddr p l)))
        ∧ (s.epPfc p = false → s.addrAnswers p l = false ∨ s.partConfidential p = true → (t.endpoint p).out = (s.endpoint p).out)))
      ∧ (∀ src bs ok v, fr.kind = .huaza src bs ok → v = (if s.epPfc p then s.setFull p (decide (s.rxShare < fr.level + fr.bytes)) else s).bump 0x0700_0028 63 0 fr.bytes →
        Goes (.ethFrameReceive fr) s (fun t => Becomes t (if hostTypes.contains (parseHuaza src ok bs).1 then v.bump (epBase p + epRX) 63 0 fr.bytes
          else v.hzBadType p (parseHuaza src ok bs).1 (parseHuaza src ok bs).2)))
      ∧ (∀ v, fr.kind = .pfc v → Goes (.ethFrameReceive fr) s (fun t => t.port.paused = v ∧ t.mem = s.mem ∧ t.cells = s.cells)))

/-- R318, R319, R332: what stands before a session. VERSION records the chosen version and answers it, or says why not; a key exchange starts a handshake and its FINISH opens a session under a new ID
with the version chosen; a session that idles ends, with its queue pairs; the block of a source expires. -/
def Sys2Proof.Claims.SessionsOpenAndEnd : Prop :=
  ∀ (p : PartId) (h : HzHead) (s : State) (u : State), Live s → u = s.hostRecv p →
    (s.answers p = true → (s.source p h.src).blocked = false → s.epPaused p = false →
      (∀ adv v m, h.bodyLen = 8 → h.reserved = false → h.sealedMsg = false → h.session = 0 → chooseHuaza adv = some (v, m) →
        (s.partConfidential p = false ∨ m % 2 = 1 → Goes (.versionReq p h adv) s (fun t => (t.source p h.src).version = some v ∧ (t.source p h.src).features = m
          ∧ (t.endpoint p).out = .response 1 h.seq 0 hzOK (toBytes 1 (v / 256) ++ toBytes 1 v ++ toBytes 1 (v / 256) ++ toBytes 1 v ++ toBytes 4 m) v none :: (s.endpoint p).out))
        ∧ (s.partConfidential p = true → m % 2 = 0 → Goes (.versionReq p h adv) s (fun t => Becomes t (u.answerOutside p 1 h hzCONFIDENTIAL))))
      ∧ (∀ adv, h.bodyLen ≠ 8 → Goes (.versionReq p h adv) s (fun t => Becomes t (u.answerOutside p 1 h hzBADLENGTH)))
      ∧ (∀ adv, h.bodyLen = 8 → h.reserved = true ∨ h.sealedMsg = true ∨ h.session ≠ 0 → Goes (.versionReq p h adv) s (fun t => Becomes t (u.answerOutside p 1 h hzRESERVED)))
      ∧ (∀ adv, h.bodyLen = 8 → h.reserved = false → h.sealedMsg = false → h.session = 0 → chooseHuaza adv = none →
        Goes (.versionReq p h adv) s (fun t => Becomes t (u.answerOutside p 1 h hzVERSION)))
      ∧ ((s.part p).st = .dressing → ∀ msg, Goes (.spdm p h msg) s (fun t => Becomes t (u.spdmSend p h 0 (some .busy) [])))
      ∧ ((s.part p).st ≠ .dressing →
        ((s.source p h.src).version ≠ some h.version → ∀ msg, Goes (.spdm p h msg) s (fun t => Becomes t (u.answerOutside p 2 h hzVERSION)))
        ∧ ((s.source p h.src).version = some h.version → h.bodyLen ≠ 0 → h.bodyLen.toNat ≤ 4096 → h.reserved = false → h.sealedMsg = false → h.session = 0 →
          (∀ msg, Goes (.spdm p h msg) s (fun t => Becomes t (u.spdmMsg p h msg)))
          ∧ (s.sessionsHeld p < 8 → s.module.trngFault = false → Goes (.spdm p h .keyExchange) s (fun t => (t.source p h.src).handshake = true
            ∧ (t.endpoint p).out = .spdm h.seq 0 none [] h.version :: (s.endpoint p).out))
          ∧ (8 ≤ s.sessionsHeld p → Goes (.spdm p h .keyExchange) s (fun t => (t.endpoint p).out = .spdm h.seq 0 (some .busy) [] h.version :: (s.endpoint p).out
            ∧ (t.endpoint p).sources = (s.endpoint p).sources))
          ∧ (∀ slot, (s.source p h.src).handshake = true → (upTo 8).find? (fun i => (s.session p i).isNone) = some slot → Goes (.spdm p h (.finish true)) s (fun t =>
            (∃ x, t.session p slot = some x ∧ x.id = (s.endpoint p).nextSession ∧ x.src = h.src ∧ x.version = h.version ∧ x.kept = []) ∧ (t.source p h.src).handshake = false)))))
    ∧ (s.answers p = false → (∀ adv, exec (.versionReq p h adv) s = .next s) ∧ ∀ msg, exec (.spdm p h msg) s = .next s)
    ∧ (s.answers p = true → (s.source p h.src).blocked = true → (∀ adv, exec (.versionReq p h adv) s = .next (u.hostDiscard p)) ∧ ∀ msg, exec (.spdm p h msg) s = .next (u.hostDiscard p))
    ∧ (∀ (slot : Fin 8), (∀ x, s.session p slot.val = some x → Goes (.sessionIdleTimeout p slot) s (fun t => t.session p slot.val = none
        ∧ (∀ i, i ≠ slot.val → t.session p i = s.session p i) ∧ ∀ q ∈ (t.endpoint p).qps, q.2.session ≠ x.id))
      ∧ (s.session p slot.val = none → exec (.sessionIdleTimeout p slot) s = .next s))
    ∧ (∀ src, exec (.sourceBlockExpire p src) s = .next (if (s.source p src).blocked then s.setSource p { s.source p src with blocked := false } else s))

/-- R315 to R320, R324, R331, R332: what stands before the execution of a request that needs a session, of each type: an endpoint that does not answer, a blocked source, a dressing, no session,
a failed tag, a copy, a request in execution, a stale SEQ, too many, another version than the session's, a wrong length, a reserved field. -/
def Sys2Proof.Claims.SessionRequestsAreJudged : Prop :=
  ∀ (i : Instr) (p type : Nat) (h : HzHead) (len : Nat) (s u : State), Live s → sessionRow i = some (p, type, h, len) → u = (freeOf i s).hostRecv p →
    (∀ d, mustHold i s = some d → exec i s = .next (s.hold d (.cmd i)))
    ∧ (s.answers p = false → Goes i s (fun t => Becomes t (thenEvents i (freeOf i s))))
    ∧ (s.answers p = true → (s.source p h.src).blocked = true → Goes i s (fun t => Becomes t (thenEvents i (u.hostDiscard p))))
    ∧ (s.answers p = true → (s.source p h.src).blocked = false → (s.part p).st = .dressing → Goes i s (fun t => Becomes t (thenEvents i (u.answerOutside p type h hzBUSY))))
    ∧ (s.answers p = true → (s.source p h.src).blocked = false → (s.part p).st ≠ .dressing →
      (s.sessSlot p h.session.toNat = none ∨ h.sealedMsg = false → Goes i s (fun t =>
        Becomes t (thenEvents i (u.answerOutside p type h (if (s.source p h.src).version = some h.version then hzNOSESSION else hzVERSION)))))
      ∧ (∀ slot, s.sessSlot p h.session.toNat = some slot → h.sealedMsg = true →
        (h.tagOk = false → Goes i s (fun t => Becomes t (thenEvents i (u.tagFailure p slot type h.src))))
        ∧ (∀ x, h.tagOk = true → s.session p slot = some x → mustHold i s = none →
          (∀ q ty st body, x.kept.find? (fun k => k.1 == h.seq) = some (q, ty, st, body) → Goes i s (fun t => Becomes t (thenEvents i (u.hostSend p (x.reply ty q st body)))))
          ∧ (x.kept.find? (fun k => k.1 == h.seq) = none →
            (x.inExec.any (fun q => q.1 == h.seq) = true → Goes i s (fun t => Becomes t (thenEvents i
              (u.setSession p slot (some { x with inExec := x.inExec.map (fun q => if q.1 = h.seq then (q.1, q.2 + 1) else q) })))))
            ∧ (x.inExec.any (fun q => q.1 == h.seq) = false →
              ((lowestKept x.kept).any (fun n => decide (h.seq.toNat ≤ n)) = true → Goes i s (fun t => t.rf (epBase p + epSTALE) 63 0 = (s.rf (epBase p + epSTALE) 63 0 + 1) % 2 ^ 64
                ∧ t.mem = s.mem ∧ t.cells = s.cells))
              ∧ ((lowestKept x.kept).any (fun n => decide (h.seq.toNat ≤ n)) = false →
                (64 ≤ x.inExec.length → Goes i s (fun t => Becomes t (thenEvents i (u.answer p slot type h.src h.seq hzLIMIT []))))
                ∧ (x.inExec.length < 64 →
                  (h.version ≠ x.version → Goes i s (fun t => Becomes t (thenEvents i (u.answer p slot type h.src h.seq hzVERSION []))))
                  ∧ (h.version = x.version → h.bodyLen.toNat ≠ len → Goes i s (fun t => Becomes t (thenEvents i (u.answer p slot type h.src h.seq hzBADLENGTH []))))
                  ∧ (h.version = x.version → h.bodyLen.toNat = len → h.reserved = true ∨ h.seq = 0 ∨ h.seq.msb = true →
                      Goes i s (fun t => Becomes t (thenEvents i (u.answer p slot type h.src h.seq hzRESERVED [])))))))))))

/-- R316, R319, R321, R322: Huaza requests that reach their session. HEARTBEAT and CLOSE are answered, CLOSE ending the session; REG_READ answers the registers' values, MEM_READ the bytes of clean
memory; MEM_WRITE stores its bytes; INCR sends its signal and is in execution; JOURNAL_READ answers the entries it names. -/
def Sys2Proof.Claims.SessionRequests : Prop :=
  ∀ (p : PartId) (h : HzHead) (s : State) (slot : Nat) (x : Session) (u : State), Live s → InSession s p h slot x → u = s.hostRecv p →
    (h.bodyLen = 0 → Goes (.heartbeat p h) s (fun t => Answers t p slot 3 h x hzOK [] ∧ t.mem = s.mem ∧ t.cells = s.cells))
    ∧ (h.bodyLen = 0 → Goes (.closeSession p h) s (fun t => (t.endpoint p).out.head? = some (x.reply 4 h.seq hzOK []) ∧ t.session p slot = none))
    ∧ (∀ addr (n : BitVec 32), h.bodyLen = 16 → 0 < n.toNat → n.toNat ≤ 64 →
      (u.regsOk p addr n.toNat = true → (∀ i, i < n.toNat → u.regLost (fld addr 51 0 + 8 * i) = false) → (u.readRegs p (fld addr 51 0) n.toNat).2.session p slot = some x →
        (u.readRegs p (fld addr 51 0) n.toNat).2.epPaused p = false → (u.readRegs p (fld addr 51 0) n.toNat).2.module.hostUp = true →
        Goes (.regRead p h addr n) s (fun t => Answers t p slot 0x10 h x hzOK (u.readRegs p (fld addr 51 0) n.toNat).1))
      ∧ (u.regsOk p addr n.toNat = false → Goes (.regRead p h addr n) s (fun t => Answers t p slot 0x10 h x hzADDRFAULT [] ∧ t.cells = s.cells)))
    ∧ (∀ addr (n : BitVec 32) k v, h.bodyLen = 16 → mustHold (.memRead p h addr n) s = none → v = (s.unhold (.cmd (.memRead p h addr n))).hostRecv p →
      0 < n.toNat → n.toNat ≤ 4096 → fld addr 63 57 = 0 → v.locate { part := p, dump := true } false addr.toNat n.toNat = .mem k → s.lostRegions = [] → s.missedUnits k n.toNat = [] →
      (∀ i, i < n.toNat → s.poisoned (k + i) = false) → Goes (.memRead p h addr n) s (fun t => Answers t p slot 0x12 h x hzOK (s.readB k n.toNat) ∧ t.mem = s.mem))
    ∧ (∀ addr (data : List Byte) k v, h.bodyLen.toNat = 16 + data.length → mustHold (.memWrite p h addr data) s = none → v = (s.unhold (.cmd (.memWrite p h addr data))).hostRecv p →
      0 < data.length → data.length ≤ 4096 → fld addr 63 57 = 0 → v.locate { part := p } true addr.toNat data.length = .mem k →
      (v.runLost k data.length = false → Goes (.memWrite p h addr data) s (fun t => Answers t p slot 0x13 h x hzOK []
        ∧ t.mem = (v.storePB k (data.map (fun b => (b, false)))).mem ∧ t.poison = (v.storePB k (data.map (fun b => (b, false)))).poison))
      ∧ (v.runLost k data.length = true → Goes (.memWrite p h addr data) s (fun t => Answers t p slot 0x13 h x hzBUSY [] ∧ t.mem = s.mem)))
    ∧ (∀ (off : BitVec 32) (job : BitVec 16) amount, h.bodyLen = 16 →
      (off.toNat % 8 = 0 → (u.ctrKey p off.toNat).isSome = true → Goes (.incr p h off job amount) s (fun t =>
        t.signals = s.signals ++ [{ part := p, offset := off.toNat, amount := amount, job := job.toNat, src := .host h.seq x.id }]
        ∧ t.session p slot = some { x with inExec := x.inExec ++ [(h.seq, 0)] } ∧ t.counters = s.counters))
      ∧ (off.toNat % 8 ≠ 0 ∨ u.ctrKey p off.toNat = none → Goes (.incr p h off job amount) s (fun t => Answers t p slot 0x20 h x hzADDRFAULT [] ∧ t.signals = s.signals)))
    ∧ (∀ idx (n : BitVec 16), h.bodyLen = 16 → 0 < n.toNat → n.toNat ≤ 64 →
      (s.journalNext p ≤ idx.toNat + 4096 → idx.toNat + n.toNat ≤ s.journalNext p → Goes (.journalRead p h idx n) s (fun t => Answers t p slot 0x40 h x hzOK
        (((s.endpoint p).journal.filter (fun e => decide (idx.toNat ≤ e.1) && decide (e.1 < idx.toNat + n.toNat))).map (fun e => journalBytes e.1 e.2)).flatten))
      ∧ (idx.toNat + 4096 < s.journalNext p → Goes (.journalRead p h idx n) s (fun t => Answers t p slot 0x40 h x hzGONE []))
      ∧ (s.journalNext p ≤ idx.toNat + 4096 → s.journalNext p < idx.toNat + n.toNat → Goes (.journalRead p h idx n) s (fun t => Answers t p slot 0x40 h x hzRANGE [])))

/-- R321, R266: a REG_WRITE of registers that its partition reaches is their writes in ascending order, each followed by its entry in the change journal, and is answered; one that its partition does
not reach, or that is lost, writes none. -/
def Sys2Proof.Claims.HostRegisterWrites : Prop :=
  ∀ (p : PartId) (h : HzHead) (s : State) (slot : Nat) (x : Session) (addr : Word64) (vals : List Word64) (u w : State), Live s → InSession s p h slot x → u = s.hostRecv p →
    h.bodyLen.toNat = 16 + 8 * vals.length → vals ≠ [] → vals.length ≤ 64 → w = u.writeRegs p (fld addr 51 0) slot vals →
    (u.regsOk p addr vals.length = true → (∀ i, i < vals.length → u.regLost (fld addr 51 0 + 8 * i) = false) →
      Goes (.regWrite p h addr vals) s (fun t => t.cells = w.cells ∧ t.counters = w.counters ∧ t.mem = w.mem
        ∧ (w.session p slot = some x → w.module.hostUp = true → w.epPaused p = false → Answers t p slot 0x11 h x hzOK [])
        ∧ (w.session p slot = none → w.module.hostUp = true → w.epPaused p = false → (t.endpoint p).out.head? = some (x.reply 0x11 h.seq hzOK []))
        ∧ ∀ v, vals = [v] → ∃ n time, (n, { addr := 5 * 2 ^ 52 + fld addr 51 0, value := v, time := time, slot := slot, type := 0x11 }) ∈ (t.endpoint p).journal))
    ∧ (u.regsOk p addr vals.length = false → Goes (.regWrite p h addr vals) s (fun t => Answers t p slot 0x11 h x hzADDRFAULT [] ∧ t.cells = s.cells ∧ t.mem = s.mem))
    ∧ (u.regsOk p addr vals.length = true → (∃ i, i < vals.length ∧ u.regLost (fld addr 51 0 + 8 * i) = true) →
      Goes (.regWrite p h addr vals) s (fun t => Answers t p slot 0x11 h x hzBUSY [] ∧ t.cells = s.cells ∧ t.mem = s.mem))

/-- R316, R323: events at a session. SUBSCRIBE sets the levels; an acknowledged EVENT is no longer outstanding, unless the next one is; any other response is ignored; an EVENT that waits is sent
again as it was. -/
def Sys2Proof.Claims.SessionEvents : Prop :=
  ∀ (p : PartId) (h : HzHead) (s : State) (slot : Nat) (x : Session) (u : State), Live s → u = s.hostRecv p →
    (∀ (levels : BitVec 16) frm, InSession s p h slot x → h.bodyLen = 16 →
      Goes (.subscribe p h levels frm) s (fun t => ∃ y, t.session p slot = some y ∧ y.levels = levels.toNat ∧ y.id = x.id))
    ∧ (s.answers p = true → h.response = true →
      (∀ m, (s.source p h.src).blocked = false → h.tagOk = true → h.sealedMsg = true → s.sessSlot p h.session.toNat = some slot → s.session p slot = some x →
        x.outEvent = some m → m.seq = h.seq.toNat → Goes (.eventAck p h) s (fun t => t = (u.setSession p slot (some { x with outEvent := none })).sendEvents p))
      ∧ ((s.source p h.src).blocked = false → h.tagOk = true → h.sealedMsg = true → s.sessSlot p h.session.toNat = some slot → s.session p slot = some x →
        (∀ m, x.outEvent = some m → m.seq ≠ h.seq.toNat) → exec (.eventAck p h) s = .next u)
      ∧ ((s.source p h.src).blocked = false → h.tagOk = false ∨ h.sealedMsg = false → s.sessSlot p h.session.toNat = some slot →
        Goes (.eventAck p h) s (fun t => Becomes t (u.tagFailure p slot 0x31 h.src)))
      ∧ ((s.source p h.src).blocked = false → s.sessSlot p h.session.toNat = none → exec (.eventAck p h) s = .next u)
      ∧ ((s.source p h.src).blocked = true → exec (.eventAck p h) s = .next (u.hostDiscard p)))
    ∧ (s.answers p = true → h.response = false → Goes (.eventAck p h) s (fun t => Becomes t (s.hzBadType p 0x31 h)))
    ∧ (s.answers p = false → exec (.eventAck p h) s = .next s)
    ∧ (∀ (i : Fin 8), (∀ m, s.session p i.val = some x → x.outEvent = some m → Goes (.eventResend p i) s (fun t => t = s.hostSend p (x.eventOut m)
        ∧ (s.module.hostUp = true → s.epPaused p = false → (t.endpoint p).out = x.eventOut m :: (s.endpoint p).out) ∧ t.session p i.val = some x))
      ∧ ((∀ y, s.session p i.val = some y → y.outEvent = none) → exec (.eventResend p i) s = .next s))

/-- R326, R327, R329, R330: memory regions and queue pairs. MR_REG registers an aligned region of its partition at the lowest free entry under a key that names it, and is refused when the mode, the place or
the table does not allow it; MR_DEREG removes a session's own; QP_SET brings a free queue pair to RTS, or its own to RESET, and keeps the counter of the last unit accepted; QP_QUERY answers a
session's own. -/
def Sys2Proof.Claims.RegionsAndQueuePairs : Prop :=
  ∀ (p : PartId) (h : HzHead) (s : State) (slot : Nat) (x : Session) (u : State), Live s → InSession s p h slot x → u = s.hostRecv p →
    (∀ (base len : Word64) (rights sealedMr : Byte), h.bodyLen = 24 → rights.toNat ≤ 3 → sealedMr.toNat ≤ 1 →
      (∀ k i, (sealedMr == 1) = u.partConfidential p → base.toNat % 4096 = 0 → len.toNat % 4096 = 0 → fld base 63 52 = 0 ∨ fld base 63 52 = 2 →
        u.locate { part := p } true base.toNat len.toNat = .mem k →
        ((upTo 64).find? (fun i => ((s.endpoint p).mrs.get none i).isNone) = some i → s.module.trngFault = false → Goes (.mrReg p h base len rights sealedMr) s (fun t =>
          ∃ key : BitVec 32, key.toNat % 256 = i ∧ Answers t p slot 0x50 h x hzOK (toBytes 4 key.toNat ++ toBytes 4 0)
            ∧ (t.endpoint p).mrs.get none i = some { rkey := key, base := base.toNat, length := len.toNat, rights := rights.toNat, sealedMr := sealedMr == 1, session := x.id }))
        ∧ ((upTo 64).find? (fun i => ((s.endpoint p).mrs.get none i).isNone) = none ∨ s.module.trngFault = true →
          Goes (.mrReg p h base len rights sealedMr) s (fun t => Answers t p slot 0x50 h x hzLIMIT [] ∧ (t.endpoint p).mrs = (s.endpoint p).mrs)))
      ∧ ((sealedMr == 1) = u.partConfidential p → base.toNat % 4096 ≠ 0 ∨ len.toNat % 4096 ≠ 0 ∨ (fld base 63 52 ≠ 0 ∧ fld base 63 52 ≠ 2) →
        Goes (.mrReg p h base len rights sealedMr) s (fun t => Answers t p slot 0x50 h x hzADDRFAULT [] ∧ (t.endpoint p).mrs = (s.endpoint p).mrs))
      ∧ ((sealedMr == 1) ≠ u.partConfidential p → Goes (.mrReg p h base len rights sealedMr) s (fun t =>
        Answers t p slot 0x50 h x hzCONFIDENTIAL [] ∧ (t.endpoint p).mrs = (s.endpoint p).mrs)))
    ∧ (∀ rkey m, h.bodyLen = 8 → s.findMr p rkey = some m →
      (m.session = x.id → Goes (.mrDereg p h rkey) s (fun t => Answers t p slot 0x51 h x hzOK []
        ∧ (t.endpoint p).mrs.get none (rkey.toNat % 256) = none ∧ ∀ i, i ≠ rkey.toNat % 256 → (t.endpoint p).mrs.get none i = (s.endpoint p).mrs.get none i))
      ∧ (m.session ≠ x.id → Goes (.mrDereg p h rkey) s (fun t => Answers t p slot 0x51 h x hzUNKNOWNKEY [] ∧ (t.endpoint p).mrs = (s.endpoint p).mrs)))
    ∧ (∀ rkey, h.bodyLen = 8 → s.findMr p rkey = none → Goes (.mrDereg p h rkey) s (fun t => Answers t p slot 0x51 h x hzUNKNOWNKEY [] ∧ (t.endpoint p).mrs = (s.endpoint p).mrs))
    ∧ (∀ (r : QpRec) (q : Qp), h.bodyLen = 32 → 0x100 ≤ r.qpn.toNat → r.qpn.toNat ≤ 0x13F → s.qp p r.qpn.toNat = q → q.session = 0 ∨ q.session = x.id → r.dest.toNat < 2 ^ 24 →
      r.psn.toNat < 2 ^ 24 →
      (q.st = .reset → r.state = 1 → r.mtu = 3 ∨ r.mtu = 5 → 0 < r.maxRd.toNat → r.maxRd.toNat ≤ 64 → Goes (.qpSet p h r) s (fun t => Answers t p slot 0x52 h x hzOK []
        ∧ t.qp p r.qpn.toNat
          = { st := .rts, dest := r.dest.toNat, psn := r.psn.toNat, mtu := r.mtu.toNat, maxRd := r.maxRd.toNat, gid := r.gid, session := x.id, lastCtr := q.lastCtr }))
      ∧ (r.state = 0 → Goes (.qpSet p h r) s (fun t => Answers t p slot 0x52 h x hzOK [] ∧ t.qp p r.qpn.toNat = { session := q.session, lastCtr := q.lastCtr }))
      ∧ (q.st ≠ .reset → r.state = 1 → r.mtu = 3 ∨ r.mtu = 5 → 0 < r.maxRd.toNat → r.maxRd.toNat ≤ 64 → Goes (.qpSet p h r) s (fun t => Answers t p slot 0x52 h x hzLIMIT []
        ∧ t.qp p r.qpn.toNat = q)))
    ∧ (∀ qpn : BitVec 32, h.bodyLen = 8 →
      (0x100 ≤ qpn.toNat → qpn.toNat ≤ 0x13F → (s.qp p qpn.toNat).session = x.id → Goes (.qpQuery p h qpn) s (fun t =>
        Answers t p slot 0x53 h x hzOK ((s.qp p qpn.toNat).record qpn.toNat) ∧ t.qp p qpn.toNat = s.qp p qpn.toNat))
      ∧ (qpn.toNat < 0x100 ∨ 0x13F < qpn.toNat ∨ (s.qp p qpn.toNat).session ≠ x.id → Goes (.qpQuery p h qpn) s (fun t => Answers t p slot 0x53 h x hzUNKNOWNKEY [])))

/-- R325, R328, R330: RoCEv2 requests on a queue pair in RTS. A packet in order is a WRITE's next part, or a READ's request; the next WRITE Only inside a writable region that is not sealed stores its
bytes and is acknowledged; a duplicate is acknowledged and stores nothing; the next READ of clean bytes that fit one packet is answered with them; a packet that comes too early is left; one that does
not reach its queue pair is dealt with before. -/
def Sys2Proof.Claims.RdmaRequests : Prop :=
  ∀ (p : PartId) (k : RdmaPkt) (s u : State) (q : Qp), Live s →
    (∀ e, s.rdmaFront p k [opFIRST, opMIDDLE, opLAST, opONLY] = .error e → Goes (.rdmaWrite p k) s (fun t => Becomes t e))
    ∧ (∀ e, s.rdmaFront p k [opREAD] = .error e → Goes (.rdmaRead p k) s (fun t => Becomes t e))
    ∧ (AtQp s p k → u = atQp s p k → q = u.qp p k.qpn.toNat →
      ([opFIRST, opMIDDLE, opLAST, opONLY].contains k.opcode.toNat = true →
        (q.order k.psn.toNat = .next → Goes (.rdmaWrite p k) s (fun t => Becomes t (u.rdmaWriteNext p q k)))
        ∧ (q.order k.psn.toNat = .duplicate → Goes (.rdmaWrite p k) s (fun t =>
          t.mem = s.mem ∧ (t.endpoint p).out = .ack k.qpn.toNat k.psn.toNat :: (u.endpoint p).out ∧ t.qp p k.qpn.toNat = q))
        ∧ (q.order k.psn.toNat = .early → Goes (.rdmaWrite p k) s (fun t => Becomes t u))
        ∧ (∀ m key, k.opcode.toNat = opONLY → k.psn.toNat = q.psn → q.left = 0 → k.data.length = k.len.toNat → k.data.length ≤ q.mtuBytes → u.rdmaRefuse p k.rkey k.va.toNat k.len.toNat 1 = .ok m →
          m.sealedMr = false → u.locate { part := p } true k.va.toNat 0 = .mem key → u.runLost key k.data.length = false → Goes (.rdmaWrite p k) s (fun t =>
            t.mem = (u.storePB key (k.data.map (fun b => (b, false)))).mem ∧ (t.endpoint p).out = .ack k.qpn.toNat k.psn.toNat :: (u.endpoint p).out
            ∧ (t.qp p k.qpn.toNat).psn = (q.psn + 1) % 2 ^ 24)))
      ∧ (k.opcode.toNat = opREAD →
        (q.order k.psn.toNat = .next → q.left = 0 → Goes (.rdmaRead p k) s (fun t => Becomes t (u.rdmaReadRun p q k false)))
        ∧ (q.order k.psn.toNat = .next → q.left ≠ 0 → Goes (.rdmaRead p k) s (fun t => Becomes t (u.rdmaBad p k)))
        ∧ (q.order k.psn.toNat = .duplicate → Goes (.rdmaRead p k) s (fun t => Becomes t (u.rdmaReadRun p q k true)))
        ∧ (q.order k.psn.toNat = .early → Goes (.rdmaRead p k) s (fun t => Becomes t u))
        ∧ (∀ m key, k.psn.toNat = q.psn → q.left = 0 → k.len.toNat ≤ q.mtuBytes → u.rdmaRefuse p k.rkey k.va.toNat k.len.toNat 0 = .ok m → m.sealedMr = false →
          u.locate { part := p } true k.va.toNat 0 = .mem key → s.lostRegions = [] → s.missedUnits key k.len.toNat = [] → (∀ i, i < k.len.toNat → s.poisoned (key + i) = false) →
          Goes (.rdmaRead p k) s (fun t => t.mem = s.mem
            ∧ (t.endpoint p).out = .readData k.qpn.toNat k.psn.toNat (s.readB key k.len.toNat) :: (u.endpoint p).out ∧ (t.qp p k.qpn.toNat).psn = (q.psn + 1) % 2 ^ 24))))

/-- R5, R7, R31, R32, R367, R431: registers as accesses. A write of a register has the register's own behaviour, and one of a cell's registers with none stores what its access codes let it store; an offset that the partition does not reach or that is not
aligned is left; a read clears what is read-to-clear, and restarts a high-water register; the selection registers of rails, fantail entries and sensors show the selected unit; TEST.CTRL takes permitted classes of an armed partition, and rejects others. Where the rules leave a point open, the clauses follow the model's own choice or reading (log 2, 49). -/
def Obligations.RegisterAccesses : Prop :=
  ∀ (s : State), Live s →
    (∀ (p : PartId) (off : BitVec 52) (v : Word64), off.toNat % 8 = 0 → s.regReach p off.toNat = true → Goes (.registerWrite p off v) s (fun t => Becomes t (s.regWrite p off.toNat v)))
    ∧ (∀ (c : Nat) (p : PartId) (off : BitVec 52) (v : Word64) (o : Nat) (r : RegRow), off.toNat % 8 = 0 → s.regReach p off.toNat = true → regAt off.toNat = .cell c o → regRow off.toNat = some r →
      (o < 0x100 ∨ 0x200 ≤ o) → o ∉ [0x000, 0x010, 0x208, 0x210, 0x418, 0x840, 0x880, 0x888, 0xC30] → GoesRegs (.registerWrite p off v) s [regKey p off.toNat] (fun t =>
        t.rd (regKey p off.toNat) = plainWrite r (s.rd (regKey p off.toNat)) v))
    ∧ (∀ (p : PartId) (off : BitVec 52) (v : Word64), off.toNat % 8 ≠ 0 ∨ s.regReach p off.toNat = false → ∀ i ∈ [Instr.registerWrite p off v, .rcRegisterRead p off], exec i s = .next s)
    ∧ (∀ (p : PartId) (off : BitVec 52), off.toNat % 8 = 0 → s.regReach p off.toNat = true → exec (.rcRegisterRead p off) s = .next (s.regRead p off.toNat).2)
    ∧ (∀ (p : PartId) (off : BitVec 52) (r : RegRow), off.toNat % 8 = 0 → s.regReach p off.toNat = true → regRow off.toNat = some r → r.rc ≠ 0 → s.regFrozen off.toNat = false →
      (∀ c, regAt off.toNat ≠ .cell c 0x210 ∧ regAt off.toNat ≠ .cell c 0xC30) → Goes (.rcRegisterRead p off) s (fun t =>
        t.rd (regKey p off.toNat) = (match s.restartLevel off.toNat with | some n => BitVec.ofNat 64 n | none => s.rd (regKey p off.toNat) &&& ~~~ (BitVec.ofNat 64 r.rc))
        ∧ OnlyRegs { s with freeCtr := t.freeCtr } t [regKey p off.toNat]))
    ∧ (∀ (p : PartId) (off : BitVec 52), s.regFrozen off.toNat = true → (∀ c, regAt off.toNat ≠ .cell c 0x210 ∧ regAt off.toNat ≠ .cell c 0xC30) → Goes (.rcRegisterRead p off) s (fun t =>
      t = { s with freeCtr := t.freeCtr }))
    ∧ (∀ (p : PartId) (v : Word64), s.telemFrozen = false → Goes (.railSelWrite p v) s (fun t => t.rd 0x0800_0020 = BitVec.ofNat 64 (fld v 4 0)
      ∧ t.rf 0x0800_0028 63 48 = (if s.power.railFault.contains (fld v 4 0) then 3 else if s.power.railsOff.contains (fld v 4 0) then b2n s.ramping else 2)
      ∧ OnlyRegs { s with freeCtr := t.freeCtr } t [0x0800_0020, 0x0800_0028]))
    ∧ (∀ (p : PartId) (v : Word64), s.telemFrozen = true → GoesRegs (.railSelWrite p v) s [0x0800_0020] (fun t => t.rd 0x0800_0020 = BitVec.ofNat 64 (fld v 4 0)))
    ∧ (∀ (p : PartId) (v : Word64), 12 ≤ fld v 9 6 ∨ s.regionPart (fld v 9 6) ≠ p.val → GoesRegs (.fanSelWrite p v) s [fanBase p + 0x18, fanBase p + 0x20, fanBase p + 0x28] (fun t =>
      t.rd (fanBase p + 0x18) = BitVec.ofNat 64 (fld v 9 0) ∧ t.rd (fanBase p + 0x20) = 0 ∧ t.rd (fanBase p + 0x28) = 0))
    ∧ (∀ (p : PartId) (v : Word64), fld v 9 6 < 12 → s.regionPart (fld v 9 6) = p.val → GoesRegs (.fanSelWrite p v) s [fanBase p + 0x18, fanBase p + 0x20, fanBase p + 0x28] (fun t =>
      t.rd (fanBase p + 0x18) = BitVec.ofNat 64 (fld v 9 0)
      ∧ t.rb (fanBase p + 0x20) 63 = ((s.fanEntry (fld v 9 6) (fld v 5 0)).valid && (s.fanEntry (fld v 9 6) (fld v 5 0)).job == (s.region (fld v 9 6)).tagJob)
      ∧ t.rf (fanBase p + 0x20) 31 16 = (s.fanEntry (fld v 9 6) (fld v 5 0)).demand % 2 ^ 16 ∧ t.rf (fanBase p + 0x20) 15 0 = (s.fanEntry (fld v 9 6) (fld v 5 0)).power % 2 ^ 16))
    ∧ (∀ (r : RegionId) (v : Word64), Goes (.thermSelWrite r v) s (fun t => t.rd (gov r + 0x90) = BitVec.ofNat 64 (fld v 5 0)
      ∧ OnlyRegs { s with freeCtr := t.freeCtr } t [gov r + 0x90, gov r + 0x98]))
    ∧ (∀ p : PartId, Goes (.fanClear p) s (fun t => (∀ r ∈ s.partRegions p, ∀ g, g < 64 → t.fanEntry r g = {}) ∧ t = { s with fan := t.fan }))
    ∧ (∀ (p : PartId) (v : Word64), fld v 3 0 = 0 ∨ (s.partSecure p = false ∧ (s.part p).testArmed = true ∧ fld v 3 0 &&& s.testPermit p = fld v 3 0) → Goes (.testCtrlWrite p v) s (fun t =>
      t.rf (testBase p) 3 0 = fld v 3 0 ∧ (∀ c, c < 4 → bit v c = true → nbits (s.rf (testBase p) 3 0) c c = 0 → partEvent p evTestEnabled c 0 0 ∈ t.raised) ∧ t.mem = s.mem))
    ∧ (∀ (p : PartId) (v : Word64), fld v 3 0 ≠ 0 → s.partSecure p = true ∨ (s.part p).testArmed = false ∨ fld v 3 0 &&& s.testPermit p ≠ fld v 3 0 → GoesRegs (.testCtrlWrite p v) s [testBase p + 8] (fun t =>
      t.rb (testBase p + 8) 7 = true))

/-- R336 to R338, R342, R344, R348, R362, R363: power and clock sources. A sample moves the correction, has the allocations recomputed while the cap is exceeded, and tells of that at most once while it is held; a telemetry record takes the next sequence
number; the loss of the reference fails over to the oscillator, or begins the holdover whose end loses every region; an input fault, and the over-temperature comparator, take the module's power and its memory; a rail's fault is told
and has the outcome of its row; a hot stack is throttled, a cool one released. An event that cannot happen in a state leaves it. Where the rules leave a point open, the clauses follow the model's own choice or reading (log 2, 30, 44). -/
def Obligations.PowerEvents : Prop :=
  ∀ (s : State),
    (s.module.powered = true → s.power.inputOk = true → Goes .inputFault s (fun t => t.module.held = true ∧ t.power.inputOk = false ∧ bit t.board.alert 3 = true ∧ t.mem = [] ∧ t.counters = [] ∧ t.far = s.far))
    ∧ (s.module.powered = false ∨ s.power.inputOk = false → exec .inputFault s = .next s)
    ∧ (s.module.held = true → exec .overtempComparator s = .next s)
    ∧ (∀ r : Fin 32, s.module.powered = false ∨ (s.power.railsOff.contains r.val = true ∧ s.ramping = false) ∨ s.power.railFault.contains r.val = true → exec (.railFault r) s = .next s)
    ∧ (∀ r : Fin 32, s.module.powered = true → s.power.railsOff.contains r.val = false ∨ s.ramping = true → s.power.railFault.contains r.val = false →
      (r.val = 0 → Goes (.railFault r) s (fun t => t.module.held = true ∧ t.power.inputOk = false ∧ r.val ∈ t.power.railFault ∧ t.mem = []))
      ∧ (r.val = 1 → s.inStartup = true → Goes (.railFault r) s (fun t => t.module.held = true ∧ t.mem = []))
      ∧ (r.val = 1 → s.inStartup = false → Goes (.railFault r) s (fun t => ({ code := evRailFault, part := 6, kind := 11, index := r.val } : Event) ∈ t.raised
          ∧ (s.module.fatal = 0 → t.module.fatal = evRailFault)))
      ∧ (2 ≤ r.val → s.module.starting = true ∨ (∃ p ∈ s.railParts r, (s.part p).st = .starting) → Goes (.railFault r) s (fun t => r.val ∈ t.power.railFault ∧ t.lostRegions = s.lostRegions
          ∧ ∀ p ∈ s.railParts r, s.module.starting = true ∨ (s.part p).st = .starting → (t.part p).st = .failed))
      ∧ (2 ≤ r.val → s.module.starting = false → (∀ p ∈ s.railParts r, (s.part p).st ≠ .starting) → Goes (.railFault r) s (fun t => r.val ∈ t.power.railFault
          ∧ ({ code := evRailFault, part := 6, kind := 11, index := r.val } : Event) ∈ t.raised
          ∧ (r.val < 14 → (r.val - 2) ∈ t.lostRegions)
          ∧ (14 ≤ r.val → r.val < 20 → 2 * (r.val - 14) ∈ t.lostRegions ∧ 2 * (r.val - 14) + 1 ∈ t.lostRegions)
          ∧ (20 ≤ r.val → r.val < 26 → ∀ k, k < 4 → t.rf (memBase (4 * (r.val - 20) + k) + 8) 2 0 = 3)
          ∧ (26 ≤ r.val → ∀ j, j < 16 → (t.link (16 * (r.val - 26) + j)).st = .down ∨ (t.link (16 * (r.val - 26) + j)).st = .disabled ∨ (t.link (16 * (r.val - 26) + j)).st = .fenced))))
    ∧ (Live s →
      (∀ (a b : BitVec 16) np, Goes (.powerSample a ⟨b, np⟩) s (fun t =>
        t.power.corr = (if s.ceff < a.toNat then min 65535 (s.power.corr + (a.toNat - s.ceff)) else if a.toNat < s.ceff ∧ s.power.below = 99 then s.power.corr - 10 else s.power.corr)))
      ∧ (∀ (a b : BitVec 16) np, s.ceff < b.toNat → s.power.capHold = 0 → Goes (.powerSample a ⟨b, np⟩) s (fun t =>
        t.raised = s.raised ++ [{ code := evCapExceeded, part := 6, isRepeat := s.power.capKept, arg0 := b.toNat + s.ceff * 65536 }] ∧ t.power.capHold = 10000 ∧ bit t.board.alert 7 = true))
      ∧ (∀ (a b : BitVec 16) np, s.power.capHold ≠ 0 ∨ b.toNat ≤ s.ceff → Goes (.powerSample a ⟨b, np⟩) s (fun t => t.raised = s.raised))
      ∧ (∀ (a b : BitVec 16) np, a.toNat ≤ s.ceff → b.toNat ≤ s.ceff → Goes (.powerSample a ⟨b, np⟩) s (fun t => t = { s with power := t.power }))
      ∧ (∀ (a b : BitVec 16) np (p : PartId), s.ceff < a.toNat → p.val ∈ s.validParts → Goes (.powerSample a ⟨b, np⟩) s (fun t => t.rd (fanBase p + 0x30) = s.rd (fanBase p + 0x30) + 1 ∧ t.mem = s.mem))
      ∧ (∀ l, Goes (.telemetryRecord l) s (fun t => t.power.telemSeq = (s.power.telemSeq + 1) % 2 ^ 32 ∧ t = { s with power := t.power }
        ∧ (s.telemFrozen = false → t.power.telemetry.take 4 = toBytes 4 s.power.telemSeq ∧ t.power.telemetry.length = 64)
        ∧ (s.telemFrozen = true → t.power.telemetry = s.power.telemetry)))
      ∧ (s.power.source = 0 ∨ s.power.holdover = true → exec .refLoss s = .next s)
      ∧ (s.power.holdover = false → exec .holdoverExpire s = .next s)
      ∧ (s.power.source = 1 → s.power.holdover = false → s.power.oscFitted = true → Goes .refLoss s (fun t => t.power.source = 2
        ∧ t.raised = s.raised ++ [{ code := evRefLost, part := 6, arg0 := 1 }] ∧ t = { s with power := t.power, raised := t.raised, board := t.board }))
      ∧ (s.power.source ≠ 0 → s.power.holdover = false → ¬(s.power.source = 1 ∧ s.power.oscFitted = true) → Goes .refLoss s (fun t => t.power.holdover = true ∧ t.rd 0x0800_00C8 = s.rd 0x0800_00C8 + 1 ∧ t = { s with power := t.power, regs := t.regs }))
      ∧ (s.power.holdover = true → Goes .holdoverExpire s (fun t => t.power.source = 0 ∧ (∀ r, r < 12 → r ∈ t.lostRegions) ∧ ({ code := evRefLost, part := 6 } : Event) ∈ t.raised))
      ∧ (s.module.held = false → Goes .overtempComparator s (fun t => t.module.held = true ∧ t.module.lastCause = 4 ∧ t.mem = [] ∧ t.counters = []))
      ∧ (∀ (st : StackId) (c : Byte), ((s.cfgB 0x01E : Nat) : Int) ≤ sext 8 c.toNat → sext 8 c.toNat ≤ 100 → s.power.hotStacks.contains st.val = false → Goes (.stackTemperature st c) s (fun t =>
        t.power.hotStacks = st.val :: s.power.hotStacks ∧ t.raised = s.raised ++ [stackEvent s evStackThrottle st 0 0]))
      ∧ (∀ (st : StackId) (c : Byte), sext 8 c.toNat < 88 → st.val ∈ s.power.hotStacks → Goes (.stackTemperature st c) s (fun t =>
        st.val ∉ t.power.hotStacks ∧ t = { s with power := t.power }))
      ∧ (∀ (st : StackId) (c : Byte), sext 8 c.toNat ≤ 100 → 88 ≤ sext 8 c.toNat → st.val ∈ s.power.hotStacks →
        exec (.stackTemperature st c) s = .next s)
      ∧ (∀ (st : StackId) (c : Byte), sext 8 c.toNat ≤ 100 → sext 8 c.toNat < ((s.cfgB 0x01E : Nat) : Int) → st.val ∉ s.power.hotStacks →
        exec (.stackTemperature st c) s = .next s)
      ∧ (∀ (st : StackId) (c : Byte), 100 < sext 8 c.toNat → Goes (.stackTemperature st c) s (fun t => stackRegion st ∈ t.lostRegions ∨ s.rf (memBase st + 8) 2 0 = 3)))

/-- R349, R352 to R360, R432: clocks and the fantail of a region. The parts of an operating-point change follow each other and move the clock once droop is past; cells gate, sleep and wake; the governor's window sets floor and ceiling from the
activity index; the fantail shares the budget; a sample trims the ceiling; droop halts moves, is counted and ends. Where the rules leave a point open, the clauses follow the model's own choice or reading (log 2, 30, 44). -/
def Obligations.RegionClocksAndPower : Prop :=
  ∀ (r : RegionId) (s : State), Live s →
    ((s.region r).step = .lock → Goes (.opChangeStep r .locked) s (fun t => t = s.setRegion r { s.region r with step := .move false }))
    ∧ (∀ slewed locked, (s.region r).step = .slewAndLock slewed locked → Goes (.opChangeStep r .slewed) s (fun t =>
      t = s.setRegion r { s.region r with step := if locked then .move true else .slewAndLock true false }))
    ∧ (∀ slewed locked, (s.region r).step = .slewAndLock slewed locked → Goes (.opChangeStep r .locked) s (fun t =>
      t = s.setRegion r { s.region r with step := if slewed then .move true else .slewAndLock false true }))
    ∧ ((s.region r).step = .none → ∀ w, exec (.opChangeStep r w) s = .next s)
    ∧ ((s.region r).step = .lock ∨ (s.region r).step = .slewDown → exec (.opChangeStep r .moved) s = .next s)
    ∧ ((s.region r).step = .lock → exec (.opChangeStep r .slewed) s = .next s) ∧ ((s.region r).step = .slewDown → exec (.opChangeStep r .locked) s = .next s)
    ∧ (∀ rising, (s.region r).step = .move rising → ∀ w ∈ [OpDone.slewed, .locked], exec (.opChangeStep r w) s = .next s)
    ∧ (∀ a b, (s.region r).step = .slewAndLock a b → exec (.opChangeStep r .moved) s = .next s)
    ∧ (∀ rising, (s.region r).step = .move rising → (s.region r).droop = true ∨ (s.region r).recentDroop ≠ 0 → Goes (.opChangeStep r .moved) s (fun t => t.region r = s.region r
      ∧ OnlyRegs { s with freeCtr := t.freeCtr } t [gov r + 0x60]))
    ∧ ((∀ rising, (s.region r).step ≠ .move rising) → exec (.clockMoveAbandon r) s = .next s)
    ∧ ((s.region r).droop = true → exec (.droopDetect r) s = .next s)
    ∧ (∀ n, (s.region r).droop = false ∨ n < 64 → exec (.droopEnd r n) s = .next s)
    ∧ (s.rb (0x0C00_0000 + s.regionPart r * 0x1000) 2 = false ∨ s.rf (0x0C00_0000 + s.regionPart r * 0x1000 + 0x28) 59 48 ≠ r.val
      ∨ s.rf (0x0C00_0000 + s.regionPart r * 0x1000 + 0x28) 31 16 = 0 → exec (.testClockStretch r) s = .next s)
    ∧ ((∃ i, i < 48 ∧ (s.cell (48 * r + i)).sleep = .awake) → exec (.regionRest r) s = .next s)
    ∧ (∀ c : CellId, (s.cell c).sleep ≠ .awake ∨ s.cellQuiet c = false ∨ (s.region (cellRegion c)).floor ≠ 0 → exec (.cellClockGate c) s = .next s)
    ∧ (∀ c : CellId, (s.cell c).sleep ≠ .clockGated ∨ (s.cell c).noPg = true → exec (.cellPowerGate c) s = .next s)
    ∧ (∀ c : CellId, (s.cell c).sleep = .awake → exec (.cellWake c) s = .next s)
    ∧ (∀ (p : PartId) (np : BitVec 16), s.partValid p = false → exec (.fantailRecompute p np) s = .next s)
    ∧ (∀ rising, (s.region r).step = .move rising → (s.region r).droop = false → (s.region r).recentDroop = 0 → Goes (.opChangeStep r .moved) s (fun t =>
      (t.region r).op = (s.region r).toOp ∧ ((t.region r).step = if rising then .none else .slewDown)))
    ∧ ((s.region r).step = .slewDown → Goes (.opChangeStep r .slewed) s (fun t => (t.region r).step = .none ∧ t.rf (gov r + 0x20) 31 0 = (s.rf (gov r + 0x20) 31 0 + 1) % 2 ^ 32
      ∧ t = { s with regions := t.regions, regs := t.regs }))
    ∧ (∀ rising, (s.region r).step = .move rising → Goes (.clockMoveAbandon r) s (fun t => (t.region r).step = .none ∧ t.rb (gov r + 0x48) 2 = true
      ∧ t.raised = s.raised ++ [droopEvent s r (s.region r).droopSince true] ∧ (t.region r).op = (s.region r).op))
    ∧ ((s.region r).droop = false → Goes (.droopDetect r) s (fun t => (t.region r).droop = true ∧ t.rd (gov r + 0x50) = s.rd (gov r + 0x50) + 1
      ∧ t.raised = s.raised ++ (if (s.region r).droopHold = 0 then [droopEvent s r ((s.region r).droopSince + 1) false] else [])))
    ∧ (∀ n, (s.region r).droop = true → 64 ≤ n → Goes (.droopEnd r n) s (fun t => (t.region r).droop = false ∧ t.rd (gov r + 0x58) = s.rd (gov r + 0x58) + BitVec.ofNat 64 n
      ∧ t = { s with regions := t.regions, regs := t.regs }))
    ∧ (s.rb (0x0C00_0000 + s.regionPart r * 0x1000) 2 = true → s.rf (0x0C00_0000 + s.regionPart r * 0x1000 + 0x28) 59 48 = r.val →
      s.rf (0x0C00_0000 + s.regionPart r * 0x1000 + 0x28) 31 16 ≠ 0 → Goes (.testClockStretch r) s (fun t =>
        t.rd (gov r + 0x58) = s.rd (gov r + 0x58) + BitVec.ofNat 64 (s.rf (0x0C00_0000 + s.regionPart r * 0x1000 + 0x28) 15 0) ∧ (t.region r).recentDroop = 5 ∧ t.rd (gov r + 0x50) = s.rd (gov r + 0x50)))
    ∧ (∀ a, a = min 255 (255 * (s.region r).points / 230400) → Goes (.governorWindow r) s (fun t => (t.region r).prevA = a ∧ (t.region r).floor = a - s.cfgB 0x017
      ∧ (t.region r).ceiling = max (a - s.cfgB 0x017) (min (min (s.region r).m (a + s.cfgB 0x017)) 255) ∧ (t.region r).points = 0 ∧ (t.region r).withheld = false
      ∧ t = { s with regions := t.regions }))
    ∧ ((s.region r).withheld = true ∨ (s.region r).slotPoints < (s.region r).ceiling * 230400 / 2550 ∨ (s.region r).slotPoints = 0 → Goes (.governorSlot r) s (fun t => (t.region r).withheld = false ∧ (t.region r).slotPoints = 0
      ∧ (t.region r).points = (s.region r).points + ((s.region r).floor * 230400 / 2550 - (s.region r).slotPoints) ∧ t = { s with regions := t.regions, regs := t.regs }))
    ∧ ((s.region r).withheld = false → (s.region r).ceiling * 230400 / 2550 ≤ (s.region r).slotPoints → (s.region r).slotPoints ≠ 0 → Goes (.governorSlot r) s (fun t => (t.region r).withheld = true
      ∧ (t.region r).points = (s.region r).points))
    ∧ (∀ w h : BitVec 16, Goes (.trimSample r w h) s (fun t => (t.region r).m = (if (s.region r).alloc < s.inputWatts w.toNat then (s.region r).m - 16
        else if s.inputWatts w.toNat * 100 < 95 * (s.region r).alloc then min 255 ((s.region r).m + 16) else (s.region r).m)
      ∧ t = { s with regions := t.regions } ∧ ∀ q, q ≠ r.val → t.region q = s.region q))
    ∧ ((∀ i, i < 48 → (s.cell (48 * r + i)).sleep ≠ .awake) → Goes (.regionRest r) s (fun t => t = s.setRegion r { s.region r with resting := true }))
    ∧ (∀ c : CellId, (s.cell c).sleep = .awake → s.cellQuiet c = true → (s.region (cellRegion c)).floor = 0 → Goes (.cellClockGate c) s (fun t =>
      OnlyCell s t c { s.cell c with sleep := .clockGated, noPg := s.rf (gov (cellRegion c) + 0x28) 15 0 == 0 }))
    ∧ (∀ c : CellId, (s.cell c).sleep = .clockGated → (s.cell c).noPg = false → Goes (.cellPowerGate c) s (fun t => OnlyCell s t c { s.cell c with sleep := .powerGated }))
    ∧ (∀ c : CellId, (s.cell c).sleep ≠ .awake → Goes (.cellWake c) s (fun t => t.cell c = { s.cell c with sleep := .awake, noPg := false } ∧ (t.region (cellRegion c)).resting = false
      ∧ t = { s with cells := t.cells, regions := t.regions }))
    ∧ (∀ (p : PartId) (np : BitVec 16), s.partValid p = true → Goes (.fantailRecompute p np) s (fun t =>
      t.rf (fanBase p + 0x10) 15 0 = s.budget p np.toNat % 2 ^ 16 ∧ t.rd (fanBase p + 0x30) = s.rd (fanBase p + 0x30) + 1
      ∧ t = { s with regions := t.regions, regs := t.regs, freeCtr := t.freeCtr } ∧ ∀ q, q ∉ s.partRegions p → t.region q = s.region q))
    ∧ (∀ (h : BitVec 16) (i : BitVec 8), 4 * ((s.cfgB 0x01D : Nat) : Int) ≤ sext 16 h.toNat → Goes (.thermalStep r h i false) s (fun t => (t.region r).thermal = min 4 ((s.region r).thermal + 1)
      ∧ t.raised = s.raised ++ (if (s.region r).thermal = 0 then [{ code := evThermalThrottle, part := s.regionPart r, kind := 2, index := r }] else []) ∧ t.rf (gov r + 0x88) 23 8 = h.toNat))
    ∧ (∀ (h : BitVec 16) (i : BitVec 8), sext 16 h.toNat < 4 * ((s.cfgB 0x01D : Nat) : Int) → Goes (.thermalStep r h i false) s (fun t =>
      (t.region r).thermal = (if sext 16 h.toNat < 4 * ((s.cfgB 0x01D : Nat) : Int) - 20 then (s.region r).thermal - 1 else (s.region r).thermal)
      ∧ t.raised = s.raised ∧ t.rf (gov r + 0x88) 31 24 = i.toNat))
    ∧ (∀ (h : BitVec 16) (i : BitVec 8), s.inStartup = false → s.module.fatal = 0 → Goes (.thermalStep r h i true) s (fun t => t.module.fatal = evThermalTrip))
    ∧ (∀ (h : BitVec 16) (i : BitVec 8), s.inStartup = true → Goes (.thermalStep r h i true) s (fun t => t.module.held = true ∧ t.mem = []))

/-- R24, R368, R369, R371, R372, R375 to R378, R387, R388: faults. A raised event enters the log of its partition behind the last record, of which a full log loses its oldest; a lost region fails its partition; a freeze that takes too long kills; a cross-check moves on to the next pair; a dump is
written, then ended with the partition FAILED and its cells killed; kept dump keys are released; a hurst fault stops the package; the watchdog restarts the module. Where the rules leave a point open, the clauses follow the model's own choice or reading (log 2, 43). -/
def Obligations.FaultsAndRecovery : Prop :=
  ∀ (s : State), Live s →
    (∀ e rest p, s.raised = e :: rest → p ∈ s.validParts → e.part = p ∨ e.part = 6 → Goes .eventRecordWrite s (fun t => t.raised = rest
      ∧ ∃ time, t.log p = (if (s.log p).length < 4096 then s.log p else (s.log p).drop 1) ++ [{ index := s.eventNext p, time := time, ev := { e with part := p }, package := e.part == 6 }]))
    ∧ (∀ e rest p, s.raised = e :: rest → p ∉ s.validParts ∨ (e.part ≠ p ∧ e.part ≠ 6) → Goes .eventRecordWrite s (fun t => t.raised = rest ∧ t.log p = s.log p))
    ∧ (s.raised = [] → exec .eventRecordWrite s = .next s)
    ∧ (∀ (r : RegionId) (k : Fin 7), k.val = 0 ∨ r.val ∈ s.lostRegions → exec (.regionLoss r k) s = .next s)
    ∧ (∀ (r : RegionId) (k : Fin 7), k.val ≠ 0 → r.val ∉ s.lostRegions → Goes (.regionLoss r k) s (fun t => r.val ∈ t.lostRegions
      ∧ ({ code := evRegionLost, part := s.regionPart r, kind := 2, index := r, arg0 := k.val } : Event) ∈ t.raised
      ∧ ((s.part (s.regionPart r)).st = .dressing ∨ (s.part (s.regionPart r)).st = .starting → (t.part (s.regionPart r)).st = .failed)))
    ∧ (∀ p : PartId, (s.part p).st ≠ .failing → exec (.partitionFreezeTimeout p) s = .next s)
    ∧ (∀ (r : RegionId) (b : BlockId) x, s.rb (xchkBase r) 0 = false ∨ s.rf (xchkBase r) 15 8 = 0 ∨ r.val ∈ s.lostRegions ∨ (s.part (s.regionPart r)).st ≠ .ready ∨ s.module.trngFault = true
      ∨ (s.region r).withheld = true ∨ b.val ≠ 12 * r.val + (xchkPairs.getD (s.module.xchk.get (0, 0) r).1 (0, 1)).1 → exec (.crosscheck r b x) s = .next s)
    ∧ (∀ p : PartId, (s.part p).st ≠ .dumping ∨ (s.part p).dump.written = true → exec (.fatalDump p) s = .next s)
    ∧ (∀ p : PartId, (s.part p).st ≠ .dumping ∨ (s.part p).dump.written = false → exec (.dumpEnd p) s = .next s)
    ∧ (∀ (r : RegionId) (k : Fin 7), k.val ≠ 0 → r.val ∉ s.lostRegions → (s.part (s.regionPart r)).st = .ready → Goes (.regionLoss r k) s (fun t => r.val ∈ t.lostRegions
      ∧ ((t.part (s.regionPart r)).st = .failing ∨ (t.part (s.regionPart r)).st = .dumping) ∧ (t.part (s.regionPart r)).cause = evRegionLost
      ∧ ({ code := evRegionLost, part := s.regionPart r, kind := 2, index := r, arg0 := k.val } : Event) ∈ t.raised))
    ∧ (∀ p : PartId, (s.part p).st = .failing → Goes (.partitionFreezeTimeout p) s (fun t => ∀ c ∈ s.partCells p, (s.cell c).st = .freezing → (t.cell c).st = .killing))
    ∧ (∀ (r : RegionId) (b : BlockId), s.rb (xchkBase r) 0 = true → s.rf (xchkBase r) 15 8 ≠ 0 → r.val ∉ s.lostRegions → (s.part (s.regionPart r)).st = .ready → s.module.trngFault = false →
      (s.region r).withheld = false → b.val = 12 * r.val + (xchkPairs.getD (s.module.xchk.get (0, 0) r).1 (0, 1)).1 → ∀ x, Goes (.crosscheck r b x) s (fun t =>
        t.module.xchk.get (0, 0) r = xchkNext (s.module.xchk.get (0, 0) r) ∧ t.rd (xchkBase r + 0x10) = (if x = .abandoned then s.rd (xchkBase r + 0x10) else s.rd (xchkBase r + 0x10) + 1)
        ∧ t.mem = s.mem ∧ (x = .abandoned ∨ x = .agree → t.raised = s.raised)
        ∧ ∀ l k, x = .mismatch l → k ∈ suspectBlocks (xchkPairs.getD (s.module.xchk.get (0, 0) r).1 (0, 1)).1 (xchkPairs.getD (s.module.xchk.get (0, 0) r).1 (0, 1)).2 l →
          t.rb (xchkBase r + 8) k = true ∧ ∃ e ∈ t.raised, e.code = evCrosscheckFail ∧ e.index = 12 * r.val + k))
    ∧ (∀ p : PartId, (s.part p).st = .dumping → (s.part p).dump.written = false → Goes (.fatalDump p) s (fun t => (t.part p).dump.written = true ∧ (t.part p).st = .dumping
      ∧ t.rf (dumpBaseReg p + 0x10) 2 0 = (if s.dumpReduced p then 4 else 1)))
    ∧ (∀ p : PartId, (s.part p).st = .dumping → (s.part p).dump.written = true → s.module.fatal = 0 → Goes (.dumpEnd p) s (fun t => (t.part p).st = .failed
      ∧ (∀ c ∈ s.partCells p, (t.cell c).st = .killing ∨ (t.cell c).st = .killed) ∧ ∃ e ∈ t.raised, e.code = evFatalDumpDone ∧ e.part = p.val))
    ∧ (∀ p : PartId, (s.part p).st = .dumping → (s.part p).dump.written = true → Goes (.dumpEnd p) s (fun t => (t.part p).st ≠ .dumping))
    ∧ (∀ p : PartId, Goes (.dumpRelease p) s (fun t => (t.part p).dump = { (s.part p).dump with farKeys := false, k1 := 0, k2 := 0 } ∧ t = { s with parts := t.parts }))
    ∧ (∀ k : Fin 3, s.module.fatal ≠ 0 → Goes (.hurstFault k) s (fun t => Becomes t (s.raise { code := evHurstFault, part := 6, arg0 := k.val + 1 })))
    ∧ (∀ k : Fin 3, s.module.fatal = 0 → Goes (.hurstFault k) s (fun t => t.module.fatal = evHurstFault ∧ ({ code := evHurstFault, part := 6, arg0 := k.val + 1 } : Event) ∈ t.raised
      ∧ ∀ p ∈ s.validParts, (t.part p).st ≠ .ready ∧ (t.part p).st ≠ .dressing))
    ∧ Goes .millerWatchdog s (fun t => t.module.starting = true ∧ t.module.held = true ∧ t.module.step = 0 ∧ t.module.lastCause = 3 ∧ t.module.coord = none ∧ t.mem = [] ∧ t.far = s.far)

/-- R379 to R386, R389: tolls and pond copies. TOLL_START hashes under the step's tag, its end publishes the digest, the decision or the timeout ends the round, ABORT ends it at once; a start while a round runs is rejected. A copy's last data writes its header and
signals; DISARM clears the trigger; a return without its sender's place is rejected, another takes its step tag and touches no memory; ACCEPT opens and closes; ABORT fails what runs. What has nothing to act on leaves the state. Replicas that all agree give outcome 1. Where the rules leave a point open, the clauses follow the model's own choice or reading (log 27). -/
def Obligations.TollsAndPonds : Prop :=
  (∀ self r d, 0 < r → self < r → tollOutcome self r ((upTo r).map (fun m => (m, d, false))) = (1, [], []))
    ∧ ∀ (p : PartId) (s : State), Live s →
    ((s.part p).toll.st = .idle → Goes (.tollStart p) s (fun t => (t.part p).toll.st = .hashing ∧ (t.part p).toll.tag = s.rd (tollBase p + rSTEP) ∧ t.rf (tollBase p + rUSTATUS) 2 0 = 1
      ∧ t.mem = s.mem ∧ t.cells = s.cells))
    ∧ ((s.part p).toll.st ≠ .idle → GoesRegs (.tollStart p) s [tollBase p + rUSTATUS] (fun t => t.rb (tollBase p + rUSTATUS) 10 = true))
    ∧ ((s.part p).toll.st = .hashing → Goes (.tollHashEnd p) s (fun t => (t.part p).toll.st = .exchanging
      ∧ (t.part p).toll.digest = Config.sha384 (s.tollInput p (s.part p).toll.tag (s.part p).toll.ranges).1 ∧ t.rf (tollBase p + rUSTATUS) 2 0 = 2))
    ∧ ((s.part p).toll.st ≠ .hashing → exec (.tollHashEnd p) s = .next s)
    ∧ ((s.part p).toll.st ≠ .exchanging → ∀ i ∈ [Instr.tollDecide p, .tollTimeout p], exec i s = .next s)
    ∧ ((∀ k, s.ctrKey p (s.rf (tollBase p + 0x10) 21 3 * 8) = some k → 4096 ≤ k ∨ ((s.ctr k).st ≠ .owned ∧ (s.ctr k).st ≠ .frozen) ∨ (s.ctr k).value.toNat < (s.rd (tollBase p + 0x40)).toNat) →
      exec (.tollDecide p) s = .next s)
    ∧ ((s.part p).toll.st = .idle → exec (.tollAbort p) s = .next s)
    ∧ ((s.part p).pond.st ≠ .copying ∨ (s.part p).pond.headerSent = true ∨ (s.part p).pond.awaiting ≠ [] → exec (.pondCopyEnd p) s = .next s)
    ∧ ((s.part p).pond.st = .copying → (s.part p).pond.headerSent = false → (s.part p).pond.awaiting = [] →
      ((s.pondWrite p (s.rf (pondBaseReg p) 16 0) 0 none ((s.copyHeader p true).map (fun v => (v, false)))).part p).pond.st ≠ .copying →
      Goes (.pondCopyEnd p) s (fun t => (t.part p).pond.st ≠ .copying
        ∧ Becomes t (s.pondWrite p (s.rf (pondBaseReg p) 16 0) 0 none ((s.copyHeader p true).map (fun v => (v, false))))))
    ∧ ((s.part p).pond.draining = false → exec (.pondFarDrain p) s = .next s)
    ∧ ((s.part p).pond.st = .idle → exec (.pondAbort p) s = .next s)
    ∧ (∀ k, (s.part p).toll.st = .exchanging → s.ctrKey p (s.rf (tollBase p + 0x10) 21 3 * 8) = some k → k < 4096 → (s.ctr k).st = .owned ∨ (s.ctr k).st = .frozen →
      (s.rd (tollBase p + 0x40)).toNat ≤ (s.ctr k).value.toNat → Goes (.tollDecide p) s (fun t => (t.part p).toll.st = .idle ∧ t.rf (tollBase p + rUSTATUS) 2 0 = 3
        ∧ (∃ e ∈ t.raised, (e.code = evTollDone ∨ e.code = evDigestMismatch) ∧ e.part = p.val ∧ e.arg0 = t.rf (tollBase p + rUSTATUS) 6 4) ∧ t.mem = s.mem ∧ t.counters = s.counters))
    ∧ ((s.part p).toll.st = .exchanging → Goes (.tollTimeout p) s (fun t => (t.part p).toll.st = .idle ∧ t.rf (tollBase p + rUSTATUS) 2 0 = 3 ∧ t.mem = s.mem))
    ∧ ((s.part p).toll.st ≠ .idle → Goes (.tollAbort p) s (fun t => (t.part p).toll.st = .idle ∧ t.rf (tollBase p + rUSTATUS) 2 0 = 4 ∧ (∀ r ∈ t.reqs, r.src ≠ .toll p) ∧ t.mem = s.mem))
    ∧ ((s.part p).pond.st = .copying → (s.part p).pond.headerSent = false → (s.part p).pond.awaiting = [] →
      ((s.pondWrite p (s.rf (pondBaseReg p) 16 0) 0 none ((s.copyHeader p true).map (fun v => (v, false)))).part p).pond.st = .copying →
      Goes (.pondCopyEnd p) s (fun t => (t.part p).pond.headerSent = true ∧ t.rf (pondBaseReg p + rUSTATUS) 63 32 = (s.rf (pondBaseReg p + rUSTATUS) 63 32 + 1) % 2 ^ 32
        ∧ t.signals.length = s.signals.length + 1 ∧ t.mem = s.mem))
    ∧ ((s.part p).pond.draining = true → Goes (.pondFarDrain p) s (fun t => (t.part p).pond = { (s.part p).pond with draining := false } ∧ t.mem = s.mem))
    ∧ GoesRegs (.pondDisarm p) s [pondBaseReg p + rTRIG] (fun t => t.rb (pondBaseReg p + rTRIG) 63 = false)
    ∧ ((s.part p).pond.st ≠ .idle ∨ s.rb (pondBaseReg p + 0x60) 63 = false → GoesRegs (.pondReturn p) s [pondBaseReg p + rUSTATUS] (fun t => t.rb (pondBaseReg p + rUSTATUS) 25 = true))
    ∧ ((s.part p).pond.st = .idle → s.rb (pondBaseReg p + 0x60) 63 = true → Goes (.pondReturn p) s (fun t => (t.part p).pond.step = s.rd (pondBaseReg p + 0x58) ∧ t.mem = s.mem))
    ∧ Goes (.acceptOpen p) s (fun t => t = s.pondPut p { (s.part p).pond with accepting := true })
    ∧ Goes (.acceptClose p) s (fun t => t = s.pondPut p { (s.part p).pond with accepting := false })
    ∧ ((s.part p).pond.st ≠ .idle → Goes (.pondAbort p) s (fun t => (t.part p).pond.st = .idle ∧ (t.part p).pond.awaiting = []
      ∧ ∃ e ∈ t.raised, e.code = evPondFailed ∧ e.part = p.val ∧ e.arg0 % 256 = 0x0A))

/-- R296, R340, R387, R399, R405, R406, R426 to R431: the board controller's commands, which a module with power answers even while it is held. A frame with a bad CRC-8 is answered 1 and does nothing; each command answers 0 and has its effect, or 4 or 5 as its refusal. Without power none is answered. Where the rules leave a point open, the clauses follow the model's own choice or reading (log 50). -/
def Obligations.BoardCommands : Prop :=
  ∀ (s : State),
    (s.module.powered = false → ∀ (c : Bool) (a : BitVec 7) (x y z : Byte) (u : BitVec 16) (v : BitVec 32), ∀ i ∈ [Instr.entdaa a, .bcStatus c, .setCoord c x y z, .setBoardLimit c u, .bcTelemetry c,
      .bcDress c x, .readSummary c v u, .alertRead c, .raiseSvn c v, .identityRead c, .testArm c x y], exec i s = .next s)
    ∧ (s.module.powered = true →
    (∀ (x y z : Byte) (u : BitVec 16) (v : BitVec 32), ∀ i ∈ [Instr.bcStatus false, .setCoord false x y z, .setBoardLimit false u, .bcTelemetry false, .bcDress false x, .readSummary false v u,
      .alertRead false, .raiseSvn false v, .identityRead false, .testArm false x y], Goes i s (fun t => t = { s with board := { s.board with response := some (1, []) } }))
    ∧ (∀ a : BitVec 7, Goes (.entdaa a) s (fun t => t = { s with board := { s.board with dynAddr := some a } }))
    ∧ Goes (.bcStatus true) s (fun t => t = { s with board := { s.board with response := some (0, s.boardStatus) } })
    ∧ (∀ w : BitVec 16, Goes (.setBoardLimit true w) s (fun t => t.power = { s.power with boardLimit := w.toNat } ∧ t.board.response = some (0, []) ∧ t = { s with power := t.power, board := t.board }))
    ∧ Goes (.bcTelemetry true) s (fun t => t = { s with board := { s.board with response := some (0, s.telemetryFor (s.validParts.any s.partSecure)) } })
    ∧ (∀ p : Byte, s.dressable p.toNat = true → Goes (.bcDress true p) s (fun t => (t.part p.toNat).st = .dressing ∧ (t.part p.toNat).dress = 1 ∧ t.board.response = some (0, [])
      ∧ (t.endpoint p.toNat).sessions = [] ∧ ∀ f ∈ s.partLinks p.toNat, (s.link f).st ≠ .fenced → (s.link f).st ≠ .disabled → (t.link f).st = .dressing))
    ∧ (∀ p : Byte, s.partValid p.toNat = false → ∀ (a : Byte), ∀ i ∈ [Instr.bcDress true p, .testArm true p a], Goes i s (fun t => t = { s with board := { s.board with response := some (5, []) } }))
    ∧ (∀ p a : Byte, 1 < a.toNat → Goes (.testArm true p a) s (fun t => t = { s with board := { s.board with response := some (5, []) } }))
    ∧ (∀ p : Byte, s.partValid p.toNat = true → Goes (.testArm true p 0) s (fun t => t.part p.toNat = { s.part p.toNat with testArmed := false } ∧ t.board.response = some (0, [])
      ∧ (∀ k, k < 7 → t.rd (testBase p.toNat + 8 * k) = 0) ∧ t = { s with parts := t.parts, regs := t.regs, board := t.board }))
    ∧ (∀ (o : BitVec 32) (n : BitVec 16), n.toNat = 0 ∨ 256 < n.toNat ∨ 6 * 0x4000 < o.toNat + n.toNat → Goes (.readSummary true o n) s (fun t =>
      t = { s with board := { s.board with response := some (5, []) } }))
    ∧ (∀ v : BitVec 32, ¬(s.reachedReady = true ∧ s.module.fusedSvn < v.toNat ∧ v.toNat ≤ s.module.imageSvn ∧ v.toNat ≤ 63) → Goes (.raiseSvn true v) s (fun t =>
      t = { s with board := { s.board with response := some (4, []) } }))
    ∧ (∀ p : Byte, s.partValid p.toNat = true → s.dressable p.toNat = false → Goes (.bcDress true p) s (fun t => t = { s with board := { s.board with response := some (4, []) } }))
    ∧ (∀ (o : BitVec 32) (n : BitVec 16), 0 < n.toNat → n.toNat ≤ 256 → o.toNat + n.toNat ≤ 6 * 0x4000 → Goes (.readSummary true o n) s (fun t =>
      t = { s with board := { s.board with response := some (0, (upTo n.toNat).map (fun i => s.summaryByte (o.toNat + i))) } }))
    ∧ Goes (.alertRead true) s (fun t => t = { s with board := { s.board with response := some (0, toBytes 2 s.board.alert.toNat), alert := 0 } })
    ∧ (∀ v : BitVec 32, s.reachedReady = true → s.module.fusedSvn < v.toNat → v.toNat ≤ s.module.imageSvn → v.toNat ≤ 63 → Goes (.raiseSvn true v) s (fun t =>
      t = { s with module := { s.module with fusedSvn := v.toNat }, board := { s.board with response := some (0, []) } }))
    ∧ Goes (.identityRead true) s (fun t => t = { s with board := { s.board with
        response := some (0, toBytes 8 s.module.serial.toNat ++ [BitVec.ofNat 8 (b2n s.module.guestSite)] ++ toBytes 8 s.module.identity.toNat) } })
    ∧ (∀ p : Byte, s.partValid p.toNat = true → Goes (.testArm true p 1) s (fun t => t.part p.toNat = { s.part p.toNat with testArmed := true } ∧ t.board.response = some (0, [])
      ∧ t = { s with parts := t.parts, board := t.board }))
    ∧ (∀ a b c : Byte, 16 ≤ a.toNat ∨ 64 ≤ b.toNat ∨ 16 ≤ c.toNat → Goes (.setCoord true a b c) s (fun t => t = { s with board := { s.board with response := some (5, []) } }))
    ∧ (∀ a b c : Byte, a.toNat < 16 → b.toNat < 64 → c.toNat < 16 → s.coordOk a.toNat b.toNat c.toNat = false → Goes (.setCoord true a b c) s (fun t =>
      t = { s with board := { s.board with response := some (4, []) } }))
    ∧ (∀ a b c : Byte, s.coordOk a.toNat b.toNat c.toNat = true → b.toNat < 64 → Goes (.setCoord true a b c) s (fun t => t.module.coord = some (a.toNat, b.toNat, c.toNat)
      ∧ t.board.response = some (0, []))))

/-- R337, R417, R421 to R424: power and start-up. Power in range, a module reset and their like restart at step 0 with the module held and its start counted, the reset without a coordinate or board limit; power lost leaves nothing; the module's
steps follow each other, and the fourth gives the units power and starts their partitions at step 4; a partition's last step makes it READY. -/
def Sys2Proof.Claims.StartUp : Prop :=
  ∀ (s : State),
    (s.module.powered = false → Goes .powerOn s (fun t => t.module.powered = true ∧ t.module.starting = true ∧ t.module.held = true ∧ t.module.step = 0 ∧ t.power.inputOk = true
      ∧ t.rf (rBOOT + 0x10) 31 0 = (s.rf (rBOOT + 0x10) 31 0 + 1) % 2 ^ 32))
    ∧ (s.module.powered = true → Goes .modReset s (fun t => t.module.starting = true ∧ t.module.held = true ∧ t.module.step = 0 ∧ t.module.coord = none ∧ t.power.boardLimit = 0
      ∧ t.module.lastCause = 1 ∧ t.mem = [] ∧ t.counters = [] ∧ t.far = s.far ∧ t.board = s.board ∧ t.pending = s.pending))
    ∧ (s.module.powered = true → Goes .powerOff s (fun t => t.module.powered = false ∧ t.module.held = true ∧ t.module.coord = none ∧ t.board = {} ∧ t.mem = [] ∧ t.counters = []
      ∧ t.cells = [] ∧ t.module.fusedSvn = s.module.fusedSvn))
    ∧ (s.module.powered = true → exec .powerOn s = .next s) ∧ (s.module.powered = false → ∀ i ∈ [Instr.powerOff, .modReset], exec i s = .next s)
    ∧ (∀ (n : Fin 4) x, s.module.starting = false ∨ s.module.step ≠ n.val → exec (.startStepComplete (.module n) x) s = .next s)
    ∧ (∀ bad w, s.module.starting = true → s.module.step = 0 → Goes (.startStepComplete (.module 0) (.done bad w)) s (fun t => t.module.step = 1 ∧ t.module.starting = true ∧ t.mem = s.mem))
    ∧ (∀ bad w, s.module.starting = true → s.module.step = 1 → Goes (.startStepComplete (.module 1) (.done bad w)) s (fun t => t.module.step = 2 ∧ t.module.seeded = true))
    ∧ (∀ ca cb va vb feed, s.module.starting = true → s.module.step = 2 → Goes (.startStepComplete (.module 2) (.images ca cb va vb feed)) s (fun t =>
      t.module.step = 3 ∨ (t.module.held = true ∧ t.rf rBOOT 31 24 = 2)))
    ∧ (∀ (n : Fin 4) (k : Byte), s.module.starting = true → s.module.step = n.val → (n.val, k.toNat) ∈ [(1, 3), (2, 1), (3, 4)] → Goes (.startStepComplete (.module n) (.fail k)) s (fun t =>
      t.module.held = true ∧ t.module.starting = false ∧ t.rf rBOOT 31 24 = k.toNat ∧ t.mem = []))
    ∧ (∀ bad w, s.module.starting = true → s.module.step = 3 → s.power.extRef = false → s.power.oscFitted = false → Goes (.startStepComplete (.module 3) (.done bad w)) s (fun t =>
      t.module.held = true ∧ t.module.starting = false ∧ t.rf rBOOT 31 24 = 4))
    ∧ (∀ bad w, s.module.starting = true → s.module.step = 3 → s.power.extRef = true ∨ s.power.oscFitted = true → Goes (.startStepComplete (.module 3) (.done bad w)) s (fun t => t.module.starting = false
      ∧ t.module.held = false ∧ t.power.railsOff = [] ∧ t.power.source = (if s.power.extRef then 1 else 2) ∧ (∀ k, k < 24 → t.rf (memBase k + 8) 2 0 = 1)
      ∧ ∀ p ∈ s.validParts, (s.part p).st ≠ .failed → (t.part p).st = .starting ∧ (t.part p).step = 4))
    ∧ ∀ p : PartId, (∀ (n : Fin 10) x, (s.part p).st ≠ .starting ∨ (s.part p).step ≠ n.val ∨ s.module.held = true → exec (.startStepComplete (.part p n) x) s = .next s)
      ∧ ((s.part p).st = .starting → s.module.held = false →
        (∀ train, (s.part p).step = 4 → s.stacksTrained p = false → (∀ e ∈ s.stackBins p train, e.2.isSome = true) → Goes (.startStepComplete (.part p 4) (.stacks train)) s (fun t =>
          ∀ k bin x, (k, some (bin, x)) ∈ s.stackBins p train → t.rf (memBase k + 8) 2 0 = 2 ∧ t.rd (memBase k + 0x10) = trialRepair x))
        ∧ (∀ train k, (s.part p).step = 4 → s.stacksTrained p = false → (k, none) ∈ s.stackBins p train → Goes (.startStepComplete (.part p 4) (.stacks train)) s (fun t =>
          t.rf (memBase k + 8) 2 0 = 3 ∧ (t.part p).st = .failed ∧ (t.part p).cause = evStartFailed))
        ∧ (∀ bad w, (s.part p).step = 4 → s.stacksTrained p = true → (s.scanPart p 1 bad).2 = true → s.module.trngFault = false → Goes (.startStepComplete (.part p 4) (.done bad w)) s (fun t =>
          (t.part p).st = .starting ∧ (t.part p).step = 5 ∧ (t.part p).keys = true ∧ (t.part p).epoch = (s.part p).epoch + 1 ∧ t.rd (secBase p + 0x18) = w ∧ t.rd (secBase p + 0x20) = 0 ∧ t.mem = s.mem))
        ∧ (∀ bad w, (s.part p).step = 4 → s.stacksTrained p = true → (s.scanPart p 1 bad).2 = false ∨ s.module.trngFault = true → Goes (.startStepComplete (.part p 4) (.done bad w)) s (fun t =>
          (t.part p).st = .failed ∧ (t.part p).cause = evStartFailed))
        ∧ (∀ bad w, (s.part p).step = 5 → Goes (.startStepComplete (.part p 5) (.done bad w)) s (fun t => (t.part p).step = 6 ∧ (∀ k, t.memB k = if s.keyPart k = p then 0 else s.memB k)
          ∧ t.rf 0x0700_0000 9 8 = (if s.rf 0x0700_0000 9 8 = 2 then 2 else 1)))
        ∧ (∀ bad w, (s.part p).step = 6 → Goes (.startStepComplete (.part p 6) (.done bad w)) s (fun t => (t.part p).step = 7 ∧ t.rf 0x0700_0000 9 8 = 2 ∧ t.mem = s.mem))
        ∧ (∀ k : Byte, (s.part p).step = 6 → Goes (.startStepComplete (.part p 6) (.fail k)) s (fun t => t.parts = s.parts ∧ t.rf 0x0700_0000 9 8 = 3 ∧ t.mem = s.mem))
        ∧ (∀ bad w, (s.part p).step = 7 → Goes (.startStepComplete (.part p 7) (.done bad w)) s (fun t => (t.part p).step = (if s.module.coord.isSome then 8 else 7)))
        ∧ (∀ bad w, (s.part p).step = 8 → Goes (.startStepComplete (.part p 8) (.done bad w)) s (fun t =>
          (t.part p).step = (if (s.fabric p).st = .complete ∨ (s.fabric p).st = .degraded then 9 else 8) ∧ t.mem = s.mem))
        ∧ (∀ bad w, (s.part p).step = 9 → Goes (.startStepComplete (.part p 9) (.done bad w)) s (fun t => (t.part p).st = .ready ∧ (t.part p).cause = 0
          ∧ ((s.part p).dump.farKeys = false → t.mem = s.mem ∧ t.raised = s.raised))))

/-- R395, R396, R398, R406 to R411: dressing. It is accepted of a partition that may be dressed and rejected of another; from its first step its links send DRESSING flits, its sessions are ended and the guest die is held; STOPPING destroys the keys; KEYS draws new ones for a new session; ERASE clears exactly the partition's memory; the scan that
leaves its blocks goes on; RESTART makes it READY with DRESSING_DONE. A generator that fails its test refuses, and is told. -/
def Sys2Proof.Claims.Dressing : Prop :=
  ∀ (p : PartId) (s : State), Live s →
    (s.dressable p = true → Goes (.pctrlDress p) s (fun t => (t.part p).st = .dressing ∧ (t.part p).dress = 1 ∧ (t.endpoint p).sessions = [] ∧ (s.guestPart = some p.val → t.weir.held = true)
      ∧ ∀ f ∈ s.partLinks p, (s.link f).st ≠ .fenced → (s.link f).st ≠ .disabled → (t.link f).st = .dressing))
    ∧ (s.dressable p = false → GoesRegs (.pctrlDress p) s [secBase p + 8] (fun t => t.rb (secBase p + 8) 7 = true))
    ∧ ((s.part p).st ≠ .dressing → ∀ x, exec (.dressingStep p x) s = .next s)
    ∧ (∀ x, (∀ bad w, x ≠ .done bad w) → (∀ k, x ≠ .fail k) ∨ (s.part p).dress ≠ 2 → exec (.dressingStep p x) s = .next s)
    ∧ ((s.part p).st = .dressing →
      (∀ bad w, (s.part p).dress = 1 → Goes (.dressingStep p (.done bad w)) s (fun t => (t.part p).st = .dressing ∧ (t.part p).dress = 2 ∧ (t.part p).keys = false
        ∧ (t.part p).k1 = 0 ∧ (t.part p).k2 = 0 ∧ (t.part p).kt = 0 ∧ (t.part p).epoch = (s.part p).epoch + 1))
      ∧ (∀ bad w, (s.part p).dress = 2 → s.module.trngFault = false → Goes (.dressingStep p (.done bad w)) s (fun t => (t.part p).dress = 3 ∧ (t.part p).keys = true
        ∧ t.rd (secBase p + 0x18) = w ∧ t.rd (secBase p + 0x20) = s.rd (secBase p + 0x20) + 1 ∧ t = { s with parts := t.parts, regs := t.regs, freeCtr := t.freeCtr }))
      ∧ (∀ x, (s.part p).dress = 2 → (s.module.trngFault = true ∧ ∃ bad w, x = .done bad w) ∨ (∃ k, x = .fail k) → Goes (.dressingStep p x) s (fun t => (t.part p).st = .failed
        ∧ (t.part p).cause = evDressingFailed ∧ (t.part p).keys = false ∧ t.module.trngFault = true ∧ ∃ e ∈ t.raised, e.code = evDressingFailed ∧ e.part = p.val ∧ e.arg0 = 3))
      ∧ (∀ bad w, (s.part p).dress = 3 → Goes (.dressingStep p (.done bad w)) s (fun t => (t.part p).dress = 4
        ∧ (∀ k, t.memB k = if s.keyPart k = p then 0 else s.memB k) ∧ (∀ k, s.keyPart (k / 32 * 32) = p → t.poisoned k = false) ∧ t.far = s.far))
      ∧ (∀ bad w, (s.part p).dress = 4 → (s.scanPart p 2 bad).2 = true → Goes (.dressingStep p (.done bad w)) s (fun t => (t.part p).dress = 5 ∧ t.mem = s.mem))
      ∧ (∀ bad w, (s.part p).dress = 4 → (s.scanPart p 2 bad).2 = false → Goes (.dressingStep p (.done bad w)) s (fun t => (t.part p).st = .failed ∧ (t.part p).cause = evDressingFailed
        ∧ (t.part p).keys = false))
      ∧ (∀ bad w, (s.part p).dress = 5 → Goes (.dressingStep p (.done bad w)) s (fun t => (t.part p).st = .ready ∧ (t.part p).dress = 0
        ∧ ((s.part p).dump.farKeys = false → (∀ c ∈ s.partCells p, t.cell c = {}) ∧ ∃ e ∈ t.raised, e.code = evDressingDone ∧ e.part = p.val))))
    ∧ Goes .trngHealthFail s (fun t => t.module.trngFault = true ∧ t.raised = s.raised ++ [{ code := evTrngFault, part := 6 }]
      ∧ t = { s with module := t.module, raised := t.raised, board := t.board })

/-- A step takes the command at the front of the queue and is exec of it on the state with the queue's rest; on an empty queue the block idles (the idling is the model's choice, log 1). -/
def Obligations.StepRunsTheFrontCommand : Prop :=
  (∀ (c : Instr) (rest : List Instr) (s : State), step { s with pending := c :: rest } = exec c { s with pending := rest }) ∧ ∀ s : State, s.pending = [] → step s = .next s

/-- Every command answers a next state and leaves the queue as it finds it. Where the rules leave a point open, the clauses follow the model's own choice or reading (log 10). -/
def Obligations.EveryCommandAnswers : Prop :=
  ∀ (c : Instr) (s : State), Goes c s (fun t => t.pending = s.pending)

/-- R337, R421, R424: on a module that has no power or is held in its reset or input fault state, no command but those of the always-on domain changes anything. Where the rules leave a point open, the clauses follow the model's own choice or reading (log 28). -/
def Obligations.DarkModuleWaits : Prop :=
  ∀ (c : Instr) (s : State), s.module.held = true ∨ s.module.powered = false → alwaysOn c = false → exec c s = .next s

/-- An invariant that every step keeps: memory and the counter table stay in their canonical form, keys strictly rising and nothing listed that an unlisted entry reads as. Where the rules leave a point open, the clauses follow the model's own choice or reading (log 6). -/
def Obligations.CanonicalFormIsKept : Prop :=
  ∀ s t : State, MemoryOk s → CountersOk s → step s = .next t → MemoryOk t ∧ CountersOk t

/-- Memory and counters are in their canonical form at reset, where every byte reads zero and every counter is free. Where the rules leave a point open, the clauses follow the model's own choice or reading (log 6, 8). -/
def Obligations.CanonicalFormAtReset : Prop :=
  MemoryOk State.reset ∧ CountersOk State.reset ∧ (∀ k, State.reset.memB k = 0) ∧ (∀ k, State.reset.ctr k = {}) ∧ State.reset.pending = []

/-- R29: an access of a cell, or of its block's sluice on its behalf, to the addresses from 3:0x1_FF80_0000 reaches the issuing cell's own window at the same offset (a write, the bytes of the window that R28 lists); any
other requester's access there is an address fault. -/
def Obligations.SelfAlias : Prop :=
  ∀ (s : State) (rq : Rq) (a n : Nat), 0 < n → a + n ≤ 0x80_0000 →
    (∀ c : CellId, rq.cell = some c.val → s.locate rq false (3 * 2 ^ 52 + 0x1_FF80_0000 + a) n = .mem (cellKey c a))
    ∧ (∀ c : CellId, rq.cell = some c.val → listedRun (c * 0x80_0000 + a) n = true → s.locate rq true (3 * 2 ^ 52 + 0x1_FF80_0000 + a) n = .mem (cellKey c a))
    ∧ (rq.cell = none → ∀ write, s.locate rq write (3 * 2 ^ 52 + 0x1_FF80_0000 + a) n = .fault)

/-- R10: the active blocks of a region in ascending physical order, the spare skipped. Below the spare an active block has its own number, from it on the next one; so the twelve are distinct and none is the spare. -/
def Obligations.ActiveBlockIndex : Prop :=
  (∀ (s : State) (b : BlockId), s.outBlock (b / 12) ≤ 12 →
    (b.val % 12 < s.outBlock (b / 12) → s.physBlock b = b.val % 12) ∧ (s.outBlock (b / 12) ≤ b.val % 12 → s.physBlock b = b.val % 12 + 1)
    ∧ s.physBlock b ≠ s.outBlock (b / 12) ∧ s.physBlock b < 13 ∧ (∀ d : BlockId, d.val / 12 = b.val / 12 → b < d → s.physBlock b < s.physBlock d))
  ∧ (∀ s : State, s.outBlock 0 = 4 → (∀ b : BlockId, b.val < 4 → s.physBlock b = b) ∧ (∀ b : BlockId, 4 ≤ b.val → b.val < 12 → s.physBlock b = b + 1))

/-- R341: 200 W of Ceff stand reserved, and each partition gets the image's percentage of the rest, rounded down; with the reference image, whose one partition's share is 100, Cp is 5,800 W. -/
def Obligations.BudgetOfAPartition : Prop :=
  (∀ (s : State) (p : PartId), s.cp p = (s.ceff - 200) * s.cfgB (cfgPart p + 1) / 100)
    ∧ (State.reset.validParts.map (fun p => State.reset.cfgB (cfgPart p + 1))).sum = 100 ∧ State.reset.cp 0 = 5800

/-- The rules that the parts cite, together: RegisterAluResult, ImmediateAluResult. Where the rules leave a point open, the clauses follow the model's own choice or reading (log 51). -/
def Obligations.AluResults : Prop := RegisterAluResult ∧ ImmediateAluResult

/-- The rules that the parts cite, together: UnloadedHaltsPendingStalls, BadWordHaltsWithRecord, CoreRowsWait. Where the rules leave a point open, the clauses follow the model's own choice or reading (log 11). -/
def Obligations.WordsAtThePc : Prop := UnloadedHaltsPendingStalls ∧ BadWordHaltsWithRecord ∧ CoreRowsWait

/-- The rules that the parts cite, together: LoadsAndStoresAreTaken, LoadDataReturns. Where the rules leave a point open, the clauses follow the model's own choice or reading (log 17, 19). -/
def Obligations.LoadsAndStores : Prop := LoadsAndStoresAreTaken ∧ LoadDataReturns

/-- The rules that the parts cite, together: ArmAndDisarm, CellLifeCycle. Where the rules leave a point open, the clauses follow the model's own choice or reading (log 4, 35, 53). -/
def Obligations.CellLife : Prop := ArmAndDisarm ∧ CellLifeCycle

/-- The rules that the parts cite, together: RejectedControlWrites, CellDebugRegisters. -/
def Obligations.CellRegisters : Prop := RejectedControlWrites ∧ CellDebugRegisters

/-- The rules that the parts cite, together: EngineWordsAreQueued, EnginesBeginInOrder. Where the rules leave a point open, the clauses follow the model's own choice or reading (log 11, 13). -/
def Obligations.CommandQueues : Prop := EngineWordsAreQueued ∧ EnginesBeginInOrder

/-- The rules that the parts cite, together: ArrayLoadsFillsAndStarts, ArrayWorkStaysInItsBytes. Where the rules leave a point open, the clauses follow the model's own choice or reading (log 36). -/
def Obligations.ArrayCommands : Prop := ArrayLoadsFillsAndStarts ∧ ArrayWorkStaysInItsBytes

/-- The rules that the parts cite, together: MaskCommands, ElementCommands. Where the rules leave a point open, the clauses follow the model's own choice or reading (log 36). -/
def Obligations.VectorCommands : Prop := MaskCommands ∧ ElementCommands

/-- The rules that the parts cite, together: LaneGroups, VectorCompletion. -/
def Obligations.VectorGroupsAndCompletion : Prop := LaneGroups ∧ VectorCompletion

/-- The rules that the parts cite, together: DescriptorsBeginOrHaltTheirChannel, DescriptorEvents. Where the rules leave a point open, the clauses follow the model's own choice or reading (log 37, 54). -/
def Obligations.Descriptors : Prop := DescriptorsBeginOrHaltTheirChannel ∧ DescriptorEvents

/-- The rules that the parts cite, together: ChannelRegisters, HeadraceStreams. -/
def Obligations.ChannelsAndHeadrace : Prop := ChannelRegisters ∧ HeadraceStreams

/-- The rules that the parts cite, together: CounterPort, JobCommands. Where the rules leave a point open, the clauses follow the model's own choice or reading (log 38). -/
def Obligations.CountersAndJobs : Prop := CounterPort ∧ JobCommands

/-- The rules that the parts cite, together: StackReads, StackWrites, GristAdds. Where the rules leave a point open, the clauses follow the model's own choice or reading (log 48, 55). -/
def Obligations.StackAccesses : Prop := StackReads ∧ StackWrites ∧ GristAdds

/-- The rules that the parts cite, together: FarTierAccesses, FarTierPorts. Where the rules leave a point open, the clauses follow the model's own choice or reading (log 48, 55). -/
def Obligations.FarTier : Prop := FarTierAccesses ∧ FarTierPorts

/-- The rules that the parts cite, together: MessagesAreServed, UnsoundRequestsAreRefused, RequestsWithoutEffect, MessagesTravelOrWait. Where the rules leave a point open, the clauses follow the model's own choice or reading (log 39, 54). -/
def Obligations.Requests : Prop := MessagesAreServed ∧ UnsoundRequestsAreRefused ∧ RequestsWithoutEffect ∧ MessagesTravelOrWait

/-- The rules that the parts cite, together: LeatProtocol, LeatRetrains, LeatPortStates. Where the rules leave a point open, the clauses follow the model's own choice or reading (log 41, 55). -/
def Obligations.Leats : Prop := LeatProtocol ∧ LeatRetrains ∧ LeatPortStates

/-- The rules that the parts cite, together: FlitsAreSent, FlitsAreReceived, OpenFlitsAreReceived, LinkTimers. Where the rules leave a point open, the clauses follow the model's own choice or reading (log 40). -/
def Obligations.Flits : Prop := FlitsAreSent ∧ FlitsAreReceived ∧ OpenFlitsAreReceived ∧ LinkTimers

/-- The rules that the parts cite, together: KeyingRecordsInOrder, KeyingFinishes. Where the rules leave a point open, the clauses follow the model's own choice or reading (log 40, 42). -/
def Obligations.Keying : Prop := KeyingRecordsInOrder ∧ KeyingFinishes

/-- The rules that the parts cite, together: DiscoveryEnds, LevelTwoPlans, RoutesAreProbed. Where the rules leave a point open, the clauses follow the model's own choice or reading (log 42). -/
def Obligations.Fabric : Prop := DiscoveryEnds ∧ LevelTwoPlans ∧ RoutesAreProbed

/-- The rules that the parts cite, together: HostLink, HostFrames. Where the rules leave a point open, the clauses follow the model's own choice or reading (log 2). -/
def Obligations.HostPort : Prop := HostLink ∧ HostFrames

/-- The rules that the parts cite, together: SessionsOpenAndEnd, SessionEvents. Where the rules leave a point open, the clauses follow the model's own choice or reading (log 29, 32, 47). -/
def Obligations.Sessions : Prop := SessionsOpenAndEnd ∧ SessionEvents

/-- The rules that the parts cite, together: SessionRequestsAreJudged, SessionRequests, HostRegisterWrites. Where the rules leave a point open, the clauses follow the model's own choice or reading (log 29, 32). -/
def Obligations.HostRequests : Prop := SessionRequestsAreJudged ∧ SessionRequests ∧ HostRegisterWrites

/-- The rules that the parts cite, together: RegionsAndQueuePairs, RdmaRequests. Where the rules leave a point open, the clauses follow the model's own choice or reading (log 33, 47). -/
def Obligations.Rdma : Prop := RegionsAndQueuePairs ∧ RdmaRequests

/-- The rules that the parts cite, together: StartUp, Dressing. Where the rules leave a point open, the clauses follow the model's own choice or reading (log 45, 46). -/
def Obligations.StartUpAndDressing : Prop := StartUp ∧ Dressing
end

