-- ==== Sys2Proof/Laws/Bits.lean ====
section
/-! SUPPORT. Laws of bit fields: what a written field and a written bit read as, and that they leave the other bits alone. -/

namespace Sys2Proof.Machine

/-- A bit of a field. -/
theorem testBit_nbits (n hi lo i : Nat) : (nbits n hi lo).testBit i = (decide (i < hi + 1 - lo) && n.testBit (lo + i)) := by
  simp [nbits, Nat.testBit_mod_two_pow, Nat.testBit_shiftRight]

theorem testBit_fld {w : Nat} (v : BitVec w) (hi lo i : Nat) : (fld v hi lo).testBit i = (decide (i < hi + 1 - lo) && v.getLsbD (lo + i)) :=
  testBit_nbits _ _ _ _

/-- A bit of a register after a field is written. -/
theorem getLsbD_setFld {w : Nat} (v : BitVec w) (hi lo x i : Nat) :
    (setFld v hi lo x).getLsbD i = (if i < w ∧ lo ≤ i ∧ i < hi + 1 then x.testBit (i - lo) else v.getLsbD i) := by
  simp only [setFld, BitVec.getLsbD_or, BitVec.getLsbD_and, BitVec.getLsbD_not, BitVec.getLsbD_ofNat, Nat.testBit_shiftLeft, Nat.testBit_two_pow_sub_one,
    Nat.testBit_mod_two_pow]
  by_cases hw : i < w
  · by_cases hl : lo ≤ i
    · have : (i - lo < hi + 1 - lo) ↔ i < hi + 1 := by omega
      by_cases hh : i < hi + 1 <;> simp [hw, hl, this, hh]
    · simp [hw, hl]
  · simp [hw, BitVec.getLsbD_of_ge v i (by omega)]

/-- A field reads as what was written to it, cut to its width. -/
theorem fld_setFld {w : Nat} (v : BitVec w) (hi lo x : Nat) (h : hi < w) (hl : lo ≤ hi) : fld (setFld v hi lo x) hi lo = x % 2 ^ (hi + 1 - lo) := by
  apply Nat.eq_of_testBit_eq
  intro i
  rw [testBit_fld, getLsbD_setFld, Nat.testBit_mod_two_pow]
  by_cases hi' : i < hi + 1 - lo
  · have h1 : lo + i < w ∧ lo ≤ lo + i ∧ lo + i < hi + 1 := ⟨by omega, by omega, by omega⟩
    simp [hi', h1]
  · simp [hi']

/-- A field that shares no bit with the written one keeps its value. -/
theorem fld_setFld_ne {w : Nat} (v : BitVec w) (hi lo x hi' lo' : Nat) (h : hi < lo' ∨ hi' < lo) : fld (setFld v hi lo x) hi' lo' = fld v hi' lo' := by
  apply Nat.eq_of_testBit_eq
  intro i
  rw [testBit_fld, testBit_fld, getLsbD_setFld]
  by_cases hh : i < hi' + 1 - lo'
  · have : ¬ (lo' + i < w ∧ lo ≤ lo' + i ∧ lo' + i < hi + 1) := by omega
    rw [if_neg this]
  · simp [hh]

/-- A bit of a register after a bit is written. -/
theorem bit_setBit {w : Nat} (v : BitVec w) (i : Nat) (b : Bool) (j : Nat) (h : i < w) : bit (setBit v i b) j = if j = i then b else bit v j := by
  have hs : (BitVec.ofNat w (1 <<< i)).getLsbD j = (decide (j < w) && decide (j = i)) := by
    rw [BitVec.getLsbD_ofNat, Nat.shiftLeft_eq, Nat.one_mul, Nat.testBit_two_pow]
    congr 1
    exact decide_eq_decide.mpr eq_comm
  unfold bit setBit
  by_cases hji : j = i
  · subst hji
    cases b <;> simp only [if_true, if_false, Bool.false_eq_true, BitVec.getLsbD_or, BitVec.getLsbD_and, BitVec.getLsbD_not, hs, h, decide_true,
      Bool.and_true, Bool.not_true, Bool.and_false, Bool.or_true]
  · cases b <;> simp only [if_true, if_false, Bool.false_eq_true, BitVec.getLsbD_or, BitVec.getLsbD_and, BitVec.getLsbD_not, hs, hji, decide_false,
      Bool.and_false, Bool.not_false, Bool.and_true, Bool.or_false]
    by_cases hj : j < w
    · simp [hj]
    · simp [hj, BitVec.getLsbD_of_ge v j (by omega)]

@[simp] theorem bit_setBit_same {w : Nat} (v : BitVec w) (i : Nat) (b : Bool) (h : i < w) : bit (setBit v i b) i = b := by
  rw [bit_setBit v i b i h]; simp

end Sys2Proof.Machine
end

