-- ==== Sys2Proof/Laws/Table.lean ====
section
/-! SUPPORT. Laws of the sparse table: a read after a write, and that writing and filtering keep the canonical form. -/

namespace Sys2Proof

variable {α : Type} [DecidableEq α]

omit [DecidableEq α] in
theorem Table.get_filter_same (t : Table α) (d : α) (k : Nat) : Table.get (t.filter (fun e => e.1 != k)) d k = d := by
  induction t with
  | nil => rfl
  | cons e rest ih => by_cases h : e.1 = k <;> simp [h, Table.get, ih]

omit [DecidableEq α] in
theorem Table.get_filter_ne (t : Table α) (d : α) (k j : Nat) (hj : j ≠ k) : Table.get (t.filter (fun e => e.1 != k)) d j = t.get d j := by
  induction t with
  | nil => rfl
  | cons e rest ih =>
    by_cases h : e.1 = k
    · have : e.1 ≠ j := fun hh => hj (hh ▸ h)
      simp [h, Table.get, ih, hj.symm]
    · by_cases hk : e.1 = j <;> simp [h, hk, Table.get, ih, hj]

omit [DecidableEq α] in
theorem Table.get_insert_ne (t : Table α) (d : α) (k j : Nat) (v : α) (hj : j ≠ k) : (Table.insert t k v).get d j = t.get d j := by
  induction t with
  | nil => simp [Table.insert, Table.get, hj.symm]
  | cons e rest ih =>
    simp only [Table.insert]
    split
    · simp [Table.get, hj.symm]
    · simp [Table.get, ih]

omit [DecidableEq α] in
theorem Table.get_insert_filter (t : Table α) (d : α) (k : Nat) (v : α) : (Table.insert (t.filter (fun e => e.1 != k)) k v).get d k = v := by
  induction t with
  | nil => simp [Table.insert, Table.get]
  | cons e rest ih =>
    by_cases h : e.1 = k
    · simpa [h] using ih
    · simp only [List.filter_cons, bne_iff_ne, ne_eq, h, not_false_eq_true, if_true, Table.insert]
      split
      · simp [Table.get]
      · simp [Table.get, h, ih]

/-- A read after a write to the same key. -/
@[simp] theorem Table.get_put_same (t : Table α) (d : α) (k : Nat) (v : α) : (t.put d k v).get d k = v := by
  simp only [Table.put]
  split
  · rename_i h; rw [Table.get_filter_same, h]
  · exact Table.get_insert_filter t d k v

/-- A write leaves every other key alone. -/
theorem Table.get_put_ne (t : Table α) (d d' : α) (k j : Nat) (v : α) (hj : j ≠ k) : (t.put d k v).get d' j = t.get d' j := by
  simp only [Table.put]
  split
  · exact Table.get_filter_ne t d' k j hj
  · rw [Table.get_insert_ne _ _ _ _ _ hj, Table.get_filter_ne t d' k j hj]

/-- A read after a write: the written value at the written key, what it was elsewhere. -/
theorem Table.get_put (t : Table α) (d : α) (k j : Nat) (v : α) : (t.put d k v).get d j = if j = k then v else t.get d j := by
  split
  · rename_i h; subst h; exact Table.get_put_same t d j v
  · rename_i h; exact Table.get_put_ne t d d k j v h

/-! ### The canonical form -/

/-- A canonical table's first entry: above the bound, not the default, and the rest above it. -/
theorem Table.wfFrom_cons (d : Nat → α) (lo : Option Nat) (k : Nat) (v : α) (rest : Table α) :
    Table.wfFrom d lo ((k, v) :: rest) = true ↔ (∀ a, lo = some a → a < k) ∧ v ≠ d k ∧ Table.wfFrom d (some k) rest = true := by
  cases lo <;> simp [Table.wfFrom, and_assoc]

/-- A canonical table stays one when the bound below its keys is lowered or dropped. -/
theorem Table.wfFrom_mono (t : Table α) (d : Nat → α) (lo lo' : Option Nat) (hlo : ∀ a, lo' = some a → ∃ b, lo = some b ∧ a ≤ b)
    (h : Table.wfFrom d lo t = true) : Table.wfFrom d lo' t = true := by
  cases t with
  | nil => rfl
  | cons e rest =>
    obtain ⟨k, v⟩ := e
    rw [Table.wfFrom_cons] at h ⊢
    refine ⟨fun a ha => ?_, h.2⟩
    obtain ⟨b, hb, hab⟩ := hlo a ha
    have := h.1 b hb
    omega

/-- Dropping entries keeps the canonical form. -/
theorem Table.wfFrom_filter (t : Table α) (d : Nat → α) (lo : Option Nat) (p : Nat × α → Bool) (h : Table.wfFrom d lo t = true) :
    Table.wfFrom d lo (t.filter p) = true := by
  induction t generalizing lo with
  | nil => rfl
  | cons e rest ih =>
    obtain ⟨k, v⟩ := e
    rw [Table.wfFrom_cons] at h
    by_cases hp : p (k, v) = true
    · simp only [List.filter_cons, hp, if_true]
      rw [Table.wfFrom_cons]
      exact ⟨h.1, h.2.1, ih _ h.2.2⟩
    · simp only [List.filter_cons, hp]
      exact ih lo (Table.wfFrom_mono rest d (some k) lo (fun a ha => ⟨k, rfl, Nat.le_of_lt (h.1 a ha)⟩) h.2.2)

/-- Putting an entry of a key that is not listed keeps the canonical form. -/
theorem Table.wfFrom_insert (t : Table α) (d : Nat → α) (lo : Option Nat) (k : Nat) (v : α) (hv : v ≠ d k) (hlo : ∀ a, lo = some a → a < k)
    (hk : ∀ e ∈ t, e.1 ≠ k) (h : Table.wfFrom d lo t = true) : Table.wfFrom d lo (Table.insert t k v) = true := by
  induction t generalizing lo with
  | nil => simp only [Table.insert]; rw [Table.wfFrom_cons]; exact ⟨hlo, hv, rfl⟩
  | cons e rest ih =>
    obtain ⟨k', v'⟩ := e
    rw [Table.wfFrom_cons] at h
    have hne : k' ≠ k := hk (k', v') (by simp)
    simp only [Table.insert]
    split
    · rename_i hlt
      rw [Table.wfFrom_cons, Table.wfFrom_cons]
      exact ⟨hlo, hv, fun a ha => by cases ha; exact hlt, h.2⟩
    · rename_i hge
      rw [Table.wfFrom_cons]
      exact ⟨h.1, h.2.1, ih (some k') (fun a ha => by cases ha; omega) (fun e he => hk e (by simp [he])) h.2.2⟩

/-- Writing keeps the canonical form. -/
theorem Table.wf_put (t : Table α) (d : Nat → α) (k : Nat) (v : α) (h : t.wf d = true) : (t.put (d k) k v).wf d = true := by
  have hf : Table.wfFrom d none (t.filter (fun e => e.1 != k)) = true := Table.wfFrom_filter t d none _ h
  simp only [Table.put, Table.wf]
  split
  · exact hf
  · rename_i hv
    exact Table.wfFrom_insert _ d none k v hv (by simp) (by simp) hf

/-- Dropping entries keeps the canonical form. -/
theorem Table.wf_filter (t : Table α) (d : Nat → α) (p : Nat × α → Bool) (h : t.wf d = true) : Table.wf (t.filter p) d = true :=
  Table.wfFrom_filter t d none p h

end Sys2Proof
end

