-- ==== Sys2Proof/Laws/State.lean ====
section
/-! SUPPORT. What each named update of State leaves of every field and of what its accessors read, each true by unfolding (those of a register proved by cases, so that no proof compares register files), and the read after a write of every table. -/

namespace Sys2Proof.Machine

/-! ### setCell -/

@[simp] theorem State.setCell_pending (s : State) (c : Nat) (x : Cell) : (s.setCell c x).pending = s.pending := rfl
@[simp] theorem State.setCell_regs (s : State) (c : Nat) (x : Cell) : (s.setCell c x).regs = s.regs := rfl
@[simp] theorem State.setCell_counters (s : State) (c : Nat) (x : Cell) : (s.setCell c x).counters = s.counters := rfl
@[simp] theorem State.setCell_lines (s : State) (c : Nat) (x : Cell) : (s.setCell c x).lines = s.lines := rfl
@[simp] theorem State.setCell_signals (s : State) (c : Nat) (x : Cell) : (s.setCell c x).signals = s.signals := rfl
@[simp] theorem State.setCell_chans (s : State) (c : Nat) (x : Cell) : (s.setCell c x).chans = s.chans := rfl
@[simp] theorem State.setCell_sluices (s : State) (c : Nat) (x : Cell) : (s.setCell c x).sluices = s.sluices := rfl
@[simp] theorem State.setCell_mem (s : State) (c : Nat) (x : Cell) : (s.setCell c x).mem = s.mem := rfl
@[simp] theorem State.setCell_poison (s : State) (c : Nat) (x : Cell) : (s.setCell c x).poison = s.poison := rfl
@[simp] theorem State.setCell_far (s : State) (c : Nat) (x : Cell) : (s.setCell c x).far = s.far := rfl
@[simp] theorem State.setCell_farPoison (s : State) (c : Nat) (x : Cell) : (s.setCell c x).farPoison = s.farPoison := rfl
@[simp] theorem State.setCell_farTries (s : State) (c : Nat) (x : Cell) : (s.setCell c x).farTries = s.farTries := rfl
@[simp] theorem State.setCell_ceWin (s : State) (c : Nat) (x : Cell) : (s.setCell c x).ceWin = s.ceWin := rfl
@[simp] theorem State.setCell_links (s : State) (c : Nat) (x : Cell) : (s.setCell c x).links = s.links := rfl
@[simp] theorem State.setCell_leats (s : State) (c : Nat) (x : Cell) : (s.setCell c x).leats = s.leats := rfl
@[simp] theorem State.setCell_weir (s : State) (c : Nat) (x : Cell) : (s.setCell c x).weir = s.weir := rfl
@[simp] theorem State.setCell_reqs (s : State) (c : Nat) (x : Cell) : (s.setCell c x).reqs = s.reqs := rfl
@[simp] theorem State.setCell_nextTxid (s : State) (c : Nat) (x : Cell) : (s.setCell c x).nextTxid = s.nextTxid := rfl
@[simp] theorem State.setCell_selfMsgs (s : State) (c : Nat) (x : Cell) : (s.setCell c x).selfMsgs = s.selfMsgs := rfl
@[simp] theorem State.setCell_held (s : State) (c : Nat) (x : Cell) : (s.setCell c x).held = s.held := rfl
@[simp] theorem State.setCell_stale (s : State) (c : Nat) (x : Cell) : (s.setCell c x).stale = s.stale := rfl
@[simp] theorem State.setCell_ended (s : State) (c : Nat) (x : Cell) : (s.setCell c x).ended = s.ended := rfl
@[simp] theorem State.setCell_port (s : State) (c : Nat) (x : Cell) : (s.setCell c x).port = s.port := rfl
@[simp] theorem State.setCell_fabrics (s : State) (c : Nat) (x : Cell) : (s.setCell c x).fabrics = s.fabrics := rfl
@[simp] theorem State.setCell_endpoints (s : State) (c : Nat) (x : Cell) : (s.setCell c x).endpoints = s.endpoints := rfl
@[simp] theorem State.setCell_regions (s : State) (c : Nat) (x : Cell) : (s.setCell c x).regions = s.regions := rfl
@[simp] theorem State.setCell_fan (s : State) (c : Nat) (x : Cell) : (s.setCell c x).fan = s.fan := rfl
@[simp] theorem State.setCell_power (s : State) (c : Nat) (x : Cell) : (s.setCell c x).power = s.power := rfl
@[simp] theorem State.setCell_parts (s : State) (c : Nat) (x : Cell) : (s.setCell c x).parts = s.parts := rfl
@[simp] theorem State.setCell_lostRegions (s : State) (c : Nat) (x : Cell) : (s.setCell c x).lostRegions = s.lostRegions := rfl
@[simp] theorem State.setCell_raised (s : State) (c : Nat) (x : Cell) : (s.setCell c x).raised = s.raised := rfl
@[simp] theorem State.setCell_logs (s : State) (c : Nat) (x : Cell) : (s.setCell c x).logs = s.logs := rfl
@[simp] theorem State.setCell_cfg (s : State) (c : Nat) (x : Cell) : (s.setCell c x).cfg = s.cfg := rfl
@[simp] theorem State.setCell_board (s : State) (c : Nat) (x : Cell) : (s.setCell c x).board = s.board := rfl
@[simp] theorem State.setCell_module (s : State) (c : Nat) (x : Cell) : (s.setCell c x).module = s.module := rfl
@[simp] theorem State.setCell_freeCtr (s : State) (c : Nat) (x : Cell) : (s.setCell c x).freeCtr = s.freeCtr := rfl
@[simp] theorem State.rd_setCell (s : State) (c : Nat) (x : Cell) (j : Nat) : (s.setCell c x).rd j = s.rd j := rfl
@[simp] theorem State.ctr_setCell (s : State) (c : Nat) (x : Cell) (j : Nat) : (s.setCell c x).ctr j = s.ctr j := rfl
@[simp] theorem State.chan_setCell (s : State) (c : Nat) (x : Cell) (j q : Nat) : (s.setCell c x).chan j q = s.chan j q := rfl
@[simp] theorem State.link_setCell (s : State) (c : Nat) (x : Cell) (j : Nat) : (s.setCell c x).link j = s.link j := rfl
@[simp] theorem State.leat_setCell (s : State) (c : Nat) (x : Cell) (j : Nat) : (s.setCell c x).leat j = s.leat j := rfl
@[simp] theorem State.fabric_setCell (s : State) (c : Nat) (x : Cell) (j : Nat) : (s.setCell c x).fabric j = s.fabric j := rfl
@[simp] theorem State.endpoint_setCell (s : State) (c : Nat) (x : Cell) (j : Nat) : (s.setCell c x).endpoint j = s.endpoint j := rfl
@[simp] theorem State.region_setCell (s : State) (c : Nat) (x : Cell) (j : Nat) : (s.setCell c x).region j = s.region j := rfl
@[simp] theorem State.part_setCell (s : State) (c : Nat) (x : Cell) (j : Nat) : (s.setCell c x).part j = s.part j := rfl
@[simp] theorem State.memB_setCell (s : State) (c : Nat) (x : Cell) (j : Nat) : (s.setCell c x).memB j = s.memB j := rfl
@[simp] theorem State.poisoned_setCell (s : State) (c : Nat) (x : Cell) (j : Nat) : (s.setCell c x).poisoned j = s.poisoned j := rfl
@[simp] theorem State.cellPart_setCell (s : State) (c : Nat) (x : Cell) (j : Nat) : (s.setCell c x).cellPart j = s.cellPart j := rfl
@[simp] theorem State.partSecure_setCell (s : State) (c : Nat) (x : Cell) (j : Nat) : (s.setCell c x).partSecure j = s.partSecure j := rfl

/-! ### setCtr -/

@[simp] theorem State.setCtr_pending (s : State) (k : Nat) (x : Counter) : (s.setCtr k x).pending = s.pending := rfl
@[simp] theorem State.setCtr_regs (s : State) (k : Nat) (x : Counter) : (s.setCtr k x).regs = s.regs := rfl
@[simp] theorem State.setCtr_cells (s : State) (k : Nat) (x : Counter) : (s.setCtr k x).cells = s.cells := rfl
@[simp] theorem State.setCtr_lines (s : State) (k : Nat) (x : Counter) : (s.setCtr k x).lines = s.lines := rfl
@[simp] theorem State.setCtr_signals (s : State) (k : Nat) (x : Counter) : (s.setCtr k x).signals = s.signals := rfl
@[simp] theorem State.setCtr_chans (s : State) (k : Nat) (x : Counter) : (s.setCtr k x).chans = s.chans := rfl
@[simp] theorem State.setCtr_sluices (s : State) (k : Nat) (x : Counter) : (s.setCtr k x).sluices = s.sluices := rfl
@[simp] theorem State.setCtr_mem (s : State) (k : Nat) (x : Counter) : (s.setCtr k x).mem = s.mem := rfl
@[simp] theorem State.setCtr_poison (s : State) (k : Nat) (x : Counter) : (s.setCtr k x).poison = s.poison := rfl
@[simp] theorem State.setCtr_far (s : State) (k : Nat) (x : Counter) : (s.setCtr k x).far = s.far := rfl
@[simp] theorem State.setCtr_farPoison (s : State) (k : Nat) (x : Counter) : (s.setCtr k x).farPoison = s.farPoison := rfl
@[simp] theorem State.setCtr_farTries (s : State) (k : Nat) (x : Counter) : (s.setCtr k x).farTries = s.farTries := rfl
@[simp] theorem State.setCtr_ceWin (s : State) (k : Nat) (x : Counter) : (s.setCtr k x).ceWin = s.ceWin := rfl
@[simp] theorem State.setCtr_links (s : State) (k : Nat) (x : Counter) : (s.setCtr k x).links = s.links := rfl
@[simp] theorem State.setCtr_leats (s : State) (k : Nat) (x : Counter) : (s.setCtr k x).leats = s.leats := rfl
@[simp] theorem State.setCtr_weir (s : State) (k : Nat) (x : Counter) : (s.setCtr k x).weir = s.weir := rfl
@[simp] theorem State.setCtr_reqs (s : State) (k : Nat) (x : Counter) : (s.setCtr k x).reqs = s.reqs := rfl
@[simp] theorem State.setCtr_nextTxid (s : State) (k : Nat) (x : Counter) : (s.setCtr k x).nextTxid = s.nextTxid := rfl
@[simp] theorem State.setCtr_selfMsgs (s : State) (k : Nat) (x : Counter) : (s.setCtr k x).selfMsgs = s.selfMsgs := rfl
@[simp] theorem State.setCtr_held (s : State) (k : Nat) (x : Counter) : (s.setCtr k x).held = s.held := rfl
@[simp] theorem State.setCtr_stale (s : State) (k : Nat) (x : Counter) : (s.setCtr k x).stale = s.stale := rfl
@[simp] theorem State.setCtr_ended (s : State) (k : Nat) (x : Counter) : (s.setCtr k x).ended = s.ended := rfl
@[simp] theorem State.setCtr_port (s : State) (k : Nat) (x : Counter) : (s.setCtr k x).port = s.port := rfl
@[simp] theorem State.setCtr_fabrics (s : State) (k : Nat) (x : Counter) : (s.setCtr k x).fabrics = s.fabrics := rfl
@[simp] theorem State.setCtr_endpoints (s : State) (k : Nat) (x : Counter) : (s.setCtr k x).endpoints = s.endpoints := rfl
@[simp] theorem State.setCtr_regions (s : State) (k : Nat) (x : Counter) : (s.setCtr k x).regions = s.regions := rfl
@[simp] theorem State.setCtr_fan (s : State) (k : Nat) (x : Counter) : (s.setCtr k x).fan = s.fan := rfl
@[simp] theorem State.setCtr_power (s : State) (k : Nat) (x : Counter) : (s.setCtr k x).power = s.power := rfl
@[simp] theorem State.setCtr_parts (s : State) (k : Nat) (x : Counter) : (s.setCtr k x).parts = s.parts := rfl
@[simp] theorem State.setCtr_lostRegions (s : State) (k : Nat) (x : Counter) : (s.setCtr k x).lostRegions = s.lostRegions := rfl
@[simp] theorem State.setCtr_raised (s : State) (k : Nat) (x : Counter) : (s.setCtr k x).raised = s.raised := rfl
@[simp] theorem State.setCtr_logs (s : State) (k : Nat) (x : Counter) : (s.setCtr k x).logs = s.logs := rfl
@[simp] theorem State.setCtr_cfg (s : State) (k : Nat) (x : Counter) : (s.setCtr k x).cfg = s.cfg := rfl
@[simp] theorem State.setCtr_board (s : State) (k : Nat) (x : Counter) : (s.setCtr k x).board = s.board := rfl
@[simp] theorem State.setCtr_module (s : State) (k : Nat) (x : Counter) : (s.setCtr k x).module = s.module := rfl
@[simp] theorem State.setCtr_freeCtr (s : State) (k : Nat) (x : Counter) : (s.setCtr k x).freeCtr = s.freeCtr := rfl
@[simp] theorem State.rd_setCtr (s : State) (k : Nat) (x : Counter) (j : Nat) : (s.setCtr k x).rd j = s.rd j := rfl
@[simp] theorem State.cell_setCtr (s : State) (k : Nat) (x : Counter) (j : Nat) : (s.setCtr k x).cell j = s.cell j := rfl
@[simp] theorem State.chan_setCtr (s : State) (k : Nat) (x : Counter) (j q : Nat) : (s.setCtr k x).chan j q = s.chan j q := rfl
@[simp] theorem State.link_setCtr (s : State) (k : Nat) (x : Counter) (j : Nat) : (s.setCtr k x).link j = s.link j := rfl
@[simp] theorem State.leat_setCtr (s : State) (k : Nat) (x : Counter) (j : Nat) : (s.setCtr k x).leat j = s.leat j := rfl
@[simp] theorem State.fabric_setCtr (s : State) (k : Nat) (x : Counter) (j : Nat) : (s.setCtr k x).fabric j = s.fabric j := rfl
@[simp] theorem State.endpoint_setCtr (s : State) (k : Nat) (x : Counter) (j : Nat) : (s.setCtr k x).endpoint j = s.endpoint j := rfl
@[simp] theorem State.region_setCtr (s : State) (k : Nat) (x : Counter) (j : Nat) : (s.setCtr k x).region j = s.region j := rfl
@[simp] theorem State.part_setCtr (s : State) (k : Nat) (x : Counter) (j : Nat) : (s.setCtr k x).part j = s.part j := rfl
@[simp] theorem State.memB_setCtr (s : State) (k : Nat) (x : Counter) (j : Nat) : (s.setCtr k x).memB j = s.memB j := rfl
@[simp] theorem State.poisoned_setCtr (s : State) (k : Nat) (x : Counter) (j : Nat) : (s.setCtr k x).poisoned j = s.poisoned j := rfl
@[simp] theorem State.cellPart_setCtr (s : State) (k : Nat) (x : Counter) (j : Nat) : (s.setCtr k x).cellPart j = s.cellPart j := rfl
@[simp] theorem State.partSecure_setCtr (s : State) (k : Nat) (x : Counter) (j : Nat) : (s.setCtr k x).partSecure j = s.partSecure j := rfl

/-! ### setLine -/

@[simp] theorem State.setLine_pending (s : State) (p n : Nat) (x : ShutLine) : (s.setLine p n x).pending = s.pending := rfl
@[simp] theorem State.setLine_regs (s : State) (p n : Nat) (x : ShutLine) : (s.setLine p n x).regs = s.regs := rfl
@[simp] theorem State.setLine_cells (s : State) (p n : Nat) (x : ShutLine) : (s.setLine p n x).cells = s.cells := rfl
@[simp] theorem State.setLine_counters (s : State) (p n : Nat) (x : ShutLine) : (s.setLine p n x).counters = s.counters := rfl
@[simp] theorem State.setLine_signals (s : State) (p n : Nat) (x : ShutLine) : (s.setLine p n x).signals = s.signals := rfl
@[simp] theorem State.setLine_chans (s : State) (p n : Nat) (x : ShutLine) : (s.setLine p n x).chans = s.chans := rfl
@[simp] theorem State.setLine_sluices (s : State) (p n : Nat) (x : ShutLine) : (s.setLine p n x).sluices = s.sluices := rfl
@[simp] theorem State.setLine_mem (s : State) (p n : Nat) (x : ShutLine) : (s.setLine p n x).mem = s.mem := rfl
@[simp] theorem State.setLine_poison (s : State) (p n : Nat) (x : ShutLine) : (s.setLine p n x).poison = s.poison := rfl
@[simp] theorem State.setLine_far (s : State) (p n : Nat) (x : ShutLine) : (s.setLine p n x).far = s.far := rfl
@[simp] theorem State.setLine_farPoison (s : State) (p n : Nat) (x : ShutLine) : (s.setLine p n x).farPoison = s.farPoison := rfl
@[simp] theorem State.setLine_farTries (s : State) (p n : Nat) (x : ShutLine) : (s.setLine p n x).farTries = s.farTries := rfl
@[simp] theorem State.setLine_ceWin (s : State) (p n : Nat) (x : ShutLine) : (s.setLine p n x).ceWin = s.ceWin := rfl
@[simp] theorem State.setLine_links (s : State) (p n : Nat) (x : ShutLine) : (s.setLine p n x).links = s.links := rfl
@[simp] theorem State.setLine_leats (s : State) (p n : Nat) (x : ShutLine) : (s.setLine p n x).leats = s.leats := rfl
@[simp] theorem State.setLine_weir (s : State) (p n : Nat) (x : ShutLine) : (s.setLine p n x).weir = s.weir := rfl
@[simp] theorem State.setLine_reqs (s : State) (p n : Nat) (x : ShutLine) : (s.setLine p n x).reqs = s.reqs := rfl
@[simp] theorem State.setLine_nextTxid (s : State) (p n : Nat) (x : ShutLine) : (s.setLine p n x).nextTxid = s.nextTxid := rfl
@[simp] theorem State.setLine_selfMsgs (s : State) (p n : Nat) (x : ShutLine) : (s.setLine p n x).selfMsgs = s.selfMsgs := rfl
@[simp] theorem State.setLine_held (s : State) (p n : Nat) (x : ShutLine) : (s.setLine p n x).held = s.held := rfl
@[simp] theorem State.setLine_stale (s : State) (p n : Nat) (x : ShutLine) : (s.setLine p n x).stale = s.stale := rfl
@[simp] theorem State.setLine_ended (s : State) (p n : Nat) (x : ShutLine) : (s.setLine p n x).ended = s.ended := rfl
@[simp] theorem State.setLine_port (s : State) (p n : Nat) (x : ShutLine) : (s.setLine p n x).port = s.port := rfl
@[simp] theorem State.setLine_fabrics (s : State) (p n : Nat) (x : ShutLine) : (s.setLine p n x).fabrics = s.fabrics := rfl
@[simp] theorem State.setLine_endpoints (s : State) (p n : Nat) (x : ShutLine) : (s.setLine p n x).endpoints = s.endpoints := rfl
@[simp] theorem State.setLine_regions (s : State) (p n : Nat) (x : ShutLine) : (s.setLine p n x).regions = s.regions := rfl
@[simp] theorem State.setLine_fan (s : State) (p n : Nat) (x : ShutLine) : (s.setLine p n x).fan = s.fan := rfl
@[simp] theorem State.setLine_power (s : State) (p n : Nat) (x : ShutLine) : (s.setLine p n x).power = s.power := rfl
@[simp] theorem State.setLine_parts (s : State) (p n : Nat) (x : ShutLine) : (s.setLine p n x).parts = s.parts := rfl
@[simp] theorem State.setLine_lostRegions (s : State) (p n : Nat) (x : ShutLine) : (s.setLine p n x).lostRegions = s.lostRegions := rfl
@[simp] theorem State.setLine_raised (s : State) (p n : Nat) (x : ShutLine) : (s.setLine p n x).raised = s.raised := rfl
@[simp] theorem State.setLine_logs (s : State) (p n : Nat) (x : ShutLine) : (s.setLine p n x).logs = s.logs := rfl
@[simp] theorem State.setLine_cfg (s : State) (p n : Nat) (x : ShutLine) : (s.setLine p n x).cfg = s.cfg := rfl
@[simp] theorem State.setLine_board (s : State) (p n : Nat) (x : ShutLine) : (s.setLine p n x).board = s.board := rfl
@[simp] theorem State.setLine_module (s : State) (p n : Nat) (x : ShutLine) : (s.setLine p n x).module = s.module := rfl
@[simp] theorem State.setLine_freeCtr (s : State) (p n : Nat) (x : ShutLine) : (s.setLine p n x).freeCtr = s.freeCtr := rfl
@[simp] theorem State.rd_setLine (s : State) (p n : Nat) (x : ShutLine) (j : Nat) : (s.setLine p n x).rd j = s.rd j := rfl
@[simp] theorem State.cell_setLine (s : State) (p n : Nat) (x : ShutLine) (j : Nat) : (s.setLine p n x).cell j = s.cell j := rfl
@[simp] theorem State.ctr_setLine (s : State) (p n : Nat) (x : ShutLine) (j : Nat) : (s.setLine p n x).ctr j = s.ctr j := rfl
@[simp] theorem State.chan_setLine (s : State) (p n : Nat) (x : ShutLine) (j q : Nat) : (s.setLine p n x).chan j q = s.chan j q := rfl
@[simp] theorem State.link_setLine (s : State) (p n : Nat) (x : ShutLine) (j : Nat) : (s.setLine p n x).link j = s.link j := rfl
@[simp] theorem State.leat_setLine (s : State) (p n : Nat) (x : ShutLine) (j : Nat) : (s.setLine p n x).leat j = s.leat j := rfl
@[simp] theorem State.fabric_setLine (s : State) (p n : Nat) (x : ShutLine) (j : Nat) : (s.setLine p n x).fabric j = s.fabric j := rfl
@[simp] theorem State.endpoint_setLine (s : State) (p n : Nat) (x : ShutLine) (j : Nat) : (s.setLine p n x).endpoint j = s.endpoint j := rfl
@[simp] theorem State.region_setLine (s : State) (p n : Nat) (x : ShutLine) (j : Nat) : (s.setLine p n x).region j = s.region j := rfl
@[simp] theorem State.part_setLine (s : State) (p n : Nat) (x : ShutLine) (j : Nat) : (s.setLine p n x).part j = s.part j := rfl
@[simp] theorem State.memB_setLine (s : State) (p n : Nat) (x : ShutLine) (j : Nat) : (s.setLine p n x).memB j = s.memB j := rfl
@[simp] theorem State.poisoned_setLine (s : State) (p n : Nat) (x : ShutLine) (j : Nat) : (s.setLine p n x).poisoned j = s.poisoned j := rfl
@[simp] theorem State.cellPart_setLine (s : State) (p n : Nat) (x : ShutLine) (j : Nat) : (s.setLine p n x).cellPart j = s.cellPart j := rfl
@[simp] theorem State.partSecure_setLine (s : State) (p n : Nat) (x : ShutLine) (j : Nat) : (s.setLine p n x).partSecure j = s.partSecure j := rfl

/-! ### setChan -/

@[simp] theorem State.setChan_pending (s : State) (b ch : Nat) (x : Channel) : (s.setChan b ch x).pending = s.pending := rfl
@[simp] theorem State.setChan_regs (s : State) (b ch : Nat) (x : Channel) : (s.setChan b ch x).regs = s.regs := rfl
@[simp] theorem State.setChan_cells (s : State) (b ch : Nat) (x : Channel) : (s.setChan b ch x).cells = s.cells := rfl
@[simp] theorem State.setChan_counters (s : State) (b ch : Nat) (x : Channel) : (s.setChan b ch x).counters = s.counters := rfl
@[simp] theorem State.setChan_lines (s : State) (b ch : Nat) (x : Channel) : (s.setChan b ch x).lines = s.lines := rfl
@[simp] theorem State.setChan_signals (s : State) (b ch : Nat) (x : Channel) : (s.setChan b ch x).signals = s.signals := rfl
@[simp] theorem State.setChan_sluices (s : State) (b ch : Nat) (x : Channel) : (s.setChan b ch x).sluices = s.sluices := rfl
@[simp] theorem State.setChan_mem (s : State) (b ch : Nat) (x : Channel) : (s.setChan b ch x).mem = s.mem := rfl
@[simp] theorem State.setChan_poison (s : State) (b ch : Nat) (x : Channel) : (s.setChan b ch x).poison = s.poison := rfl
@[simp] theorem State.setChan_far (s : State) (b ch : Nat) (x : Channel) : (s.setChan b ch x).far = s.far := rfl
@[simp] theorem State.setChan_farPoison (s : State) (b ch : Nat) (x : Channel) : (s.setChan b ch x).farPoison = s.farPoison := rfl
@[simp] theorem State.setChan_farTries (s : State) (b ch : Nat) (x : Channel) : (s.setChan b ch x).farTries = s.farTries := rfl
@[simp] theorem State.setChan_ceWin (s : State) (b ch : Nat) (x : Channel) : (s.setChan b ch x).ceWin = s.ceWin := rfl
@[simp] theorem State.setChan_links (s : State) (b ch : Nat) (x : Channel) : (s.setChan b ch x).links = s.links := rfl
@[simp] theorem State.setChan_leats (s : State) (b ch : Nat) (x : Channel) : (s.setChan b ch x).leats = s.leats := rfl
@[simp] theorem State.setChan_weir (s : State) (b ch : Nat) (x : Channel) : (s.setChan b ch x).weir = s.weir := rfl
@[simp] theorem State.setChan_reqs (s : State) (b ch : Nat) (x : Channel) : (s.setChan b ch x).reqs = s.reqs := rfl
@[simp] theorem State.setChan_nextTxid (s : State) (b ch : Nat) (x : Channel) : (s.setChan b ch x).nextTxid = s.nextTxid := rfl
@[simp] theorem State.setChan_selfMsgs (s : State) (b ch : Nat) (x : Channel) : (s.setChan b ch x).selfMsgs = s.selfMsgs := rfl
@[simp] theorem State.setChan_held (s : State) (b ch : Nat) (x : Channel) : (s.setChan b ch x).held = s.held := rfl
@[simp] theorem State.setChan_stale (s : State) (b ch : Nat) (x : Channel) : (s.setChan b ch x).stale = s.stale := rfl
@[simp] theorem State.setChan_ended (s : State) (b ch : Nat) (x : Channel) : (s.setChan b ch x).ended = s.ended := rfl
@[simp] theorem State.setChan_port (s : State) (b ch : Nat) (x : Channel) : (s.setChan b ch x).port = s.port := rfl
@[simp] theorem State.setChan_fabrics (s : State) (b ch : Nat) (x : Channel) : (s.setChan b ch x).fabrics = s.fabrics := rfl
@[simp] theorem State.setChan_endpoints (s : State) (b ch : Nat) (x : Channel) : (s.setChan b ch x).endpoints = s.endpoints := rfl
@[simp] theorem State.setChan_regions (s : State) (b ch : Nat) (x : Channel) : (s.setChan b ch x).regions = s.regions := rfl
@[simp] theorem State.setChan_fan (s : State) (b ch : Nat) (x : Channel) : (s.setChan b ch x).fan = s.fan := rfl
@[simp] theorem State.setChan_power (s : State) (b ch : Nat) (x : Channel) : (s.setChan b ch x).power = s.power := rfl
@[simp] theorem State.setChan_parts (s : State) (b ch : Nat) (x : Channel) : (s.setChan b ch x).parts = s.parts := rfl
@[simp] theorem State.setChan_lostRegions (s : State) (b ch : Nat) (x : Channel) : (s.setChan b ch x).lostRegions = s.lostRegions := rfl
@[simp] theorem State.setChan_raised (s : State) (b ch : Nat) (x : Channel) : (s.setChan b ch x).raised = s.raised := rfl
@[simp] theorem State.setChan_logs (s : State) (b ch : Nat) (x : Channel) : (s.setChan b ch x).logs = s.logs := rfl
@[simp] theorem State.setChan_cfg (s : State) (b ch : Nat) (x : Channel) : (s.setChan b ch x).cfg = s.cfg := rfl
@[simp] theorem State.setChan_board (s : State) (b ch : Nat) (x : Channel) : (s.setChan b ch x).board = s.board := rfl
@[simp] theorem State.setChan_module (s : State) (b ch : Nat) (x : Channel) : (s.setChan b ch x).module = s.module := rfl
@[simp] theorem State.setChan_freeCtr (s : State) (b ch : Nat) (x : Channel) : (s.setChan b ch x).freeCtr = s.freeCtr := rfl
@[simp] theorem State.rd_setChan (s : State) (b ch : Nat) (x : Channel) (j : Nat) : (s.setChan b ch x).rd j = s.rd j := rfl
@[simp] theorem State.cell_setChan (s : State) (b ch : Nat) (x : Channel) (j : Nat) : (s.setChan b ch x).cell j = s.cell j := rfl
@[simp] theorem State.ctr_setChan (s : State) (b ch : Nat) (x : Channel) (j : Nat) : (s.setChan b ch x).ctr j = s.ctr j := rfl
@[simp] theorem State.link_setChan (s : State) (b ch : Nat) (x : Channel) (j : Nat) : (s.setChan b ch x).link j = s.link j := rfl
@[simp] theorem State.leat_setChan (s : State) (b ch : Nat) (x : Channel) (j : Nat) : (s.setChan b ch x).leat j = s.leat j := rfl
@[simp] theorem State.fabric_setChan (s : State) (b ch : Nat) (x : Channel) (j : Nat) : (s.setChan b ch x).fabric j = s.fabric j := rfl
@[simp] theorem State.endpoint_setChan (s : State) (b ch : Nat) (x : Channel) (j : Nat) : (s.setChan b ch x).endpoint j = s.endpoint j := rfl
@[simp] theorem State.region_setChan (s : State) (b ch : Nat) (x : Channel) (j : Nat) : (s.setChan b ch x).region j = s.region j := rfl
@[simp] theorem State.part_setChan (s : State) (b ch : Nat) (x : Channel) (j : Nat) : (s.setChan b ch x).part j = s.part j := rfl
@[simp] theorem State.memB_setChan (s : State) (b ch : Nat) (x : Channel) (j : Nat) : (s.setChan b ch x).memB j = s.memB j := rfl
@[simp] theorem State.poisoned_setChan (s : State) (b ch : Nat) (x : Channel) (j : Nat) : (s.setChan b ch x).poisoned j = s.poisoned j := rfl
@[simp] theorem State.cellPart_setChan (s : State) (b ch : Nat) (x : Channel) (j : Nat) : (s.setChan b ch x).cellPart j = s.cellPart j := rfl
@[simp] theorem State.partSecure_setChan (s : State) (b ch : Nat) (x : Channel) (j : Nat) : (s.setChan b ch x).partSecure j = s.partSecure j := rfl

/-! ### setSluice -/

@[simp] theorem State.setSluice_pending (s : State) (b : Nat) (x : Sluice) : (s.setSluice b x).pending = s.pending := rfl
@[simp] theorem State.setSluice_regs (s : State) (b : Nat) (x : Sluice) : (s.setSluice b x).regs = s.regs := rfl
@[simp] theorem State.setSluice_cells (s : State) (b : Nat) (x : Sluice) : (s.setSluice b x).cells = s.cells := rfl
@[simp] theorem State.setSluice_counters (s : State) (b : Nat) (x : Sluice) : (s.setSluice b x).counters = s.counters := rfl
@[simp] theorem State.setSluice_lines (s : State) (b : Nat) (x : Sluice) : (s.setSluice b x).lines = s.lines := rfl
@[simp] theorem State.setSluice_signals (s : State) (b : Nat) (x : Sluice) : (s.setSluice b x).signals = s.signals := rfl
@[simp] theorem State.setSluice_chans (s : State) (b : Nat) (x : Sluice) : (s.setSluice b x).chans = s.chans := rfl
@[simp] theorem State.setSluice_mem (s : State) (b : Nat) (x : Sluice) : (s.setSluice b x).mem = s.mem := rfl
@[simp] theorem State.setSluice_poison (s : State) (b : Nat) (x : Sluice) : (s.setSluice b x).poison = s.poison := rfl
@[simp] theorem State.setSluice_far (s : State) (b : Nat) (x : Sluice) : (s.setSluice b x).far = s.far := rfl
@[simp] theorem State.setSluice_farPoison (s : State) (b : Nat) (x : Sluice) : (s.setSluice b x).farPoison = s.farPoison := rfl
@[simp] theorem State.setSluice_farTries (s : State) (b : Nat) (x : Sluice) : (s.setSluice b x).farTries = s.farTries := rfl
@[simp] theorem State.setSluice_ceWin (s : State) (b : Nat) (x : Sluice) : (s.setSluice b x).ceWin = s.ceWin := rfl
@[simp] theorem State.setSluice_links (s : State) (b : Nat) (x : Sluice) : (s.setSluice b x).links = s.links := rfl
@[simp] theorem State.setSluice_leats (s : State) (b : Nat) (x : Sluice) : (s.setSluice b x).leats = s.leats := rfl
@[simp] theorem State.setSluice_weir (s : State) (b : Nat) (x : Sluice) : (s.setSluice b x).weir = s.weir := rfl
@[simp] theorem State.setSluice_reqs (s : State) (b : Nat) (x : Sluice) : (s.setSluice b x).reqs = s.reqs := rfl
@[simp] theorem State.setSluice_nextTxid (s : State) (b : Nat) (x : Sluice) : (s.setSluice b x).nextTxid = s.nextTxid := rfl
@[simp] theorem State.setSluice_selfMsgs (s : State) (b : Nat) (x : Sluice) : (s.setSluice b x).selfMsgs = s.selfMsgs := rfl
@[simp] theorem State.setSluice_held (s : State) (b : Nat) (x : Sluice) : (s.setSluice b x).held = s.held := rfl
@[simp] theorem State.setSluice_stale (s : State) (b : Nat) (x : Sluice) : (s.setSluice b x).stale = s.stale := rfl
@[simp] theorem State.setSluice_ended (s : State) (b : Nat) (x : Sluice) : (s.setSluice b x).ended = s.ended := rfl
@[simp] theorem State.setSluice_port (s : State) (b : Nat) (x : Sluice) : (s.setSluice b x).port = s.port := rfl
@[simp] theorem State.setSluice_fabrics (s : State) (b : Nat) (x : Sluice) : (s.setSluice b x).fabrics = s.fabrics := rfl
@[simp] theorem State.setSluice_endpoints (s : State) (b : Nat) (x : Sluice) : (s.setSluice b x).endpoints = s.endpoints := rfl
@[simp] theorem State.setSluice_regions (s : State) (b : Nat) (x : Sluice) : (s.setSluice b x).regions = s.regions := rfl
@[simp] theorem State.setSluice_fan (s : State) (b : Nat) (x : Sluice) : (s.setSluice b x).fan = s.fan := rfl
@[simp] theorem State.setSluice_power (s : State) (b : Nat) (x : Sluice) : (s.setSluice b x).power = s.power := rfl
@[simp] theorem State.setSluice_parts (s : State) (b : Nat) (x : Sluice) : (s.setSluice b x).parts = s.parts := rfl
@[simp] theorem State.setSluice_lostRegions (s : State) (b : Nat) (x : Sluice) : (s.setSluice b x).lostRegions = s.lostRegions := rfl
@[simp] theorem State.setSluice_raised (s : State) (b : Nat) (x : Sluice) : (s.setSluice b x).raised = s.raised := rfl
@[simp] theorem State.setSluice_logs (s : State) (b : Nat) (x : Sluice) : (s.setSluice b x).logs = s.logs := rfl
@[simp] theorem State.setSluice_cfg (s : State) (b : Nat) (x : Sluice) : (s.setSluice b x).cfg = s.cfg := rfl
@[simp] theorem State.setSluice_board (s : State) (b : Nat) (x : Sluice) : (s.setSluice b x).board = s.board := rfl
@[simp] theorem State.setSluice_module (s : State) (b : Nat) (x : Sluice) : (s.setSluice b x).module = s.module := rfl
@[simp] theorem State.setSluice_freeCtr (s : State) (b : Nat) (x : Sluice) : (s.setSluice b x).freeCtr = s.freeCtr := rfl
@[simp] theorem State.rd_setSluice (s : State) (b : Nat) (x : Sluice) (j : Nat) : (s.setSluice b x).rd j = s.rd j := rfl
@[simp] theorem State.cell_setSluice (s : State) (b : Nat) (x : Sluice) (j : Nat) : (s.setSluice b x).cell j = s.cell j := rfl
@[simp] theorem State.ctr_setSluice (s : State) (b : Nat) (x : Sluice) (j : Nat) : (s.setSluice b x).ctr j = s.ctr j := rfl
@[simp] theorem State.chan_setSluice (s : State) (b : Nat) (x : Sluice) (j q : Nat) : (s.setSluice b x).chan j q = s.chan j q := rfl
@[simp] theorem State.link_setSluice (s : State) (b : Nat) (x : Sluice) (j : Nat) : (s.setSluice b x).link j = s.link j := rfl
@[simp] theorem State.leat_setSluice (s : State) (b : Nat) (x : Sluice) (j : Nat) : (s.setSluice b x).leat j = s.leat j := rfl
@[simp] theorem State.fabric_setSluice (s : State) (b : Nat) (x : Sluice) (j : Nat) : (s.setSluice b x).fabric j = s.fabric j := rfl
@[simp] theorem State.endpoint_setSluice (s : State) (b : Nat) (x : Sluice) (j : Nat) : (s.setSluice b x).endpoint j = s.endpoint j := rfl
@[simp] theorem State.region_setSluice (s : State) (b : Nat) (x : Sluice) (j : Nat) : (s.setSluice b x).region j = s.region j := rfl
@[simp] theorem State.part_setSluice (s : State) (b : Nat) (x : Sluice) (j : Nat) : (s.setSluice b x).part j = s.part j := rfl
@[simp] theorem State.memB_setSluice (s : State) (b : Nat) (x : Sluice) (j : Nat) : (s.setSluice b x).memB j = s.memB j := rfl
@[simp] theorem State.poisoned_setSluice (s : State) (b : Nat) (x : Sluice) (j : Nat) : (s.setSluice b x).poisoned j = s.poisoned j := rfl
@[simp] theorem State.cellPart_setSluice (s : State) (b : Nat) (x : Sluice) (j : Nat) : (s.setSluice b x).cellPart j = s.cellPart j := rfl
@[simp] theorem State.partSecure_setSluice (s : State) (b : Nat) (x : Sluice) (j : Nat) : (s.setSluice b x).partSecure j = s.partSecure j := rfl

/-! ### setLink -/

@[simp] theorem State.setLink_pending (s : State) (f : Nat) (x : Link) : (s.setLink f x).pending = s.pending := rfl
@[simp] theorem State.setLink_regs (s : State) (f : Nat) (x : Link) : (s.setLink f x).regs = s.regs := rfl
@[simp] theorem State.setLink_cells (s : State) (f : Nat) (x : Link) : (s.setLink f x).cells = s.cells := rfl
@[simp] theorem State.setLink_counters (s : State) (f : Nat) (x : Link) : (s.setLink f x).counters = s.counters := rfl
@[simp] theorem State.setLink_lines (s : State) (f : Nat) (x : Link) : (s.setLink f x).lines = s.lines := rfl
@[simp] theorem State.setLink_signals (s : State) (f : Nat) (x : Link) : (s.setLink f x).signals = s.signals := rfl
@[simp] theorem State.setLink_chans (s : State) (f : Nat) (x : Link) : (s.setLink f x).chans = s.chans := rfl
@[simp] theorem State.setLink_sluices (s : State) (f : Nat) (x : Link) : (s.setLink f x).sluices = s.sluices := rfl
@[simp] theorem State.setLink_mem (s : State) (f : Nat) (x : Link) : (s.setLink f x).mem = s.mem := rfl
@[simp] theorem State.setLink_poison (s : State) (f : Nat) (x : Link) : (s.setLink f x).poison = s.poison := rfl
@[simp] theorem State.setLink_far (s : State) (f : Nat) (x : Link) : (s.setLink f x).far = s.far := rfl
@[simp] theorem State.setLink_farPoison (s : State) (f : Nat) (x : Link) : (s.setLink f x).farPoison = s.farPoison := rfl
@[simp] theorem State.setLink_farTries (s : State) (f : Nat) (x : Link) : (s.setLink f x).farTries = s.farTries := rfl
@[simp] theorem State.setLink_ceWin (s : State) (f : Nat) (x : Link) : (s.setLink f x).ceWin = s.ceWin := rfl
@[simp] theorem State.setLink_leats (s : State) (f : Nat) (x : Link) : (s.setLink f x).leats = s.leats := rfl
@[simp] theorem State.setLink_weir (s : State) (f : Nat) (x : Link) : (s.setLink f x).weir = s.weir := rfl
@[simp] theorem State.setLink_reqs (s : State) (f : Nat) (x : Link) : (s.setLink f x).reqs = s.reqs := rfl
@[simp] theorem State.setLink_nextTxid (s : State) (f : Nat) (x : Link) : (s.setLink f x).nextTxid = s.nextTxid := rfl
@[simp] theorem State.setLink_selfMsgs (s : State) (f : Nat) (x : Link) : (s.setLink f x).selfMsgs = s.selfMsgs := rfl
@[simp] theorem State.setLink_held (s : State) (f : Nat) (x : Link) : (s.setLink f x).held = s.held := rfl
@[simp] theorem State.setLink_stale (s : State) (f : Nat) (x : Link) : (s.setLink f x).stale = s.stale := rfl
@[simp] theorem State.setLink_ended (s : State) (f : Nat) (x : Link) : (s.setLink f x).ended = s.ended := rfl
@[simp] theorem State.setLink_port (s : State) (f : Nat) (x : Link) : (s.setLink f x).port = s.port := rfl
@[simp] theorem State.setLink_fabrics (s : State) (f : Nat) (x : Link) : (s.setLink f x).fabrics = s.fabrics := rfl
@[simp] theorem State.setLink_endpoints (s : State) (f : Nat) (x : Link) : (s.setLink f x).endpoints = s.endpoints := rfl
@[simp] theorem State.setLink_regions (s : State) (f : Nat) (x : Link) : (s.setLink f x).regions = s.regions := rfl
@[simp] theorem State.setLink_fan (s : State) (f : Nat) (x : Link) : (s.setLink f x).fan = s.fan := rfl
@[simp] theorem State.setLink_power (s : State) (f : Nat) (x : Link) : (s.setLink f x).power = s.power := rfl
@[simp] theorem State.setLink_parts (s : State) (f : Nat) (x : Link) : (s.setLink f x).parts = s.parts := rfl
@[simp] theorem State.setLink_lostRegions (s : State) (f : Nat) (x : Link) : (s.setLink f x).lostRegions = s.lostRegions := rfl
@[simp] theorem State.setLink_raised (s : State) (f : Nat) (x : Link) : (s.setLink f x).raised = s.raised := rfl
@[simp] theorem State.setLink_logs (s : State) (f : Nat) (x : Link) : (s.setLink f x).logs = s.logs := rfl
@[simp] theorem State.setLink_cfg (s : State) (f : Nat) (x : Link) : (s.setLink f x).cfg = s.cfg := rfl
@[simp] theorem State.setLink_board (s : State) (f : Nat) (x : Link) : (s.setLink f x).board = s.board := rfl
@[simp] theorem State.setLink_module (s : State) (f : Nat) (x : Link) : (s.setLink f x).module = s.module := rfl
@[simp] theorem State.setLink_freeCtr (s : State) (f : Nat) (x : Link) : (s.setLink f x).freeCtr = s.freeCtr := rfl
@[simp] theorem State.rd_setLink (s : State) (f : Nat) (x : Link) (j : Nat) : (s.setLink f x).rd j = s.rd j := rfl
@[simp] theorem State.cell_setLink (s : State) (f : Nat) (x : Link) (j : Nat) : (s.setLink f x).cell j = s.cell j := rfl
@[simp] theorem State.ctr_setLink (s : State) (f : Nat) (x : Link) (j : Nat) : (s.setLink f x).ctr j = s.ctr j := rfl
@[simp] theorem State.chan_setLink (s : State) (f : Nat) (x : Link) (j q : Nat) : (s.setLink f x).chan j q = s.chan j q := rfl
@[simp] theorem State.leat_setLink (s : State) (f : Nat) (x : Link) (j : Nat) : (s.setLink f x).leat j = s.leat j := rfl
@[simp] theorem State.fabric_setLink (s : State) (f : Nat) (x : Link) (j : Nat) : (s.setLink f x).fabric j = s.fabric j := rfl
@[simp] theorem State.endpoint_setLink (s : State) (f : Nat) (x : Link) (j : Nat) : (s.setLink f x).endpoint j = s.endpoint j := rfl
@[simp] theorem State.region_setLink (s : State) (f : Nat) (x : Link) (j : Nat) : (s.setLink f x).region j = s.region j := rfl
@[simp] theorem State.part_setLink (s : State) (f : Nat) (x : Link) (j : Nat) : (s.setLink f x).part j = s.part j := rfl
@[simp] theorem State.memB_setLink (s : State) (f : Nat) (x : Link) (j : Nat) : (s.setLink f x).memB j = s.memB j := rfl
@[simp] theorem State.poisoned_setLink (s : State) (f : Nat) (x : Link) (j : Nat) : (s.setLink f x).poisoned j = s.poisoned j := rfl
@[simp] theorem State.cellPart_setLink (s : State) (f : Nat) (x : Link) (j : Nat) : (s.setLink f x).cellPart j = s.cellPart j := rfl
@[simp] theorem State.partSecure_setLink (s : State) (f : Nat) (x : Link) (j : Nat) : (s.setLink f x).partSecure j = s.partSecure j := rfl

/-! ### setLeat -/

@[simp] theorem State.setLeat_pending (s : State) (p : Nat) (x : Leat) : (s.setLeat p x).pending = s.pending := rfl
@[simp] theorem State.setLeat_regs (s : State) (p : Nat) (x : Leat) : (s.setLeat p x).regs = s.regs := rfl
@[simp] theorem State.setLeat_cells (s : State) (p : Nat) (x : Leat) : (s.setLeat p x).cells = s.cells := rfl
@[simp] theorem State.setLeat_counters (s : State) (p : Nat) (x : Leat) : (s.setLeat p x).counters = s.counters := rfl
@[simp] theorem State.setLeat_lines (s : State) (p : Nat) (x : Leat) : (s.setLeat p x).lines = s.lines := rfl
@[simp] theorem State.setLeat_signals (s : State) (p : Nat) (x : Leat) : (s.setLeat p x).signals = s.signals := rfl
@[simp] theorem State.setLeat_chans (s : State) (p : Nat) (x : Leat) : (s.setLeat p x).chans = s.chans := rfl
@[simp] theorem State.setLeat_sluices (s : State) (p : Nat) (x : Leat) : (s.setLeat p x).sluices = s.sluices := rfl
@[simp] theorem State.setLeat_mem (s : State) (p : Nat) (x : Leat) : (s.setLeat p x).mem = s.mem := rfl
@[simp] theorem State.setLeat_poison (s : State) (p : Nat) (x : Leat) : (s.setLeat p x).poison = s.poison := rfl
@[simp] theorem State.setLeat_far (s : State) (p : Nat) (x : Leat) : (s.setLeat p x).far = s.far := rfl
@[simp] theorem State.setLeat_farPoison (s : State) (p : Nat) (x : Leat) : (s.setLeat p x).farPoison = s.farPoison := rfl
@[simp] theorem State.setLeat_farTries (s : State) (p : Nat) (x : Leat) : (s.setLeat p x).farTries = s.farTries := rfl
@[simp] theorem State.setLeat_ceWin (s : State) (p : Nat) (x : Leat) : (s.setLeat p x).ceWin = s.ceWin := rfl
@[simp] theorem State.setLeat_links (s : State) (p : Nat) (x : Leat) : (s.setLeat p x).links = s.links := rfl
@[simp] theorem State.setLeat_weir (s : State) (p : Nat) (x : Leat) : (s.setLeat p x).weir = s.weir := rfl
@[simp] theorem State.setLeat_reqs (s : State) (p : Nat) (x : Leat) : (s.setLeat p x).reqs = s.reqs := rfl
@[simp] theorem State.setLeat_nextTxid (s : State) (p : Nat) (x : Leat) : (s.setLeat p x).nextTxid = s.nextTxid := rfl
@[simp] theorem State.setLeat_selfMsgs (s : State) (p : Nat) (x : Leat) : (s.setLeat p x).selfMsgs = s.selfMsgs := rfl
@[simp] theorem State.setLeat_held (s : State) (p : Nat) (x : Leat) : (s.setLeat p x).held = s.held := rfl
@[simp] theorem State.setLeat_stale (s : State) (p : Nat) (x : Leat) : (s.setLeat p x).stale = s.stale := rfl
@[simp] theorem State.setLeat_ended (s : State) (p : Nat) (x : Leat) : (s.setLeat p x).ended = s.ended := rfl
@[simp] theorem State.setLeat_port (s : State) (p : Nat) (x : Leat) : (s.setLeat p x).port = s.port := rfl
@[simp] theorem State.setLeat_fabrics (s : State) (p : Nat) (x : Leat) : (s.setLeat p x).fabrics = s.fabrics := rfl
@[simp] theorem State.setLeat_endpoints (s : State) (p : Nat) (x : Leat) : (s.setLeat p x).endpoints = s.endpoints := rfl
@[simp] theorem State.setLeat_regions (s : State) (p : Nat) (x : Leat) : (s.setLeat p x).regions = s.regions := rfl
@[simp] theorem State.setLeat_fan (s : State) (p : Nat) (x : Leat) : (s.setLeat p x).fan = s.fan := rfl
@[simp] theorem State.setLeat_power (s : State) (p : Nat) (x : Leat) : (s.setLeat p x).power = s.power := rfl
@[simp] theorem State.setLeat_parts (s : State) (p : Nat) (x : Leat) : (s.setLeat p x).parts = s.parts := rfl
@[simp] theorem State.setLeat_lostRegions (s : State) (p : Nat) (x : Leat) : (s.setLeat p x).lostRegions = s.lostRegions := rfl
@[simp] theorem State.setLeat_raised (s : State) (p : Nat) (x : Leat) : (s.setLeat p x).raised = s.raised := rfl
@[simp] theorem State.setLeat_logs (s : State) (p : Nat) (x : Leat) : (s.setLeat p x).logs = s.logs := rfl
@[simp] theorem State.setLeat_cfg (s : State) (p : Nat) (x : Leat) : (s.setLeat p x).cfg = s.cfg := rfl
@[simp] theorem State.setLeat_board (s : State) (p : Nat) (x : Leat) : (s.setLeat p x).board = s.board := rfl
@[simp] theorem State.setLeat_module (s : State) (p : Nat) (x : Leat) : (s.setLeat p x).module = s.module := rfl
@[simp] theorem State.setLeat_freeCtr (s : State) (p : Nat) (x : Leat) : (s.setLeat p x).freeCtr = s.freeCtr := rfl
@[simp] theorem State.rd_setLeat (s : State) (p : Nat) (x : Leat) (j : Nat) : (s.setLeat p x).rd j = s.rd j := rfl
@[simp] theorem State.cell_setLeat (s : State) (p : Nat) (x : Leat) (j : Nat) : (s.setLeat p x).cell j = s.cell j := rfl
@[simp] theorem State.ctr_setLeat (s : State) (p : Nat) (x : Leat) (j : Nat) : (s.setLeat p x).ctr j = s.ctr j := rfl
@[simp] theorem State.chan_setLeat (s : State) (p : Nat) (x : Leat) (j q : Nat) : (s.setLeat p x).chan j q = s.chan j q := rfl
@[simp] theorem State.link_setLeat (s : State) (p : Nat) (x : Leat) (j : Nat) : (s.setLeat p x).link j = s.link j := rfl
@[simp] theorem State.fabric_setLeat (s : State) (p : Nat) (x : Leat) (j : Nat) : (s.setLeat p x).fabric j = s.fabric j := rfl
@[simp] theorem State.endpoint_setLeat (s : State) (p : Nat) (x : Leat) (j : Nat) : (s.setLeat p x).endpoint j = s.endpoint j := rfl
@[simp] theorem State.region_setLeat (s : State) (p : Nat) (x : Leat) (j : Nat) : (s.setLeat p x).region j = s.region j := rfl
@[simp] theorem State.part_setLeat (s : State) (p : Nat) (x : Leat) (j : Nat) : (s.setLeat p x).part j = s.part j := rfl
@[simp] theorem State.memB_setLeat (s : State) (p : Nat) (x : Leat) (j : Nat) : (s.setLeat p x).memB j = s.memB j := rfl
@[simp] theorem State.poisoned_setLeat (s : State) (p : Nat) (x : Leat) (j : Nat) : (s.setLeat p x).poisoned j = s.poisoned j := rfl
@[simp] theorem State.cellPart_setLeat (s : State) (p : Nat) (x : Leat) (j : Nat) : (s.setLeat p x).cellPart j = s.cellPart j := rfl
@[simp] theorem State.partSecure_setLeat (s : State) (p : Nat) (x : Leat) (j : Nat) : (s.setLeat p x).partSecure j = s.partSecure j := rfl

/-! ### setFabric -/

@[simp] theorem State.setFabric_pending (s : State) (p : Nat) (x : Fabric) : (s.setFabric p x).pending = s.pending := rfl
@[simp] theorem State.setFabric_regs (s : State) (p : Nat) (x : Fabric) : (s.setFabric p x).regs = s.regs := rfl
@[simp] theorem State.setFabric_cells (s : State) (p : Nat) (x : Fabric) : (s.setFabric p x).cells = s.cells := rfl
@[simp] theorem State.setFabric_counters (s : State) (p : Nat) (x : Fabric) : (s.setFabric p x).counters = s.counters := rfl
@[simp] theorem State.setFabric_lines (s : State) (p : Nat) (x : Fabric) : (s.setFabric p x).lines = s.lines := rfl
@[simp] theorem State.setFabric_signals (s : State) (p : Nat) (x : Fabric) : (s.setFabric p x).signals = s.signals := rfl
@[simp] theorem State.setFabric_chans (s : State) (p : Nat) (x : Fabric) : (s.setFabric p x).chans = s.chans := rfl
@[simp] theorem State.setFabric_sluices (s : State) (p : Nat) (x : Fabric) : (s.setFabric p x).sluices = s.sluices := rfl
@[simp] theorem State.setFabric_mem (s : State) (p : Nat) (x : Fabric) : (s.setFabric p x).mem = s.mem := rfl
@[simp] theorem State.setFabric_poison (s : State) (p : Nat) (x : Fabric) : (s.setFabric p x).poison = s.poison := rfl
@[simp] theorem State.setFabric_far (s : State) (p : Nat) (x : Fabric) : (s.setFabric p x).far = s.far := rfl
@[simp] theorem State.setFabric_farPoison (s : State) (p : Nat) (x : Fabric) : (s.setFabric p x).farPoison = s.farPoison := rfl
@[simp] theorem State.setFabric_farTries (s : State) (p : Nat) (x : Fabric) : (s.setFabric p x).farTries = s.farTries := rfl
@[simp] theorem State.setFabric_ceWin (s : State) (p : Nat) (x : Fabric) : (s.setFabric p x).ceWin = s.ceWin := rfl
@[simp] theorem State.setFabric_links (s : State) (p : Nat) (x : Fabric) : (s.setFabric p x).links = s.links := rfl
@[simp] theorem State.setFabric_leats (s : State) (p : Nat) (x : Fabric) : (s.setFabric p x).leats = s.leats := rfl
@[simp] theorem State.setFabric_weir (s : State) (p : Nat) (x : Fabric) : (s.setFabric p x).weir = s.weir := rfl
@[simp] theorem State.setFabric_reqs (s : State) (p : Nat) (x : Fabric) : (s.setFabric p x).reqs = s.reqs := rfl
@[simp] theorem State.setFabric_nextTxid (s : State) (p : Nat) (x : Fabric) : (s.setFabric p x).nextTxid = s.nextTxid := rfl
@[simp] theorem State.setFabric_selfMsgs (s : State) (p : Nat) (x : Fabric) : (s.setFabric p x).selfMsgs = s.selfMsgs := rfl
@[simp] theorem State.setFabric_held (s : State) (p : Nat) (x : Fabric) : (s.setFabric p x).held = s.held := rfl
@[simp] theorem State.setFabric_stale (s : State) (p : Nat) (x : Fabric) : (s.setFabric p x).stale = s.stale := rfl
@[simp] theorem State.setFabric_ended (s : State) (p : Nat) (x : Fabric) : (s.setFabric p x).ended = s.ended := rfl
@[simp] theorem State.setFabric_port (s : State) (p : Nat) (x : Fabric) : (s.setFabric p x).port = s.port := rfl
@[simp] theorem State.setFabric_endpoints (s : State) (p : Nat) (x : Fabric) : (s.setFabric p x).endpoints = s.endpoints := rfl
@[simp] theorem State.setFabric_regions (s : State) (p : Nat) (x : Fabric) : (s.setFabric p x).regions = s.regions := rfl
@[simp] theorem State.setFabric_fan (s : State) (p : Nat) (x : Fabric) : (s.setFabric p x).fan = s.fan := rfl
@[simp] theorem State.setFabric_power (s : State) (p : Nat) (x : Fabric) : (s.setFabric p x).power = s.power := rfl
@[simp] theorem State.setFabric_parts (s : State) (p : Nat) (x : Fabric) : (s.setFabric p x).parts = s.parts := rfl
@[simp] theorem State.setFabric_lostRegions (s : State) (p : Nat) (x : Fabric) : (s.setFabric p x).lostRegions = s.lostRegions := rfl
@[simp] theorem State.setFabric_raised (s : State) (p : Nat) (x : Fabric) : (s.setFabric p x).raised = s.raised := rfl
@[simp] theorem State.setFabric_logs (s : State) (p : Nat) (x : Fabric) : (s.setFabric p x).logs = s.logs := rfl
@[simp] theorem State.setFabric_cfg (s : State) (p : Nat) (x : Fabric) : (s.setFabric p x).cfg = s.cfg := rfl
@[simp] theorem State.setFabric_board (s : State) (p : Nat) (x : Fabric) : (s.setFabric p x).board = s.board := rfl
@[simp] theorem State.setFabric_module (s : State) (p : Nat) (x : Fabric) : (s.setFabric p x).module = s.module := rfl
@[simp] theorem State.setFabric_freeCtr (s : State) (p : Nat) (x : Fabric) : (s.setFabric p x).freeCtr = s.freeCtr := rfl
@[simp] theorem State.rd_setFabric (s : State) (p : Nat) (x : Fabric) (j : Nat) : (s.setFabric p x).rd j = s.rd j := rfl
@[simp] theorem State.cell_setFabric (s : State) (p : Nat) (x : Fabric) (j : Nat) : (s.setFabric p x).cell j = s.cell j := rfl
@[simp] theorem State.ctr_setFabric (s : State) (p : Nat) (x : Fabric) (j : Nat) : (s.setFabric p x).ctr j = s.ctr j := rfl
@[simp] theorem State.chan_setFabric (s : State) (p : Nat) (x : Fabric) (j q : Nat) : (s.setFabric p x).chan j q = s.chan j q := rfl
@[simp] theorem State.link_setFabric (s : State) (p : Nat) (x : Fabric) (j : Nat) : (s.setFabric p x).link j = s.link j := rfl
@[simp] theorem State.leat_setFabric (s : State) (p : Nat) (x : Fabric) (j : Nat) : (s.setFabric p x).leat j = s.leat j := rfl
@[simp] theorem State.endpoint_setFabric (s : State) (p : Nat) (x : Fabric) (j : Nat) : (s.setFabric p x).endpoint j = s.endpoint j := rfl
@[simp] theorem State.region_setFabric (s : State) (p : Nat) (x : Fabric) (j : Nat) : (s.setFabric p x).region j = s.region j := rfl
@[simp] theorem State.part_setFabric (s : State) (p : Nat) (x : Fabric) (j : Nat) : (s.setFabric p x).part j = s.part j := rfl
@[simp] theorem State.memB_setFabric (s : State) (p : Nat) (x : Fabric) (j : Nat) : (s.setFabric p x).memB j = s.memB j := rfl
@[simp] theorem State.poisoned_setFabric (s : State) (p : Nat) (x : Fabric) (j : Nat) : (s.setFabric p x).poisoned j = s.poisoned j := rfl
@[simp] theorem State.cellPart_setFabric (s : State) (p : Nat) (x : Fabric) (j : Nat) : (s.setFabric p x).cellPart j = s.cellPart j := rfl
@[simp] theorem State.partSecure_setFabric (s : State) (p : Nat) (x : Fabric) (j : Nat) : (s.setFabric p x).partSecure j = s.partSecure j := rfl

/-! ### setEndpoint -/

@[simp] theorem State.setEndpoint_pending (s : State) (p : Nat) (x : Endpoint) : (s.setEndpoint p x).pending = s.pending := rfl
@[simp] theorem State.setEndpoint_regs (s : State) (p : Nat) (x : Endpoint) : (s.setEndpoint p x).regs = s.regs := rfl
@[simp] theorem State.setEndpoint_cells (s : State) (p : Nat) (x : Endpoint) : (s.setEndpoint p x).cells = s.cells := rfl
@[simp] theorem State.setEndpoint_counters (s : State) (p : Nat) (x : Endpoint) : (s.setEndpoint p x).counters = s.counters := rfl
@[simp] theorem State.setEndpoint_lines (s : State) (p : Nat) (x : Endpoint) : (s.setEndpoint p x).lines = s.lines := rfl
@[simp] theorem State.setEndpoint_signals (s : State) (p : Nat) (x : Endpoint) : (s.setEndpoint p x).signals = s.signals := rfl
@[simp] theorem State.setEndpoint_chans (s : State) (p : Nat) (x : Endpoint) : (s.setEndpoint p x).chans = s.chans := rfl
@[simp] theorem State.setEndpoint_sluices (s : State) (p : Nat) (x : Endpoint) : (s.setEndpoint p x).sluices = s.sluices := rfl
@[simp] theorem State.setEndpoint_mem (s : State) (p : Nat) (x : Endpoint) : (s.setEndpoint p x).mem = s.mem := rfl
@[simp] theorem State.setEndpoint_poison (s : State) (p : Nat) (x : Endpoint) : (s.setEndpoint p x).poison = s.poison := rfl
@[simp] theorem State.setEndpoint_far (s : State) (p : Nat) (x : Endpoint) : (s.setEndpoint p x).far = s.far := rfl
@[simp] theorem State.setEndpoint_farPoison (s : State) (p : Nat) (x : Endpoint) : (s.setEndpoint p x).farPoison = s.farPoison := rfl
@[simp] theorem State.setEndpoint_farTries (s : State) (p : Nat) (x : Endpoint) : (s.setEndpoint p x).farTries = s.farTries := rfl
@[simp] theorem State.setEndpoint_ceWin (s : State) (p : Nat) (x : Endpoint) : (s.setEndpoint p x).ceWin = s.ceWin := rfl
@[simp] theorem State.setEndpoint_links (s : State) (p : Nat) (x : Endpoint) : (s.setEndpoint p x).links = s.links := rfl
@[simp] theorem State.setEndpoint_leats (s : State) (p : Nat) (x : Endpoint) : (s.setEndpoint p x).leats = s.leats := rfl
@[simp] theorem State.setEndpoint_weir (s : State) (p : Nat) (x : Endpoint) : (s.setEndpoint p x).weir = s.weir := rfl
@[simp] theorem State.setEndpoint_reqs (s : State) (p : Nat) (x : Endpoint) : (s.setEndpoint p x).reqs = s.reqs := rfl
@[simp] theorem State.setEndpoint_nextTxid (s : State) (p : Nat) (x : Endpoint) : (s.setEndpoint p x).nextTxid = s.nextTxid := rfl
@[simp] theorem State.setEndpoint_selfMsgs (s : State) (p : Nat) (x : Endpoint) : (s.setEndpoint p x).selfMsgs = s.selfMsgs := rfl
@[simp] theorem State.setEndpoint_held (s : State) (p : Nat) (x : Endpoint) : (s.setEndpoint p x).held = s.held := rfl
@[simp] theorem State.setEndpoint_stale (s : State) (p : Nat) (x : Endpoint) : (s.setEndpoint p x).stale = s.stale := rfl
@[simp] theorem State.setEndpoint_ended (s : State) (p : Nat) (x : Endpoint) : (s.setEndpoint p x).ended = s.ended := rfl
@[simp] theorem State.setEndpoint_port (s : State) (p : Nat) (x : Endpoint) : (s.setEndpoint p x).port = s.port := rfl
@[simp] theorem State.setEndpoint_fabrics (s : State) (p : Nat) (x : Endpoint) : (s.setEndpoint p x).fabrics = s.fabrics := rfl
@[simp] theorem State.setEndpoint_regions (s : State) (p : Nat) (x : Endpoint) : (s.setEndpoint p x).regions = s.regions := rfl
@[simp] theorem State.setEndpoint_fan (s : State) (p : Nat) (x : Endpoint) : (s.setEndpoint p x).fan = s.fan := rfl
@[simp] theorem State.setEndpoint_power (s : State) (p : Nat) (x : Endpoint) : (s.setEndpoint p x).power = s.power := rfl
@[simp] theorem State.setEndpoint_parts (s : State) (p : Nat) (x : Endpoint) : (s.setEndpoint p x).parts = s.parts := rfl
@[simp] theorem State.setEndpoint_lostRegions (s : State) (p : Nat) (x : Endpoint) : (s.setEndpoint p x).lostRegions = s.lostRegions := rfl
@[simp] theorem State.setEndpoint_raised (s : State) (p : Nat) (x : Endpoint) : (s.setEndpoint p x).raised = s.raised := rfl
@[simp] theorem State.setEndpoint_logs (s : State) (p : Nat) (x : Endpoint) : (s.setEndpoint p x).logs = s.logs := rfl
@[simp] theorem State.setEndpoint_cfg (s : State) (p : Nat) (x : Endpoint) : (s.setEndpoint p x).cfg = s.cfg := rfl
@[simp] theorem State.setEndpoint_board (s : State) (p : Nat) (x : Endpoint) : (s.setEndpoint p x).board = s.board := rfl
@[simp] theorem State.setEndpoint_module (s : State) (p : Nat) (x : Endpoint) : (s.setEndpoint p x).module = s.module := rfl
@[simp] theorem State.setEndpoint_freeCtr (s : State) (p : Nat) (x : Endpoint) : (s.setEndpoint p x).freeCtr = s.freeCtr := rfl
@[simp] theorem State.rd_setEndpoint (s : State) (p : Nat) (x : Endpoint) (j : Nat) : (s.setEndpoint p x).rd j = s.rd j := rfl
@[simp] theorem State.cell_setEndpoint (s : State) (p : Nat) (x : Endpoint) (j : Nat) : (s.setEndpoint p x).cell j = s.cell j := rfl
@[simp] theorem State.ctr_setEndpoint (s : State) (p : Nat) (x : Endpoint) (j : Nat) : (s.setEndpoint p x).ctr j = s.ctr j := rfl
@[simp] theorem State.chan_setEndpoint (s : State) (p : Nat) (x : Endpoint) (j q : Nat) : (s.setEndpoint p x).chan j q = s.chan j q := rfl
@[simp] theorem State.link_setEndpoint (s : State) (p : Nat) (x : Endpoint) (j : Nat) : (s.setEndpoint p x).link j = s.link j := rfl
@[simp] theorem State.leat_setEndpoint (s : State) (p : Nat) (x : Endpoint) (j : Nat) : (s.setEndpoint p x).leat j = s.leat j := rfl
@[simp] theorem State.fabric_setEndpoint (s : State) (p : Nat) (x : Endpoint) (j : Nat) : (s.setEndpoint p x).fabric j = s.fabric j := rfl
@[simp] theorem State.region_setEndpoint (s : State) (p : Nat) (x : Endpoint) (j : Nat) : (s.setEndpoint p x).region j = s.region j := rfl
@[simp] theorem State.part_setEndpoint (s : State) (p : Nat) (x : Endpoint) (j : Nat) : (s.setEndpoint p x).part j = s.part j := rfl
@[simp] theorem State.memB_setEndpoint (s : State) (p : Nat) (x : Endpoint) (j : Nat) : (s.setEndpoint p x).memB j = s.memB j := rfl
@[simp] theorem State.poisoned_setEndpoint (s : State) (p : Nat) (x : Endpoint) (j : Nat) : (s.setEndpoint p x).poisoned j = s.poisoned j := rfl
@[simp] theorem State.cellPart_setEndpoint (s : State) (p : Nat) (x : Endpoint) (j : Nat) : (s.setEndpoint p x).cellPart j = s.cellPart j := rfl
@[simp] theorem State.partSecure_setEndpoint (s : State) (p : Nat) (x : Endpoint) (j : Nat) : (s.setEndpoint p x).partSecure j = s.partSecure j := rfl

/-! ### setRegion -/

@[simp] theorem State.setRegion_pending (s : State) (r : Nat) (x : RegionPower) : (s.setRegion r x).pending = s.pending := rfl
@[simp] theorem State.setRegion_regs (s : State) (r : Nat) (x : RegionPower) : (s.setRegion r x).regs = s.regs := rfl
@[simp] theorem State.setRegion_cells (s : State) (r : Nat) (x : RegionPower) : (s.setRegion r x).cells = s.cells := rfl
@[simp] theorem State.setRegion_counters (s : State) (r : Nat) (x : RegionPower) : (s.setRegion r x).counters = s.counters := rfl
@[simp] theorem State.setRegion_lines (s : State) (r : Nat) (x : RegionPower) : (s.setRegion r x).lines = s.lines := rfl
@[simp] theorem State.setRegion_signals (s : State) (r : Nat) (x : RegionPower) : (s.setRegion r x).signals = s.signals := rfl
@[simp] theorem State.setRegion_chans (s : State) (r : Nat) (x : RegionPower) : (s.setRegion r x).chans = s.chans := rfl
@[simp] theorem State.setRegion_sluices (s : State) (r : Nat) (x : RegionPower) : (s.setRegion r x).sluices = s.sluices := rfl
@[simp] theorem State.setRegion_mem (s : State) (r : Nat) (x : RegionPower) : (s.setRegion r x).mem = s.mem := rfl
@[simp] theorem State.setRegion_poison (s : State) (r : Nat) (x : RegionPower) : (s.setRegion r x).poison = s.poison := rfl
@[simp] theorem State.setRegion_far (s : State) (r : Nat) (x : RegionPower) : (s.setRegion r x).far = s.far := rfl
@[simp] theorem State.setRegion_farPoison (s : State) (r : Nat) (x : RegionPower) : (s.setRegion r x).farPoison = s.farPoison := rfl
@[simp] theorem State.setRegion_farTries (s : State) (r : Nat) (x : RegionPower) : (s.setRegion r x).farTries = s.farTries := rfl
@[simp] theorem State.setRegion_ceWin (s : State) (r : Nat) (x : RegionPower) : (s.setRegion r x).ceWin = s.ceWin := rfl
@[simp] theorem State.setRegion_links (s : State) (r : Nat) (x : RegionPower) : (s.setRegion r x).links = s.links := rfl
@[simp] theorem State.setRegion_leats (s : State) (r : Nat) (x : RegionPower) : (s.setRegion r x).leats = s.leats := rfl
@[simp] theorem State.setRegion_weir (s : State) (r : Nat) (x : RegionPower) : (s.setRegion r x).weir = s.weir := rfl
@[simp] theorem State.setRegion_reqs (s : State) (r : Nat) (x : RegionPower) : (s.setRegion r x).reqs = s.reqs := rfl
@[simp] theorem State.setRegion_nextTxid (s : State) (r : Nat) (x : RegionPower) : (s.setRegion r x).nextTxid = s.nextTxid := rfl
@[simp] theorem State.setRegion_selfMsgs (s : State) (r : Nat) (x : RegionPower) : (s.setRegion r x).selfMsgs = s.selfMsgs := rfl
@[simp] theorem State.setRegion_held (s : State) (r : Nat) (x : RegionPower) : (s.setRegion r x).held = s.held := rfl
@[simp] theorem State.setRegion_stale (s : State) (r : Nat) (x : RegionPower) : (s.setRegion r x).stale = s.stale := rfl
@[simp] theorem State.setRegion_ended (s : State) (r : Nat) (x : RegionPower) : (s.setRegion r x).ended = s.ended := rfl
@[simp] theorem State.setRegion_port (s : State) (r : Nat) (x : RegionPower) : (s.setRegion r x).port = s.port := rfl
@[simp] theorem State.setRegion_fabrics (s : State) (r : Nat) (x : RegionPower) : (s.setRegion r x).fabrics = s.fabrics := rfl
@[simp] theorem State.setRegion_endpoints (s : State) (r : Nat) (x : RegionPower) : (s.setRegion r x).endpoints = s.endpoints := rfl
@[simp] theorem State.setRegion_fan (s : State) (r : Nat) (x : RegionPower) : (s.setRegion r x).fan = s.fan := rfl
@[simp] theorem State.setRegion_power (s : State) (r : Nat) (x : RegionPower) : (s.setRegion r x).power = s.power := rfl
@[simp] theorem State.setRegion_parts (s : State) (r : Nat) (x : RegionPower) : (s.setRegion r x).parts = s.parts := rfl
@[simp] theorem State.setRegion_lostRegions (s : State) (r : Nat) (x : RegionPower) : (s.setRegion r x).lostRegions = s.lostRegions := rfl
@[simp] theorem State.setRegion_raised (s : State) (r : Nat) (x : RegionPower) : (s.setRegion r x).raised = s.raised := rfl
@[simp] theorem State.setRegion_logs (s : State) (r : Nat) (x : RegionPower) : (s.setRegion r x).logs = s.logs := rfl
@[simp] theorem State.setRegion_cfg (s : State) (r : Nat) (x : RegionPower) : (s.setRegion r x).cfg = s.cfg := rfl
@[simp] theorem State.setRegion_board (s : State) (r : Nat) (x : RegionPower) : (s.setRegion r x).board = s.board := rfl
@[simp] theorem State.setRegion_module (s : State) (r : Nat) (x : RegionPower) : (s.setRegion r x).module = s.module := rfl
@[simp] theorem State.setRegion_freeCtr (s : State) (r : Nat) (x : RegionPower) : (s.setRegion r x).freeCtr = s.freeCtr := rfl
@[simp] theorem State.rd_setRegion (s : State) (r : Nat) (x : RegionPower) (j : Nat) : (s.setRegion r x).rd j = s.rd j := rfl
@[simp] theorem State.cell_setRegion (s : State) (r : Nat) (x : RegionPower) (j : Nat) : (s.setRegion r x).cell j = s.cell j := rfl
@[simp] theorem State.ctr_setRegion (s : State) (r : Nat) (x : RegionPower) (j : Nat) : (s.setRegion r x).ctr j = s.ctr j := rfl
@[simp] theorem State.chan_setRegion (s : State) (r : Nat) (x : RegionPower) (j q : Nat) : (s.setRegion r x).chan j q = s.chan j q := rfl
@[simp] theorem State.link_setRegion (s : State) (r : Nat) (x : RegionPower) (j : Nat) : (s.setRegion r x).link j = s.link j := rfl
@[simp] theorem State.leat_setRegion (s : State) (r : Nat) (x : RegionPower) (j : Nat) : (s.setRegion r x).leat j = s.leat j := rfl
@[simp] theorem State.fabric_setRegion (s : State) (r : Nat) (x : RegionPower) (j : Nat) : (s.setRegion r x).fabric j = s.fabric j := rfl
@[simp] theorem State.endpoint_setRegion (s : State) (r : Nat) (x : RegionPower) (j : Nat) : (s.setRegion r x).endpoint j = s.endpoint j := rfl
@[simp] theorem State.part_setRegion (s : State) (r : Nat) (x : RegionPower) (j : Nat) : (s.setRegion r x).part j = s.part j := rfl
@[simp] theorem State.memB_setRegion (s : State) (r : Nat) (x : RegionPower) (j : Nat) : (s.setRegion r x).memB j = s.memB j := rfl
@[simp] theorem State.poisoned_setRegion (s : State) (r : Nat) (x : RegionPower) (j : Nat) : (s.setRegion r x).poisoned j = s.poisoned j := rfl
@[simp] theorem State.cellPart_setRegion (s : State) (r : Nat) (x : RegionPower) (j : Nat) : (s.setRegion r x).cellPart j = s.cellPart j := rfl
@[simp] theorem State.partSecure_setRegion (s : State) (r : Nat) (x : RegionPower) (j : Nat) : (s.setRegion r x).partSecure j = s.partSecure j := rfl

/-! ### setPart -/

@[simp] theorem State.setPart_pending (s : State) (p : Nat) (x : Part) : (s.setPart p x).pending = s.pending := rfl
@[simp] theorem State.setPart_regs (s : State) (p : Nat) (x : Part) : (s.setPart p x).regs = s.regs := rfl
@[simp] theorem State.setPart_cells (s : State) (p : Nat) (x : Part) : (s.setPart p x).cells = s.cells := rfl
@[simp] theorem State.setPart_counters (s : State) (p : Nat) (x : Part) : (s.setPart p x).counters = s.counters := rfl
@[simp] theorem State.setPart_lines (s : State) (p : Nat) (x : Part) : (s.setPart p x).lines = s.lines := rfl
@[simp] theorem State.setPart_signals (s : State) (p : Nat) (x : Part) : (s.setPart p x).signals = s.signals := rfl
@[simp] theorem State.setPart_chans (s : State) (p : Nat) (x : Part) : (s.setPart p x).chans = s.chans := rfl
@[simp] theorem State.setPart_sluices (s : State) (p : Nat) (x : Part) : (s.setPart p x).sluices = s.sluices := rfl
@[simp] theorem State.setPart_mem (s : State) (p : Nat) (x : Part) : (s.setPart p x).mem = s.mem := rfl
@[simp] theorem State.setPart_poison (s : State) (p : Nat) (x : Part) : (s.setPart p x).poison = s.poison := rfl
@[simp] theorem State.setPart_far (s : State) (p : Nat) (x : Part) : (s.setPart p x).far = s.far := rfl
@[simp] theorem State.setPart_farPoison (s : State) (p : Nat) (x : Part) : (s.setPart p x).farPoison = s.farPoison := rfl
@[simp] theorem State.setPart_farTries (s : State) (p : Nat) (x : Part) : (s.setPart p x).farTries = s.farTries := rfl
@[simp] theorem State.setPart_ceWin (s : State) (p : Nat) (x : Part) : (s.setPart p x).ceWin = s.ceWin := rfl
@[simp] theorem State.setPart_links (s : State) (p : Nat) (x : Part) : (s.setPart p x).links = s.links := rfl
@[simp] theorem State.setPart_leats (s : State) (p : Nat) (x : Part) : (s.setPart p x).leats = s.leats := rfl
@[simp] theorem State.setPart_weir (s : State) (p : Nat) (x : Part) : (s.setPart p x).weir = s.weir := rfl
@[simp] theorem State.setPart_reqs (s : State) (p : Nat) (x : Part) : (s.setPart p x).reqs = s.reqs := rfl
@[simp] theorem State.setPart_nextTxid (s : State) (p : Nat) (x : Part) : (s.setPart p x).nextTxid = s.nextTxid := rfl
@[simp] theorem State.setPart_selfMsgs (s : State) (p : Nat) (x : Part) : (s.setPart p x).selfMsgs = s.selfMsgs := rfl
@[simp] theorem State.setPart_held (s : State) (p : Nat) (x : Part) : (s.setPart p x).held = s.held := rfl
@[simp] theorem State.setPart_stale (s : State) (p : Nat) (x : Part) : (s.setPart p x).stale = s.stale := rfl
@[simp] theorem State.setPart_ended (s : State) (p : Nat) (x : Part) : (s.setPart p x).ended = s.ended := rfl
@[simp] theorem State.setPart_port (s : State) (p : Nat) (x : Part) : (s.setPart p x).port = s.port := rfl
@[simp] theorem State.setPart_fabrics (s : State) (p : Nat) (x : Part) : (s.setPart p x).fabrics = s.fabrics := rfl
@[simp] theorem State.setPart_endpoints (s : State) (p : Nat) (x : Part) : (s.setPart p x).endpoints = s.endpoints := rfl
@[simp] theorem State.setPart_regions (s : State) (p : Nat) (x : Part) : (s.setPart p x).regions = s.regions := rfl
@[simp] theorem State.setPart_fan (s : State) (p : Nat) (x : Part) : (s.setPart p x).fan = s.fan := rfl
@[simp] theorem State.setPart_power (s : State) (p : Nat) (x : Part) : (s.setPart p x).power = s.power := rfl
@[simp] theorem State.setPart_lostRegions (s : State) (p : Nat) (x : Part) : (s.setPart p x).lostRegions = s.lostRegions := rfl
@[simp] theorem State.setPart_raised (s : State) (p : Nat) (x : Part) : (s.setPart p x).raised = s.raised := rfl
@[simp] theorem State.setPart_logs (s : State) (p : Nat) (x : Part) : (s.setPart p x).logs = s.logs := rfl
@[simp] theorem State.setPart_cfg (s : State) (p : Nat) (x : Part) : (s.setPart p x).cfg = s.cfg := rfl
@[simp] theorem State.setPart_board (s : State) (p : Nat) (x : Part) : (s.setPart p x).board = s.board := rfl
@[simp] theorem State.setPart_module (s : State) (p : Nat) (x : Part) : (s.setPart p x).module = s.module := rfl
@[simp] theorem State.setPart_freeCtr (s : State) (p : Nat) (x : Part) : (s.setPart p x).freeCtr = s.freeCtr := rfl
@[simp] theorem State.rd_setPart (s : State) (p : Nat) (x : Part) (j : Nat) : (s.setPart p x).rd j = s.rd j := rfl
@[simp] theorem State.cell_setPart (s : State) (p : Nat) (x : Part) (j : Nat) : (s.setPart p x).cell j = s.cell j := rfl
@[simp] theorem State.ctr_setPart (s : State) (p : Nat) (x : Part) (j : Nat) : (s.setPart p x).ctr j = s.ctr j := rfl
@[simp] theorem State.chan_setPart (s : State) (p : Nat) (x : Part) (j q : Nat) : (s.setPart p x).chan j q = s.chan j q := rfl
@[simp] theorem State.link_setPart (s : State) (p : Nat) (x : Part) (j : Nat) : (s.setPart p x).link j = s.link j := rfl
@[simp] theorem State.leat_setPart (s : State) (p : Nat) (x : Part) (j : Nat) : (s.setPart p x).leat j = s.leat j := rfl
@[simp] theorem State.fabric_setPart (s : State) (p : Nat) (x : Part) (j : Nat) : (s.setPart p x).fabric j = s.fabric j := rfl
@[simp] theorem State.endpoint_setPart (s : State) (p : Nat) (x : Part) (j : Nat) : (s.setPart p x).endpoint j = s.endpoint j := rfl
@[simp] theorem State.region_setPart (s : State) (p : Nat) (x : Part) (j : Nat) : (s.setPart p x).region j = s.region j := rfl
@[simp] theorem State.memB_setPart (s : State) (p : Nat) (x : Part) (j : Nat) : (s.setPart p x).memB j = s.memB j := rfl
@[simp] theorem State.poisoned_setPart (s : State) (p : Nat) (x : Part) (j : Nat) : (s.setPart p x).poisoned j = s.poisoned j := rfl
@[simp] theorem State.cellPart_setPart (s : State) (p : Nat) (x : Part) (j : Nat) : (s.setPart p x).cellPart j = s.cellPart j := rfl
@[simp] theorem State.partSecure_setPart (s : State) (p : Nat) (x : Part) (j : Nat) : (s.setPart p x).partSecure j = s.partSecure j := rfl

/-! ### setFanEntry -/

@[simp] theorem State.setFanEntry_pending (s : State) (r t : Nat) (x : FanEntry) : (s.setFanEntry r t x).pending = s.pending := rfl
@[simp] theorem State.setFanEntry_regs (s : State) (r t : Nat) (x : FanEntry) : (s.setFanEntry r t x).regs = s.regs := rfl
@[simp] theorem State.setFanEntry_cells (s : State) (r t : Nat) (x : FanEntry) : (s.setFanEntry r t x).cells = s.cells := rfl
@[simp] theorem State.setFanEntry_counters (s : State) (r t : Nat) (x : FanEntry) : (s.setFanEntry r t x).counters = s.counters := rfl
@[simp] theorem State.setFanEntry_lines (s : State) (r t : Nat) (x : FanEntry) : (s.setFanEntry r t x).lines = s.lines := rfl
@[simp] theorem State.setFanEntry_signals (s : State) (r t : Nat) (x : FanEntry) : (s.setFanEntry r t x).signals = s.signals := rfl
@[simp] theorem State.setFanEntry_chans (s : State) (r t : Nat) (x : FanEntry) : (s.setFanEntry r t x).chans = s.chans := rfl
@[simp] theorem State.setFanEntry_sluices (s : State) (r t : Nat) (x : FanEntry) : (s.setFanEntry r t x).sluices = s.sluices := rfl
@[simp] theorem State.setFanEntry_mem (s : State) (r t : Nat) (x : FanEntry) : (s.setFanEntry r t x).mem = s.mem := rfl
@[simp] theorem State.setFanEntry_poison (s : State) (r t : Nat) (x : FanEntry) : (s.setFanEntry r t x).poison = s.poison := rfl
@[simp] theorem State.setFanEntry_far (s : State) (r t : Nat) (x : FanEntry) : (s.setFanEntry r t x).far = s.far := rfl
@[simp] theorem State.setFanEntry_farPoison (s : State) (r t : Nat) (x : FanEntry) : (s.setFanEntry r t x).farPoison = s.farPoison := rfl
@[simp] theorem State.setFanEntry_farTries (s : State) (r t : Nat) (x : FanEntry) : (s.setFanEntry r t x).farTries = s.farTries := rfl
@[simp] theorem State.setFanEntry_ceWin (s : State) (r t : Nat) (x : FanEntry) : (s.setFanEntry r t x).ceWin = s.ceWin := rfl
@[simp] theorem State.setFanEntry_links (s : State) (r t : Nat) (x : FanEntry) : (s.setFanEntry r t x).links = s.links := rfl
@[simp] theorem State.setFanEntry_leats (s : State) (r t : Nat) (x : FanEntry) : (s.setFanEntry r t x).leats = s.leats := rfl
@[simp] theorem State.setFanEntry_weir (s : State) (r t : Nat) (x : FanEntry) : (s.setFanEntry r t x).weir = s.weir := rfl
@[simp] theorem State.setFanEntry_reqs (s : State) (r t : Nat) (x : FanEntry) : (s.setFanEntry r t x).reqs = s.reqs := rfl
@[simp] theorem State.setFanEntry_nextTxid (s : State) (r t : Nat) (x : FanEntry) : (s.setFanEntry r t x).nextTxid = s.nextTxid := rfl
@[simp] theorem State.setFanEntry_selfMsgs (s : State) (r t : Nat) (x : FanEntry) : (s.setFanEntry r t x).selfMsgs = s.selfMsgs := rfl
@[simp] theorem State.setFanEntry_held (s : State) (r t : Nat) (x : FanEntry) : (s.setFanEntry r t x).held = s.held := rfl
@[simp] theorem State.setFanEntry_stale (s : State) (r t : Nat) (x : FanEntry) : (s.setFanEntry r t x).stale = s.stale := rfl
@[simp] theorem State.setFanEntry_ended (s : State) (r t : Nat) (x : FanEntry) : (s.setFanEntry r t x).ended = s.ended := rfl
@[simp] theorem State.setFanEntry_port (s : State) (r t : Nat) (x : FanEntry) : (s.setFanEntry r t x).port = s.port := rfl
@[simp] theorem State.setFanEntry_fabrics (s : State) (r t : Nat) (x : FanEntry) : (s.setFanEntry r t x).fabrics = s.fabrics := rfl
@[simp] theorem State.setFanEntry_endpoints (s : State) (r t : Nat) (x : FanEntry) : (s.setFanEntry r t x).endpoints = s.endpoints := rfl
@[simp] theorem State.setFanEntry_regions (s : State) (r t : Nat) (x : FanEntry) : (s.setFanEntry r t x).regions = s.regions := rfl
@[simp] theorem State.setFanEntry_power (s : State) (r t : Nat) (x : FanEntry) : (s.setFanEntry r t x).power = s.power := rfl
@[simp] theorem State.setFanEntry_parts (s : State) (r t : Nat) (x : FanEntry) : (s.setFanEntry r t x).parts = s.parts := rfl
@[simp] theorem State.setFanEntry_lostRegions (s : State) (r t : Nat) (x : FanEntry) : (s.setFanEntry r t x).lostRegions = s.lostRegions := rfl
@[simp] theorem State.setFanEntry_raised (s : State) (r t : Nat) (x : FanEntry) : (s.setFanEntry r t x).raised = s.raised := rfl
@[simp] theorem State.setFanEntry_logs (s : State) (r t : Nat) (x : FanEntry) : (s.setFanEntry r t x).logs = s.logs := rfl
@[simp] theorem State.setFanEntry_cfg (s : State) (r t : Nat) (x : FanEntry) : (s.setFanEntry r t x).cfg = s.cfg := rfl
@[simp] theorem State.setFanEntry_board (s : State) (r t : Nat) (x : FanEntry) : (s.setFanEntry r t x).board = s.board := rfl
@[simp] theorem State.setFanEntry_module (s : State) (r t : Nat) (x : FanEntry) : (s.setFanEntry r t x).module = s.module := rfl
@[simp] theorem State.setFanEntry_freeCtr (s : State) (r t : Nat) (x : FanEntry) : (s.setFanEntry r t x).freeCtr = s.freeCtr := rfl
@[simp] theorem State.rd_setFanEntry (s : State) (r t : Nat) (x : FanEntry) (j : Nat) : (s.setFanEntry r t x).rd j = s.rd j := rfl
@[simp] theorem State.cell_setFanEntry (s : State) (r t : Nat) (x : FanEntry) (j : Nat) : (s.setFanEntry r t x).cell j = s.cell j := rfl
@[simp] theorem State.ctr_setFanEntry (s : State) (r t : Nat) (x : FanEntry) (j : Nat) : (s.setFanEntry r t x).ctr j = s.ctr j := rfl
@[simp] theorem State.chan_setFanEntry (s : State) (r t : Nat) (x : FanEntry) (j q : Nat) : (s.setFanEntry r t x).chan j q = s.chan j q := rfl
@[simp] theorem State.link_setFanEntry (s : State) (r t : Nat) (x : FanEntry) (j : Nat) : (s.setFanEntry r t x).link j = s.link j := rfl
@[simp] theorem State.leat_setFanEntry (s : State) (r t : Nat) (x : FanEntry) (j : Nat) : (s.setFanEntry r t x).leat j = s.leat j := rfl
@[simp] theorem State.fabric_setFanEntry (s : State) (r t : Nat) (x : FanEntry) (j : Nat) : (s.setFanEntry r t x).fabric j = s.fabric j := rfl
@[simp] theorem State.endpoint_setFanEntry (s : State) (r t : Nat) (x : FanEntry) (j : Nat) : (s.setFanEntry r t x).endpoint j = s.endpoint j := rfl
@[simp] theorem State.region_setFanEntry (s : State) (r t : Nat) (x : FanEntry) (j : Nat) : (s.setFanEntry r t x).region j = s.region j := rfl
@[simp] theorem State.part_setFanEntry (s : State) (r t : Nat) (x : FanEntry) (j : Nat) : (s.setFanEntry r t x).part j = s.part j := rfl
@[simp] theorem State.memB_setFanEntry (s : State) (r t : Nat) (x : FanEntry) (j : Nat) : (s.setFanEntry r t x).memB j = s.memB j := rfl
@[simp] theorem State.poisoned_setFanEntry (s : State) (r t : Nat) (x : FanEntry) (j : Nat) : (s.setFanEntry r t x).poisoned j = s.poisoned j := rfl
@[simp] theorem State.cellPart_setFanEntry (s : State) (r t : Nat) (x : FanEntry) (j : Nat) : (s.setFanEntry r t x).cellPart j = s.cellPart j := rfl
@[simp] theorem State.partSecure_setFanEntry (s : State) (r t : Nat) (x : FanEntry) (j : Nat) : (s.setFanEntry r t x).partSecure j = s.partSecure j := rfl

/-! ### setLog -/

@[simp] theorem State.setLog_pending (s : State) (p : Nat) (x : List LogRec) : (s.setLog p x).pending = s.pending := rfl
@[simp] theorem State.setLog_regs (s : State) (p : Nat) (x : List LogRec) : (s.setLog p x).regs = s.regs := rfl
@[simp] theorem State.setLog_cells (s : State) (p : Nat) (x : List LogRec) : (s.setLog p x).cells = s.cells := rfl
@[simp] theorem State.setLog_counters (s : State) (p : Nat) (x : List LogRec) : (s.setLog p x).counters = s.counters := rfl
@[simp] theorem State.setLog_lines (s : State) (p : Nat) (x : List LogRec) : (s.setLog p x).lines = s.lines := rfl
@[simp] theorem State.setLog_signals (s : State) (p : Nat) (x : List LogRec) : (s.setLog p x).signals = s.signals := rfl
@[simp] theorem State.setLog_chans (s : State) (p : Nat) (x : List LogRec) : (s.setLog p x).chans = s.chans := rfl
@[simp] theorem State.setLog_sluices (s : State) (p : Nat) (x : List LogRec) : (s.setLog p x).sluices = s.sluices := rfl
@[simp] theorem State.setLog_mem (s : State) (p : Nat) (x : List LogRec) : (s.setLog p x).mem = s.mem := rfl
@[simp] theorem State.setLog_poison (s : State) (p : Nat) (x : List LogRec) : (s.setLog p x).poison = s.poison := rfl
@[simp] theorem State.setLog_far (s : State) (p : Nat) (x : List LogRec) : (s.setLog p x).far = s.far := rfl
@[simp] theorem State.setLog_farPoison (s : State) (p : Nat) (x : List LogRec) : (s.setLog p x).farPoison = s.farPoison := rfl
@[simp] theorem State.setLog_farTries (s : State) (p : Nat) (x : List LogRec) : (s.setLog p x).farTries = s.farTries := rfl
@[simp] theorem State.setLog_ceWin (s : State) (p : Nat) (x : List LogRec) : (s.setLog p x).ceWin = s.ceWin := rfl
@[simp] theorem State.setLog_links (s : State) (p : Nat) (x : List LogRec) : (s.setLog p x).links = s.links := rfl
@[simp] theorem State.setLog_leats (s : State) (p : Nat) (x : List LogRec) : (s.setLog p x).leats = s.leats := rfl
@[simp] theorem State.setLog_weir (s : State) (p : Nat) (x : List LogRec) : (s.setLog p x).weir = s.weir := rfl
@[simp] theorem State.setLog_reqs (s : State) (p : Nat) (x : List LogRec) : (s.setLog p x).reqs = s.reqs := rfl
@[simp] theorem State.setLog_nextTxid (s : State) (p : Nat) (x : List LogRec) : (s.setLog p x).nextTxid = s.nextTxid := rfl
@[simp] theorem State.setLog_selfMsgs (s : State) (p : Nat) (x : List LogRec) : (s.setLog p x).selfMsgs = s.selfMsgs := rfl
@[simp] theorem State.setLog_held (s : State) (p : Nat) (x : List LogRec) : (s.setLog p x).held = s.held := rfl
@[simp] theorem State.setLog_stale (s : State) (p : Nat) (x : List LogRec) : (s.setLog p x).stale = s.stale := rfl
@[simp] theorem State.setLog_ended (s : State) (p : Nat) (x : List LogRec) : (s.setLog p x).ended = s.ended := rfl
@[simp] theorem State.setLog_port (s : State) (p : Nat) (x : List LogRec) : (s.setLog p x).port = s.port := rfl
@[simp] theorem State.setLog_fabrics (s : State) (p : Nat) (x : List LogRec) : (s.setLog p x).fabrics = s.fabrics := rfl
@[simp] theorem State.setLog_endpoints (s : State) (p : Nat) (x : List LogRec) : (s.setLog p x).endpoints = s.endpoints := rfl
@[simp] theorem State.setLog_regions (s : State) (p : Nat) (x : List LogRec) : (s.setLog p x).regions = s.regions := rfl
@[simp] theorem State.setLog_fan (s : State) (p : Nat) (x : List LogRec) : (s.setLog p x).fan = s.fan := rfl
@[simp] theorem State.setLog_power (s : State) (p : Nat) (x : List LogRec) : (s.setLog p x).power = s.power := rfl
@[simp] theorem State.setLog_parts (s : State) (p : Nat) (x : List LogRec) : (s.setLog p x).parts = s.parts := rfl
@[simp] theorem State.setLog_lostRegions (s : State) (p : Nat) (x : List LogRec) : (s.setLog p x).lostRegions = s.lostRegions := rfl
@[simp] theorem State.setLog_raised (s : State) (p : Nat) (x : List LogRec) : (s.setLog p x).raised = s.raised := rfl
@[simp] theorem State.setLog_cfg (s : State) (p : Nat) (x : List LogRec) : (s.setLog p x).cfg = s.cfg := rfl
@[simp] theorem State.setLog_board (s : State) (p : Nat) (x : List LogRec) : (s.setLog p x).board = s.board := rfl
@[simp] theorem State.setLog_module (s : State) (p : Nat) (x : List LogRec) : (s.setLog p x).module = s.module := rfl
@[simp] theorem State.setLog_freeCtr (s : State) (p : Nat) (x : List LogRec) : (s.setLog p x).freeCtr = s.freeCtr := rfl
@[simp] theorem State.rd_setLog (s : State) (p : Nat) (x : List LogRec) (j : Nat) : (s.setLog p x).rd j = s.rd j := rfl
@[simp] theorem State.cell_setLog (s : State) (p : Nat) (x : List LogRec) (j : Nat) : (s.setLog p x).cell j = s.cell j := rfl
@[simp] theorem State.ctr_setLog (s : State) (p : Nat) (x : List LogRec) (j : Nat) : (s.setLog p x).ctr j = s.ctr j := rfl
@[simp] theorem State.chan_setLog (s : State) (p : Nat) (x : List LogRec) (j q : Nat) : (s.setLog p x).chan j q = s.chan j q := rfl
@[simp] theorem State.link_setLog (s : State) (p : Nat) (x : List LogRec) (j : Nat) : (s.setLog p x).link j = s.link j := rfl
@[simp] theorem State.leat_setLog (s : State) (p : Nat) (x : List LogRec) (j : Nat) : (s.setLog p x).leat j = s.leat j := rfl
@[simp] theorem State.fabric_setLog (s : State) (p : Nat) (x : List LogRec) (j : Nat) : (s.setLog p x).fabric j = s.fabric j := rfl
@[simp] theorem State.endpoint_setLog (s : State) (p : Nat) (x : List LogRec) (j : Nat) : (s.setLog p x).endpoint j = s.endpoint j := rfl
@[simp] theorem State.region_setLog (s : State) (p : Nat) (x : List LogRec) (j : Nat) : (s.setLog p x).region j = s.region j := rfl
@[simp] theorem State.part_setLog (s : State) (p : Nat) (x : List LogRec) (j : Nat) : (s.setLog p x).part j = s.part j := rfl
@[simp] theorem State.memB_setLog (s : State) (p : Nat) (x : List LogRec) (j : Nat) : (s.setLog p x).memB j = s.memB j := rfl
@[simp] theorem State.poisoned_setLog (s : State) (p : Nat) (x : List LogRec) (j : Nat) : (s.setLog p x).poisoned j = s.poisoned j := rfl
@[simp] theorem State.cellPart_setLog (s : State) (p : Nat) (x : List LogRec) (j : Nat) : (s.setLog p x).cellPart j = s.cellPart j := rfl
@[simp] theorem State.partSecure_setLog (s : State) (p : Nat) (x : List LogRec) (j : Nat) : (s.setLog p x).partSecure j = s.partSecure j := rfl

/-! ### wr -/

@[simp] theorem State.wr_pending (s : State) (o : Nat) (v : Word64) : (s.wr o v).pending = s.pending := by cases s; rfl
@[simp] theorem State.wr_cells (s : State) (o : Nat) (v : Word64) : (s.wr o v).cells = s.cells := by cases s; rfl
@[simp] theorem State.wr_counters (s : State) (o : Nat) (v : Word64) : (s.wr o v).counters = s.counters := by cases s; rfl
@[simp] theorem State.wr_lines (s : State) (o : Nat) (v : Word64) : (s.wr o v).lines = s.lines := by cases s; rfl
@[simp] theorem State.wr_signals (s : State) (o : Nat) (v : Word64) : (s.wr o v).signals = s.signals := by cases s; rfl
@[simp] theorem State.wr_chans (s : State) (o : Nat) (v : Word64) : (s.wr o v).chans = s.chans := by cases s; rfl
@[simp] theorem State.wr_sluices (s : State) (o : Nat) (v : Word64) : (s.wr o v).sluices = s.sluices := by cases s; rfl
@[simp] theorem State.wr_mem (s : State) (o : Nat) (v : Word64) : (s.wr o v).mem = s.mem := by cases s; rfl
@[simp] theorem State.wr_poison (s : State) (o : Nat) (v : Word64) : (s.wr o v).poison = s.poison := by cases s; rfl
@[simp] theorem State.wr_far (s : State) (o : Nat) (v : Word64) : (s.wr o v).far = s.far := by cases s; rfl
@[simp] theorem State.wr_farPoison (s : State) (o : Nat) (v : Word64) : (s.wr o v).farPoison = s.farPoison := by cases s; rfl
@[simp] theorem State.wr_farTries (s : State) (o : Nat) (v : Word64) : (s.wr o v).farTries = s.farTries := by cases s; rfl
@[simp] theorem State.wr_ceWin (s : State) (o : Nat) (v : Word64) : (s.wr o v).ceWin = s.ceWin := by cases s; rfl
@[simp] theorem State.wr_links (s : State) (o : Nat) (v : Word64) : (s.wr o v).links = s.links := by cases s; rfl
@[simp] theorem State.wr_leats (s : State) (o : Nat) (v : Word64) : (s.wr o v).leats = s.leats := by cases s; rfl
@[simp] theorem State.wr_weir (s : State) (o : Nat) (v : Word64) : (s.wr o v).weir = s.weir := by cases s; rfl
@[simp] theorem State.wr_reqs (s : State) (o : Nat) (v : Word64) : (s.wr o v).reqs = s.reqs := by cases s; rfl
@[simp] theorem State.wr_nextTxid (s : State) (o : Nat) (v : Word64) : (s.wr o v).nextTxid = s.nextTxid := by cases s; rfl
@[simp] theorem State.wr_selfMsgs (s : State) (o : Nat) (v : Word64) : (s.wr o v).selfMsgs = s.selfMsgs := by cases s; rfl
@[simp] theorem State.wr_held (s : State) (o : Nat) (v : Word64) : (s.wr o v).held = s.held := by cases s; rfl
@[simp] theorem State.wr_stale (s : State) (o : Nat) (v : Word64) : (s.wr o v).stale = s.stale := by cases s; rfl
@[simp] theorem State.wr_ended (s : State) (o : Nat) (v : Word64) : (s.wr o v).ended = s.ended := by cases s; rfl
@[simp] theorem State.wr_port (s : State) (o : Nat) (v : Word64) : (s.wr o v).port = s.port := by cases s; rfl
@[simp] theorem State.wr_fabrics (s : State) (o : Nat) (v : Word64) : (s.wr o v).fabrics = s.fabrics := by cases s; rfl
@[simp] theorem State.wr_endpoints (s : State) (o : Nat) (v : Word64) : (s.wr o v).endpoints = s.endpoints := by cases s; rfl
@[simp] theorem State.wr_regions (s : State) (o : Nat) (v : Word64) : (s.wr o v).regions = s.regions := by cases s; rfl
@[simp] theorem State.wr_fan (s : State) (o : Nat) (v : Word64) : (s.wr o v).fan = s.fan := by cases s; rfl
@[simp] theorem State.wr_power (s : State) (o : Nat) (v : Word64) : (s.wr o v).power = s.power := by cases s; rfl
@[simp] theorem State.wr_parts (s : State) (o : Nat) (v : Word64) : (s.wr o v).parts = s.parts := by cases s; rfl
@[simp] theorem State.wr_lostRegions (s : State) (o : Nat) (v : Word64) : (s.wr o v).lostRegions = s.lostRegions := by cases s; rfl
@[simp] theorem State.wr_raised (s : State) (o : Nat) (v : Word64) : (s.wr o v).raised = s.raised := by cases s; rfl
@[simp] theorem State.wr_logs (s : State) (o : Nat) (v : Word64) : (s.wr o v).logs = s.logs := by cases s; rfl
@[simp] theorem State.wr_cfg (s : State) (o : Nat) (v : Word64) : (s.wr o v).cfg = s.cfg := by cases s; rfl
@[simp] theorem State.wr_board (s : State) (o : Nat) (v : Word64) : (s.wr o v).board = s.board := by cases s; rfl
@[simp] theorem State.wr_module (s : State) (o : Nat) (v : Word64) : (s.wr o v).module = s.module := by cases s; rfl
@[simp] theorem State.wr_freeCtr (s : State) (o : Nat) (v : Word64) : (s.wr o v).freeCtr = s.freeCtr := by cases s; rfl
@[simp] theorem State.cell_wr (s : State) (o : Nat) (v : Word64) (j : Nat) : (s.wr o v).cell j = s.cell j := by cases s; rfl
@[simp] theorem State.ctr_wr (s : State) (o : Nat) (v : Word64) (j : Nat) : (s.wr o v).ctr j = s.ctr j := by cases s; rfl
@[simp] theorem State.chan_wr (s : State) (o : Nat) (v : Word64) (j q : Nat) : (s.wr o v).chan j q = s.chan j q := by cases s; rfl
@[simp] theorem State.link_wr (s : State) (o : Nat) (v : Word64) (j : Nat) : (s.wr o v).link j = s.link j := by cases s; rfl
@[simp] theorem State.leat_wr (s : State) (o : Nat) (v : Word64) (j : Nat) : (s.wr o v).leat j = s.leat j := by cases s; rfl
@[simp] theorem State.fabric_wr (s : State) (o : Nat) (v : Word64) (j : Nat) : (s.wr o v).fabric j = s.fabric j := by cases s; rfl
@[simp] theorem State.endpoint_wr (s : State) (o : Nat) (v : Word64) (j : Nat) : (s.wr o v).endpoint j = s.endpoint j := by cases s; rfl
@[simp] theorem State.region_wr (s : State) (o : Nat) (v : Word64) (j : Nat) : (s.wr o v).region j = s.region j := by cases s; rfl
@[simp] theorem State.part_wr (s : State) (o : Nat) (v : Word64) (j : Nat) : (s.wr o v).part j = s.part j := by cases s; rfl
@[simp] theorem State.memB_wr (s : State) (o : Nat) (v : Word64) (j : Nat) : (s.wr o v).memB j = s.memB j := by cases s; rfl
@[simp] theorem State.poisoned_wr (s : State) (o : Nat) (v : Word64) (j : Nat) : (s.wr o v).poisoned j = s.poisoned j := by cases s; rfl
@[simp] theorem State.cellPart_wr (s : State) (o : Nat) (v : Word64) (j : Nat) : (s.wr o v).cellPart j = s.cellPart j := by cases s; rfl
@[simp] theorem State.partSecure_wr (s : State) (o : Nat) (v : Word64) (j : Nat) : (s.wr o v).partSecure j = s.partSecure j := by cases s; rfl

/-! ### wf -/

@[simp] theorem State.wf_pending (s : State) (o hi lo n : Nat) : (s.wf o hi lo n).pending = s.pending := by cases s; rfl
@[simp] theorem State.wf_cells (s : State) (o hi lo n : Nat) : (s.wf o hi lo n).cells = s.cells := by cases s; rfl
@[simp] theorem State.wf_counters (s : State) (o hi lo n : Nat) : (s.wf o hi lo n).counters = s.counters := by cases s; rfl
@[simp] theorem State.wf_lines (s : State) (o hi lo n : Nat) : (s.wf o hi lo n).lines = s.lines := by cases s; rfl
@[simp] theorem State.wf_signals (s : State) (o hi lo n : Nat) : (s.wf o hi lo n).signals = s.signals := by cases s; rfl
@[simp] theorem State.wf_chans (s : State) (o hi lo n : Nat) : (s.wf o hi lo n).chans = s.chans := by cases s; rfl
@[simp] theorem State.wf_sluices (s : State) (o hi lo n : Nat) : (s.wf o hi lo n).sluices = s.sluices := by cases s; rfl
@[simp] theorem State.wf_mem (s : State) (o hi lo n : Nat) : (s.wf o hi lo n).mem = s.mem := by cases s; rfl
@[simp] theorem State.wf_poison (s : State) (o hi lo n : Nat) : (s.wf o hi lo n).poison = s.poison := by cases s; rfl
@[simp] theorem State.wf_far (s : State) (o hi lo n : Nat) : (s.wf o hi lo n).far = s.far := by cases s; rfl
@[simp] theorem State.wf_farPoison (s : State) (o hi lo n : Nat) : (s.wf o hi lo n).farPoison = s.farPoison := by cases s; rfl
@[simp] theorem State.wf_farTries (s : State) (o hi lo n : Nat) : (s.wf o hi lo n).farTries = s.farTries := by cases s; rfl
@[simp] theorem State.wf_ceWin (s : State) (o hi lo n : Nat) : (s.wf o hi lo n).ceWin = s.ceWin := by cases s; rfl
@[simp] theorem State.wf_links (s : State) (o hi lo n : Nat) : (s.wf o hi lo n).links = s.links := by cases s; rfl
@[simp] theorem State.wf_leats (s : State) (o hi lo n : Nat) : (s.wf o hi lo n).leats = s.leats := by cases s; rfl
@[simp] theorem State.wf_weir (s : State) (o hi lo n : Nat) : (s.wf o hi lo n).weir = s.weir := by cases s; rfl
@[simp] theorem State.wf_reqs (s : State) (o hi lo n : Nat) : (s.wf o hi lo n).reqs = s.reqs := by cases s; rfl
@[simp] theorem State.wf_nextTxid (s : State) (o hi lo n : Nat) : (s.wf o hi lo n).nextTxid = s.nextTxid := by cases s; rfl
@[simp] theorem State.wf_selfMsgs (s : State) (o hi lo n : Nat) : (s.wf o hi lo n).selfMsgs = s.selfMsgs := by cases s; rfl
@[simp] theorem State.wf_held (s : State) (o hi lo n : Nat) : (s.wf o hi lo n).held = s.held := by cases s; rfl
@[simp] theorem State.wf_stale (s : State) (o hi lo n : Nat) : (s.wf o hi lo n).stale = s.stale := by cases s; rfl
@[simp] theorem State.wf_ended (s : State) (o hi lo n : Nat) : (s.wf o hi lo n).ended = s.ended := by cases s; rfl
@[simp] theorem State.wf_port (s : State) (o hi lo n : Nat) : (s.wf o hi lo n).port = s.port := by cases s; rfl
@[simp] theorem State.wf_fabrics (s : State) (o hi lo n : Nat) : (s.wf o hi lo n).fabrics = s.fabrics := by cases s; rfl
@[simp] theorem State.wf_endpoints (s : State) (o hi lo n : Nat) : (s.wf o hi lo n).endpoints = s.endpoints := by cases s; rfl
@[simp] theorem State.wf_regions (s : State) (o hi lo n : Nat) : (s.wf o hi lo n).regions = s.regions := by cases s; rfl
@[simp] theorem State.wf_fan (s : State) (o hi lo n : Nat) : (s.wf o hi lo n).fan = s.fan := by cases s; rfl
@[simp] theorem State.wf_power (s : State) (o hi lo n : Nat) : (s.wf o hi lo n).power = s.power := by cases s; rfl
@[simp] theorem State.wf_parts (s : State) (o hi lo n : Nat) : (s.wf o hi lo n).parts = s.parts := by cases s; rfl
@[simp] theorem State.wf_lostRegions (s : State) (o hi lo n : Nat) : (s.wf o hi lo n).lostRegions = s.lostRegions := by cases s; rfl
@[simp] theorem State.wf_raised (s : State) (o hi lo n : Nat) : (s.wf o hi lo n).raised = s.raised := by cases s; rfl
@[simp] theorem State.wf_logs (s : State) (o hi lo n : Nat) : (s.wf o hi lo n).logs = s.logs := by cases s; rfl
@[simp] theorem State.wf_cfg (s : State) (o hi lo n : Nat) : (s.wf o hi lo n).cfg = s.cfg := by cases s; rfl
@[simp] theorem State.wf_board (s : State) (o hi lo n : Nat) : (s.wf o hi lo n).board = s.board := by cases s; rfl
@[simp] theorem State.wf_module (s : State) (o hi lo n : Nat) : (s.wf o hi lo n).module = s.module := by cases s; rfl
@[simp] theorem State.wf_freeCtr (s : State) (o hi lo n : Nat) : (s.wf o hi lo n).freeCtr = s.freeCtr := by cases s; rfl
@[simp] theorem State.cell_wf (s : State) (o hi lo n : Nat) (j : Nat) : (s.wf o hi lo n).cell j = s.cell j := by cases s; rfl
@[simp] theorem State.ctr_wf (s : State) (o hi lo n : Nat) (j : Nat) : (s.wf o hi lo n).ctr j = s.ctr j := by cases s; rfl
@[simp] theorem State.chan_wf (s : State) (o hi lo n : Nat) (j q : Nat) : (s.wf o hi lo n).chan j q = s.chan j q := by cases s; rfl
@[simp] theorem State.link_wf (s : State) (o hi lo n : Nat) (j : Nat) : (s.wf o hi lo n).link j = s.link j := by cases s; rfl
@[simp] theorem State.leat_wf (s : State) (o hi lo n : Nat) (j : Nat) : (s.wf o hi lo n).leat j = s.leat j := by cases s; rfl
@[simp] theorem State.fabric_wf (s : State) (o hi lo n : Nat) (j : Nat) : (s.wf o hi lo n).fabric j = s.fabric j := by cases s; rfl
@[simp] theorem State.endpoint_wf (s : State) (o hi lo n : Nat) (j : Nat) : (s.wf o hi lo n).endpoint j = s.endpoint j := by cases s; rfl
@[simp] theorem State.region_wf (s : State) (o hi lo n : Nat) (j : Nat) : (s.wf o hi lo n).region j = s.region j := by cases s; rfl
@[simp] theorem State.part_wf (s : State) (o hi lo n : Nat) (j : Nat) : (s.wf o hi lo n).part j = s.part j := by cases s; rfl
@[simp] theorem State.memB_wf (s : State) (o hi lo n : Nat) (j : Nat) : (s.wf o hi lo n).memB j = s.memB j := by cases s; rfl
@[simp] theorem State.poisoned_wf (s : State) (o hi lo n : Nat) (j : Nat) : (s.wf o hi lo n).poisoned j = s.poisoned j := by cases s; rfl
@[simp] theorem State.cellPart_wf (s : State) (o hi lo n : Nat) (j : Nat) : (s.wf o hi lo n).cellPart j = s.cellPart j := by cases s; rfl
@[simp] theorem State.partSecure_wf (s : State) (o hi lo n : Nat) (j : Nat) : (s.wf o hi lo n).partSecure j = s.partSecure j := by cases s; rfl

/-! ### wb -/

@[simp] theorem State.wb_pending (s : State) (o i : Nat) (b : Bool) : (s.wb o i b).pending = s.pending := by cases s; rfl
@[simp] theorem State.wb_cells (s : State) (o i : Nat) (b : Bool) : (s.wb o i b).cells = s.cells := by cases s; rfl
@[simp] theorem State.wb_counters (s : State) (o i : Nat) (b : Bool) : (s.wb o i b).counters = s.counters := by cases s; rfl
@[simp] theorem State.wb_lines (s : State) (o i : Nat) (b : Bool) : (s.wb o i b).lines = s.lines := by cases s; rfl
@[simp] theorem State.wb_signals (s : State) (o i : Nat) (b : Bool) : (s.wb o i b).signals = s.signals := by cases s; rfl
@[simp] theorem State.wb_chans (s : State) (o i : Nat) (b : Bool) : (s.wb o i b).chans = s.chans := by cases s; rfl
@[simp] theorem State.wb_sluices (s : State) (o i : Nat) (b : Bool) : (s.wb o i b).sluices = s.sluices := by cases s; rfl
@[simp] theorem State.wb_mem (s : State) (o i : Nat) (b : Bool) : (s.wb o i b).mem = s.mem := by cases s; rfl
@[simp] theorem State.wb_poison (s : State) (o i : Nat) (b : Bool) : (s.wb o i b).poison = s.poison := by cases s; rfl
@[simp] theorem State.wb_far (s : State) (o i : Nat) (b : Bool) : (s.wb o i b).far = s.far := by cases s; rfl
@[simp] theorem State.wb_farPoison (s : State) (o i : Nat) (b : Bool) : (s.wb o i b).farPoison = s.farPoison := by cases s; rfl
@[simp] theorem State.wb_farTries (s : State) (o i : Nat) (b : Bool) : (s.wb o i b).farTries = s.farTries := by cases s; rfl
@[simp] theorem State.wb_ceWin (s : State) (o i : Nat) (b : Bool) : (s.wb o i b).ceWin = s.ceWin := by cases s; rfl
@[simp] theorem State.wb_links (s : State) (o i : Nat) (b : Bool) : (s.wb o i b).links = s.links := by cases s; rfl
@[simp] theorem State.wb_leats (s : State) (o i : Nat) (b : Bool) : (s.wb o i b).leats = s.leats := by cases s; rfl
@[simp] theorem State.wb_weir (s : State) (o i : Nat) (b : Bool) : (s.wb o i b).weir = s.weir := by cases s; rfl
@[simp] theorem State.wb_reqs (s : State) (o i : Nat) (b : Bool) : (s.wb o i b).reqs = s.reqs := by cases s; rfl
@[simp] theorem State.wb_nextTxid (s : State) (o i : Nat) (b : Bool) : (s.wb o i b).nextTxid = s.nextTxid := by cases s; rfl
@[simp] theorem State.wb_selfMsgs (s : State) (o i : Nat) (b : Bool) : (s.wb o i b).selfMsgs = s.selfMsgs := by cases s; rfl
@[simp] theorem State.wb_held (s : State) (o i : Nat) (b : Bool) : (s.wb o i b).held = s.held := by cases s; rfl
@[simp] theorem State.wb_stale (s : State) (o i : Nat) (b : Bool) : (s.wb o i b).stale = s.stale := by cases s; rfl
@[simp] theorem State.wb_ended (s : State) (o i : Nat) (b : Bool) : (s.wb o i b).ended = s.ended := by cases s; rfl
@[simp] theorem State.wb_port (s : State) (o i : Nat) (b : Bool) : (s.wb o i b).port = s.port := by cases s; rfl
@[simp] theorem State.wb_fabrics (s : State) (o i : Nat) (b : Bool) : (s.wb o i b).fabrics = s.fabrics := by cases s; rfl
@[simp] theorem State.wb_endpoints (s : State) (o i : Nat) (b : Bool) : (s.wb o i b).endpoints = s.endpoints := by cases s; rfl
@[simp] theorem State.wb_regions (s : State) (o i : Nat) (b : Bool) : (s.wb o i b).regions = s.regions := by cases s; rfl
@[simp] theorem State.wb_fan (s : State) (o i : Nat) (b : Bool) : (s.wb o i b).fan = s.fan := by cases s; rfl
@[simp] theorem State.wb_power (s : State) (o i : Nat) (b : Bool) : (s.wb o i b).power = s.power := by cases s; rfl
@[simp] theorem State.wb_parts (s : State) (o i : Nat) (b : Bool) : (s.wb o i b).parts = s.parts := by cases s; rfl
@[simp] theorem State.wb_lostRegions (s : State) (o i : Nat) (b : Bool) : (s.wb o i b).lostRegions = s.lostRegions := by cases s; rfl
@[simp] theorem State.wb_raised (s : State) (o i : Nat) (b : Bool) : (s.wb o i b).raised = s.raised := by cases s; rfl
@[simp] theorem State.wb_logs (s : State) (o i : Nat) (b : Bool) : (s.wb o i b).logs = s.logs := by cases s; rfl
@[simp] theorem State.wb_cfg (s : State) (o i : Nat) (b : Bool) : (s.wb o i b).cfg = s.cfg := by cases s; rfl
@[simp] theorem State.wb_board (s : State) (o i : Nat) (b : Bool) : (s.wb o i b).board = s.board := by cases s; rfl
@[simp] theorem State.wb_module (s : State) (o i : Nat) (b : Bool) : (s.wb o i b).module = s.module := by cases s; rfl
@[simp] theorem State.wb_freeCtr (s : State) (o i : Nat) (b : Bool) : (s.wb o i b).freeCtr = s.freeCtr := by cases s; rfl
@[simp] theorem State.cell_wb (s : State) (o i : Nat) (b : Bool) (j : Nat) : (s.wb o i b).cell j = s.cell j := by cases s; rfl
@[simp] theorem State.ctr_wb (s : State) (o i : Nat) (b : Bool) (j : Nat) : (s.wb o i b).ctr j = s.ctr j := by cases s; rfl
@[simp] theorem State.chan_wb (s : State) (o i : Nat) (b : Bool) (j q : Nat) : (s.wb o i b).chan j q = s.chan j q := by cases s; rfl
@[simp] theorem State.link_wb (s : State) (o i : Nat) (b : Bool) (j : Nat) : (s.wb o i b).link j = s.link j := by cases s; rfl
@[simp] theorem State.leat_wb (s : State) (o i : Nat) (b : Bool) (j : Nat) : (s.wb o i b).leat j = s.leat j := by cases s; rfl
@[simp] theorem State.fabric_wb (s : State) (o i : Nat) (b : Bool) (j : Nat) : (s.wb o i b).fabric j = s.fabric j := by cases s; rfl
@[simp] theorem State.endpoint_wb (s : State) (o i : Nat) (b : Bool) (j : Nat) : (s.wb o i b).endpoint j = s.endpoint j := by cases s; rfl
@[simp] theorem State.region_wb (s : State) (o i : Nat) (b : Bool) (j : Nat) : (s.wb o i b).region j = s.region j := by cases s; rfl
@[simp] theorem State.part_wb (s : State) (o i : Nat) (b : Bool) (j : Nat) : (s.wb o i b).part j = s.part j := by cases s; rfl
@[simp] theorem State.memB_wb (s : State) (o i : Nat) (b : Bool) (j : Nat) : (s.wb o i b).memB j = s.memB j := by cases s; rfl
@[simp] theorem State.poisoned_wb (s : State) (o i : Nat) (b : Bool) (j : Nat) : (s.wb o i b).poisoned j = s.poisoned j := by cases s; rfl
@[simp] theorem State.cellPart_wb (s : State) (o i : Nat) (b : Bool) (j : Nat) : (s.wb o i b).cellPart j = s.cellPart j := by cases s; rfl
@[simp] theorem State.partSecure_wb (s : State) (o i : Nat) (b : Bool) (j : Nat) : (s.wb o i b).partSecure j = s.partSecure j := by cases s; rfl

/-! ### bump -/

@[simp] theorem State.bump_pending (s : State) (o hi lo n : Nat) : (s.bump o hi lo n).pending = s.pending := by cases s; rfl
@[simp] theorem State.bump_cells (s : State) (o hi lo n : Nat) : (s.bump o hi lo n).cells = s.cells := by cases s; rfl
@[simp] theorem State.bump_counters (s : State) (o hi lo n : Nat) : (s.bump o hi lo n).counters = s.counters := by cases s; rfl
@[simp] theorem State.bump_lines (s : State) (o hi lo n : Nat) : (s.bump o hi lo n).lines = s.lines := by cases s; rfl
@[simp] theorem State.bump_signals (s : State) (o hi lo n : Nat) : (s.bump o hi lo n).signals = s.signals := by cases s; rfl
@[simp] theorem State.bump_chans (s : State) (o hi lo n : Nat) : (s.bump o hi lo n).chans = s.chans := by cases s; rfl
@[simp] theorem State.bump_sluices (s : State) (o hi lo n : Nat) : (s.bump o hi lo n).sluices = s.sluices := by cases s; rfl
@[simp] theorem State.bump_mem (s : State) (o hi lo n : Nat) : (s.bump o hi lo n).mem = s.mem := by cases s; rfl
@[simp] theorem State.bump_poison (s : State) (o hi lo n : Nat) : (s.bump o hi lo n).poison = s.poison := by cases s; rfl
@[simp] theorem State.bump_far (s : State) (o hi lo n : Nat) : (s.bump o hi lo n).far = s.far := by cases s; rfl
@[simp] theorem State.bump_farPoison (s : State) (o hi lo n : Nat) : (s.bump o hi lo n).farPoison = s.farPoison := by cases s; rfl
@[simp] theorem State.bump_farTries (s : State) (o hi lo n : Nat) : (s.bump o hi lo n).farTries = s.farTries := by cases s; rfl
@[simp] theorem State.bump_ceWin (s : State) (o hi lo n : Nat) : (s.bump o hi lo n).ceWin = s.ceWin := by cases s; rfl
@[simp] theorem State.bump_links (s : State) (o hi lo n : Nat) : (s.bump o hi lo n).links = s.links := by cases s; rfl
@[simp] theorem State.bump_leats (s : State) (o hi lo n : Nat) : (s.bump o hi lo n).leats = s.leats := by cases s; rfl
@[simp] theorem State.bump_weir (s : State) (o hi lo n : Nat) : (s.bump o hi lo n).weir = s.weir := by cases s; rfl
@[simp] theorem State.bump_reqs (s : State) (o hi lo n : Nat) : (s.bump o hi lo n).reqs = s.reqs := by cases s; rfl
@[simp] theorem State.bump_nextTxid (s : State) (o hi lo n : Nat) : (s.bump o hi lo n).nextTxid = s.nextTxid := by cases s; rfl
@[simp] theorem State.bump_selfMsgs (s : State) (o hi lo n : Nat) : (s.bump o hi lo n).selfMsgs = s.selfMsgs := by cases s; rfl
@[simp] theorem State.bump_held (s : State) (o hi lo n : Nat) : (s.bump o hi lo n).held = s.held := by cases s; rfl
@[simp] theorem State.bump_stale (s : State) (o hi lo n : Nat) : (s.bump o hi lo n).stale = s.stale := by cases s; rfl
@[simp] theorem State.bump_ended (s : State) (o hi lo n : Nat) : (s.bump o hi lo n).ended = s.ended := by cases s; rfl
@[simp] theorem State.bump_port (s : State) (o hi lo n : Nat) : (s.bump o hi lo n).port = s.port := by cases s; rfl
@[simp] theorem State.bump_fabrics (s : State) (o hi lo n : Nat) : (s.bump o hi lo n).fabrics = s.fabrics := by cases s; rfl
@[simp] theorem State.bump_endpoints (s : State) (o hi lo n : Nat) : (s.bump o hi lo n).endpoints = s.endpoints := by cases s; rfl
@[simp] theorem State.bump_regions (s : State) (o hi lo n : Nat) : (s.bump o hi lo n).regions = s.regions := by cases s; rfl
@[simp] theorem State.bump_fan (s : State) (o hi lo n : Nat) : (s.bump o hi lo n).fan = s.fan := by cases s; rfl
@[simp] theorem State.bump_power (s : State) (o hi lo n : Nat) : (s.bump o hi lo n).power = s.power := by cases s; rfl
@[simp] theorem State.bump_parts (s : State) (o hi lo n : Nat) : (s.bump o hi lo n).parts = s.parts := by cases s; rfl
@[simp] theorem State.bump_lostRegions (s : State) (o hi lo n : Nat) : (s.bump o hi lo n).lostRegions = s.lostRegions := by cases s; rfl
@[simp] theorem State.bump_raised (s : State) (o hi lo n : Nat) : (s.bump o hi lo n).raised = s.raised := by cases s; rfl
@[simp] theorem State.bump_logs (s : State) (o hi lo n : Nat) : (s.bump o hi lo n).logs = s.logs := by cases s; rfl
@[simp] theorem State.bump_cfg (s : State) (o hi lo n : Nat) : (s.bump o hi lo n).cfg = s.cfg := by cases s; rfl
@[simp] theorem State.bump_board (s : State) (o hi lo n : Nat) : (s.bump o hi lo n).board = s.board := by cases s; rfl
@[simp] theorem State.bump_module (s : State) (o hi lo n : Nat) : (s.bump o hi lo n).module = s.module := by cases s; rfl
@[simp] theorem State.bump_freeCtr (s : State) (o hi lo n : Nat) : (s.bump o hi lo n).freeCtr = s.freeCtr := by cases s; rfl
@[simp] theorem State.cell_bump (s : State) (o hi lo n : Nat) (j : Nat) : (s.bump o hi lo n).cell j = s.cell j := by cases s; rfl
@[simp] theorem State.ctr_bump (s : State) (o hi lo n : Nat) (j : Nat) : (s.bump o hi lo n).ctr j = s.ctr j := by cases s; rfl
@[simp] theorem State.chan_bump (s : State) (o hi lo n : Nat) (j q : Nat) : (s.bump o hi lo n).chan j q = s.chan j q := by cases s; rfl
@[simp] theorem State.link_bump (s : State) (o hi lo n : Nat) (j : Nat) : (s.bump o hi lo n).link j = s.link j := by cases s; rfl
@[simp] theorem State.leat_bump (s : State) (o hi lo n : Nat) (j : Nat) : (s.bump o hi lo n).leat j = s.leat j := by cases s; rfl
@[simp] theorem State.fabric_bump (s : State) (o hi lo n : Nat) (j : Nat) : (s.bump o hi lo n).fabric j = s.fabric j := by cases s; rfl
@[simp] theorem State.endpoint_bump (s : State) (o hi lo n : Nat) (j : Nat) : (s.bump o hi lo n).endpoint j = s.endpoint j := by cases s; rfl
@[simp] theorem State.region_bump (s : State) (o hi lo n : Nat) (j : Nat) : (s.bump o hi lo n).region j = s.region j := by cases s; rfl
@[simp] theorem State.part_bump (s : State) (o hi lo n : Nat) (j : Nat) : (s.bump o hi lo n).part j = s.part j := by cases s; rfl
@[simp] theorem State.memB_bump (s : State) (o hi lo n : Nat) (j : Nat) : (s.bump o hi lo n).memB j = s.memB j := by cases s; rfl
@[simp] theorem State.poisoned_bump (s : State) (o hi lo n : Nat) (j : Nat) : (s.bump o hi lo n).poisoned j = s.poisoned j := by cases s; rfl
@[simp] theorem State.cellPart_bump (s : State) (o hi lo n : Nat) (j : Nat) : (s.bump o hi lo n).cellPart j = s.cellPart j := by cases s; rfl
@[simp] theorem State.partSecure_bump (s : State) (o hi lo n : Nat) (j : Nat) : (s.bump o hi lo n).partSecure j = s.partSecure j := by cases s; rfl

/-! ### setMemB -/

@[simp] theorem State.setMemB_pending (s : State) (k : Nat) (b : Byte) : (s.setMemB k b).pending = s.pending := rfl
@[simp] theorem State.setMemB_regs (s : State) (k : Nat) (b : Byte) : (s.setMemB k b).regs = s.regs := rfl
@[simp] theorem State.setMemB_cells (s : State) (k : Nat) (b : Byte) : (s.setMemB k b).cells = s.cells := rfl
@[simp] theorem State.setMemB_counters (s : State) (k : Nat) (b : Byte) : (s.setMemB k b).counters = s.counters := rfl
@[simp] theorem State.setMemB_lines (s : State) (k : Nat) (b : Byte) : (s.setMemB k b).lines = s.lines := rfl
@[simp] theorem State.setMemB_signals (s : State) (k : Nat) (b : Byte) : (s.setMemB k b).signals = s.signals := rfl
@[simp] theorem State.setMemB_chans (s : State) (k : Nat) (b : Byte) : (s.setMemB k b).chans = s.chans := rfl
@[simp] theorem State.setMemB_sluices (s : State) (k : Nat) (b : Byte) : (s.setMemB k b).sluices = s.sluices := rfl
@[simp] theorem State.setMemB_poison (s : State) (k : Nat) (b : Byte) : (s.setMemB k b).poison = s.poison := rfl
@[simp] theorem State.setMemB_far (s : State) (k : Nat) (b : Byte) : (s.setMemB k b).far = s.far := rfl
@[simp] theorem State.setMemB_farPoison (s : State) (k : Nat) (b : Byte) : (s.setMemB k b).farPoison = s.farPoison := rfl
@[simp] theorem State.setMemB_farTries (s : State) (k : Nat) (b : Byte) : (s.setMemB k b).farTries = s.farTries := rfl
@[simp] theorem State.setMemB_ceWin (s : State) (k : Nat) (b : Byte) : (s.setMemB k b).ceWin = s.ceWin := rfl
@[simp] theorem State.setMemB_links (s : State) (k : Nat) (b : Byte) : (s.setMemB k b).links = s.links := rfl
@[simp] theorem State.setMemB_leats (s : State) (k : Nat) (b : Byte) : (s.setMemB k b).leats = s.leats := rfl
@[simp] theorem State.setMemB_weir (s : State) (k : Nat) (b : Byte) : (s.setMemB k b).weir = s.weir := rfl
@[simp] theorem State.setMemB_reqs (s : State) (k : Nat) (b : Byte) : (s.setMemB k b).reqs = s.reqs := rfl
@[simp] theorem State.setMemB_nextTxid (s : State) (k : Nat) (b : Byte) : (s.setMemB k b).nextTxid = s.nextTxid := rfl
@[simp] theorem State.setMemB_selfMsgs (s : State) (k : Nat) (b : Byte) : (s.setMemB k b).selfMsgs = s.selfMsgs := rfl
@[simp] theorem State.setMemB_held (s : State) (k : Nat) (b : Byte) : (s.setMemB k b).held = s.held := rfl
@[simp] theorem State.setMemB_stale (s : State) (k : Nat) (b : Byte) : (s.setMemB k b).stale = s.stale := rfl
@[simp] theorem State.setMemB_ended (s : State) (k : Nat) (b : Byte) : (s.setMemB k b).ended = s.ended := rfl
@[simp] theorem State.setMemB_port (s : State) (k : Nat) (b : Byte) : (s.setMemB k b).port = s.port := rfl
@[simp] theorem State.setMemB_fabrics (s : State) (k : Nat) (b : Byte) : (s.setMemB k b).fabrics = s.fabrics := rfl
@[simp] theorem State.setMemB_endpoints (s : State) (k : Nat) (b : Byte) : (s.setMemB k b).endpoints = s.endpoints := rfl
@[simp] theorem State.setMemB_regions (s : State) (k : Nat) (b : Byte) : (s.setMemB k b).regions = s.regions := rfl
@[simp] theorem State.setMemB_fan (s : State) (k : Nat) (b : Byte) : (s.setMemB k b).fan = s.fan := rfl
@[simp] theorem State.setMemB_power (s : State) (k : Nat) (b : Byte) : (s.setMemB k b).power = s.power := rfl
@[simp] theorem State.setMemB_parts (s : State) (k : Nat) (b : Byte) : (s.setMemB k b).parts = s.parts := rfl
@[simp] theorem State.setMemB_lostRegions (s : State) (k : Nat) (b : Byte) : (s.setMemB k b).lostRegions = s.lostRegions := rfl
@[simp] theorem State.setMemB_raised (s : State) (k : Nat) (b : Byte) : (s.setMemB k b).raised = s.raised := rfl
@[simp] theorem State.setMemB_logs (s : State) (k : Nat) (b : Byte) : (s.setMemB k b).logs = s.logs := rfl
@[simp] theorem State.setMemB_cfg (s : State) (k : Nat) (b : Byte) : (s.setMemB k b).cfg = s.cfg := rfl
@[simp] theorem State.setMemB_board (s : State) (k : Nat) (b : Byte) : (s.setMemB k b).board = s.board := rfl
@[simp] theorem State.setMemB_module (s : State) (k : Nat) (b : Byte) : (s.setMemB k b).module = s.module := rfl
@[simp] theorem State.setMemB_freeCtr (s : State) (k : Nat) (b : Byte) : (s.setMemB k b).freeCtr = s.freeCtr := rfl
@[simp] theorem State.rd_setMemB (s : State) (k : Nat) (b : Byte) (j : Nat) : (s.setMemB k b).rd j = s.rd j := rfl
@[simp] theorem State.cell_setMemB (s : State) (k : Nat) (b : Byte) (j : Nat) : (s.setMemB k b).cell j = s.cell j := rfl
@[simp] theorem State.ctr_setMemB (s : State) (k : Nat) (b : Byte) (j : Nat) : (s.setMemB k b).ctr j = s.ctr j := rfl
@[simp] theorem State.chan_setMemB (s : State) (k : Nat) (b : Byte) (j q : Nat) : (s.setMemB k b).chan j q = s.chan j q := rfl
@[simp] theorem State.link_setMemB (s : State) (k : Nat) (b : Byte) (j : Nat) : (s.setMemB k b).link j = s.link j := rfl
@[simp] theorem State.leat_setMemB (s : State) (k : Nat) (b : Byte) (j : Nat) : (s.setMemB k b).leat j = s.leat j := rfl
@[simp] theorem State.fabric_setMemB (s : State) (k : Nat) (b : Byte) (j : Nat) : (s.setMemB k b).fabric j = s.fabric j := rfl
@[simp] theorem State.endpoint_setMemB (s : State) (k : Nat) (b : Byte) (j : Nat) : (s.setMemB k b).endpoint j = s.endpoint j := rfl
@[simp] theorem State.region_setMemB (s : State) (k : Nat) (b : Byte) (j : Nat) : (s.setMemB k b).region j = s.region j := rfl
@[simp] theorem State.part_setMemB (s : State) (k : Nat) (b : Byte) (j : Nat) : (s.setMemB k b).part j = s.part j := rfl
@[simp] theorem State.poisoned_setMemB (s : State) (k : Nat) (b : Byte) (j : Nat) : (s.setMemB k b).poisoned j = s.poisoned j := rfl
@[simp] theorem State.cellPart_setMemB (s : State) (k : Nat) (b : Byte) (j : Nat) : (s.setMemB k b).cellPart j = s.cellPart j := rfl
@[simp] theorem State.partSecure_setMemB (s : State) (k : Nat) (b : Byte) (j : Nat) : (s.setMemB k b).partSecure j = s.partSecure j := rfl

/-! ### setPoison -/

@[simp] theorem State.setPoison_pending (s : State) (k : Nat) (b : Bool) : (s.setPoison k b).pending = s.pending := rfl
@[simp] theorem State.setPoison_regs (s : State) (k : Nat) (b : Bool) : (s.setPoison k b).regs = s.regs := rfl
@[simp] theorem State.setPoison_cells (s : State) (k : Nat) (b : Bool) : (s.setPoison k b).cells = s.cells := rfl
@[simp] theorem State.setPoison_counters (s : State) (k : Nat) (b : Bool) : (s.setPoison k b).counters = s.counters := rfl
@[simp] theorem State.setPoison_lines (s : State) (k : Nat) (b : Bool) : (s.setPoison k b).lines = s.lines := rfl
@[simp] theorem State.setPoison_signals (s : State) (k : Nat) (b : Bool) : (s.setPoison k b).signals = s.signals := rfl
@[simp] theorem State.setPoison_chans (s : State) (k : Nat) (b : Bool) : (s.setPoison k b).chans = s.chans := rfl
@[simp] theorem State.setPoison_sluices (s : State) (k : Nat) (b : Bool) : (s.setPoison k b).sluices = s.sluices := rfl
@[simp] theorem State.setPoison_mem (s : State) (k : Nat) (b : Bool) : (s.setPoison k b).mem = s.mem := rfl
@[simp] theorem State.setPoison_far (s : State) (k : Nat) (b : Bool) : (s.setPoison k b).far = s.far := rfl
@[simp] theorem State.setPoison_farPoison (s : State) (k : Nat) (b : Bool) : (s.setPoison k b).farPoison = s.farPoison := rfl
@[simp] theorem State.setPoison_farTries (s : State) (k : Nat) (b : Bool) : (s.setPoison k b).farTries = s.farTries := rfl
@[simp] theorem State.setPoison_ceWin (s : State) (k : Nat) (b : Bool) : (s.setPoison k b).ceWin = s.ceWin := rfl
@[simp] theorem State.setPoison_links (s : State) (k : Nat) (b : Bool) : (s.setPoison k b).links = s.links := rfl
@[simp] theorem State.setPoison_leats (s : State) (k : Nat) (b : Bool) : (s.setPoison k b).leats = s.leats := rfl
@[simp] theorem State.setPoison_weir (s : State) (k : Nat) (b : Bool) : (s.setPoison k b).weir = s.weir := rfl
@[simp] theorem State.setPoison_reqs (s : State) (k : Nat) (b : Bool) : (s.setPoison k b).reqs = s.reqs := rfl
@[simp] theorem State.setPoison_nextTxid (s : State) (k : Nat) (b : Bool) : (s.setPoison k b).nextTxid = s.nextTxid := rfl
@[simp] theorem State.setPoison_selfMsgs (s : State) (k : Nat) (b : Bool) : (s.setPoison k b).selfMsgs = s.selfMsgs := rfl
@[simp] theorem State.setPoison_held (s : State) (k : Nat) (b : Bool) : (s.setPoison k b).held = s.held := rfl
@[simp] theorem State.setPoison_stale (s : State) (k : Nat) (b : Bool) : (s.setPoison k b).stale = s.stale := rfl
@[simp] theorem State.setPoison_ended (s : State) (k : Nat) (b : Bool) : (s.setPoison k b).ended = s.ended := rfl
@[simp] theorem State.setPoison_port (s : State) (k : Nat) (b : Bool) : (s.setPoison k b).port = s.port := rfl
@[simp] theorem State.setPoison_fabrics (s : State) (k : Nat) (b : Bool) : (s.setPoison k b).fabrics = s.fabrics := rfl
@[simp] theorem State.setPoison_endpoints (s : State) (k : Nat) (b : Bool) : (s.setPoison k b).endpoints = s.endpoints := rfl
@[simp] theorem State.setPoison_regions (s : State) (k : Nat) (b : Bool) : (s.setPoison k b).regions = s.regions := rfl
@[simp] theorem State.setPoison_fan (s : State) (k : Nat) (b : Bool) : (s.setPoison k b).fan = s.fan := rfl
@[simp] theorem State.setPoison_power (s : State) (k : Nat) (b : Bool) : (s.setPoison k b).power = s.power := rfl
@[simp] theorem State.setPoison_parts (s : State) (k : Nat) (b : Bool) : (s.setPoison k b).parts = s.parts := rfl
@[simp] theorem State.setPoison_lostRegions (s : State) (k : Nat) (b : Bool) : (s.setPoison k b).lostRegions = s.lostRegions := rfl
@[simp] theorem State.setPoison_raised (s : State) (k : Nat) (b : Bool) : (s.setPoison k b).raised = s.raised := rfl
@[simp] theorem State.setPoison_logs (s : State) (k : Nat) (b : Bool) : (s.setPoison k b).logs = s.logs := rfl
@[simp] theorem State.setPoison_cfg (s : State) (k : Nat) (b : Bool) : (s.setPoison k b).cfg = s.cfg := rfl
@[simp] theorem State.setPoison_board (s : State) (k : Nat) (b : Bool) : (s.setPoison k b).board = s.board := rfl
@[simp] theorem State.setPoison_module (s : State) (k : Nat) (b : Bool) : (s.setPoison k b).module = s.module := rfl
@[simp] theorem State.setPoison_freeCtr (s : State) (k : Nat) (b : Bool) : (s.setPoison k b).freeCtr = s.freeCtr := rfl
@[simp] theorem State.rd_setPoison (s : State) (k : Nat) (b : Bool) (j : Nat) : (s.setPoison k b).rd j = s.rd j := rfl
@[simp] theorem State.cell_setPoison (s : State) (k : Nat) (b : Bool) (j : Nat) : (s.setPoison k b).cell j = s.cell j := rfl
@[simp] theorem State.ctr_setPoison (s : State) (k : Nat) (b : Bool) (j : Nat) : (s.setPoison k b).ctr j = s.ctr j := rfl
@[simp] theorem State.chan_setPoison (s : State) (k : Nat) (b : Bool) (j q : Nat) : (s.setPoison k b).chan j q = s.chan j q := rfl
@[simp] theorem State.link_setPoison (s : State) (k : Nat) (b : Bool) (j : Nat) : (s.setPoison k b).link j = s.link j := rfl
@[simp] theorem State.leat_setPoison (s : State) (k : Nat) (b : Bool) (j : Nat) : (s.setPoison k b).leat j = s.leat j := rfl
@[simp] theorem State.fabric_setPoison (s : State) (k : Nat) (b : Bool) (j : Nat) : (s.setPoison k b).fabric j = s.fabric j := rfl
@[simp] theorem State.endpoint_setPoison (s : State) (k : Nat) (b : Bool) (j : Nat) : (s.setPoison k b).endpoint j = s.endpoint j := rfl
@[simp] theorem State.region_setPoison (s : State) (k : Nat) (b : Bool) (j : Nat) : (s.setPoison k b).region j = s.region j := rfl
@[simp] theorem State.part_setPoison (s : State) (k : Nat) (b : Bool) (j : Nat) : (s.setPoison k b).part j = s.part j := rfl
@[simp] theorem State.memB_setPoison (s : State) (k : Nat) (b : Bool) (j : Nat) : (s.setPoison k b).memB j = s.memB j := rfl
@[simp] theorem State.cellPart_setPoison (s : State) (k : Nat) (b : Bool) (j : Nat) : (s.setPoison k b).cellPart j = s.cellPart j := rfl
@[simp] theorem State.partSecure_setPoison (s : State) (k : Nat) (b : Bool) (j : Nat) : (s.setPoison k b).partSecure j = s.partSecure j := rfl

/-! ### alertSet -/

@[simp] theorem State.alertSet_pending (s : State) (i : Nat) : (s.alertSet i).pending = s.pending := rfl
@[simp] theorem State.alertSet_regs (s : State) (i : Nat) : (s.alertSet i).regs = s.regs := rfl
@[simp] theorem State.alertSet_cells (s : State) (i : Nat) : (s.alertSet i).cells = s.cells := rfl
@[simp] theorem State.alertSet_counters (s : State) (i : Nat) : (s.alertSet i).counters = s.counters := rfl
@[simp] theorem State.alertSet_lines (s : State) (i : Nat) : (s.alertSet i).lines = s.lines := rfl
@[simp] theorem State.alertSet_signals (s : State) (i : Nat) : (s.alertSet i).signals = s.signals := rfl
@[simp] theorem State.alertSet_chans (s : State) (i : Nat) : (s.alertSet i).chans = s.chans := rfl
@[simp] theorem State.alertSet_sluices (s : State) (i : Nat) : (s.alertSet i).sluices = s.sluices := rfl
@[simp] theorem State.alertSet_mem (s : State) (i : Nat) : (s.alertSet i).mem = s.mem := rfl
@[simp] theorem State.alertSet_poison (s : State) (i : Nat) : (s.alertSet i).poison = s.poison := rfl
@[simp] theorem State.alertSet_far (s : State) (i : Nat) : (s.alertSet i).far = s.far := rfl
@[simp] theorem State.alertSet_farPoison (s : State) (i : Nat) : (s.alertSet i).farPoison = s.farPoison := rfl
@[simp] theorem State.alertSet_farTries (s : State) (i : Nat) : (s.alertSet i).farTries = s.farTries := rfl
@[simp] theorem State.alertSet_ceWin (s : State) (i : Nat) : (s.alertSet i).ceWin = s.ceWin := rfl
@[simp] theorem State.alertSet_links (s : State) (i : Nat) : (s.alertSet i).links = s.links := rfl
@[simp] theorem State.alertSet_leats (s : State) (i : Nat) : (s.alertSet i).leats = s.leats := rfl
@[simp] theorem State.alertSet_weir (s : State) (i : Nat) : (s.alertSet i).weir = s.weir := rfl
@[simp] theorem State.alertSet_reqs (s : State) (i : Nat) : (s.alertSet i).reqs = s.reqs := rfl
@[simp] theorem State.alertSet_nextTxid (s : State) (i : Nat) : (s.alertSet i).nextTxid = s.nextTxid := rfl
@[simp] theorem State.alertSet_selfMsgs (s : State) (i : Nat) : (s.alertSet i).selfMsgs = s.selfMsgs := rfl
@[simp] theorem State.alertSet_held (s : State) (i : Nat) : (s.alertSet i).held = s.held := rfl
@[simp] theorem State.alertSet_stale (s : State) (i : Nat) : (s.alertSet i).stale = s.stale := rfl
@[simp] theorem State.alertSet_ended (s : State) (i : Nat) : (s.alertSet i).ended = s.ended := rfl
@[simp] theorem State.alertSet_port (s : State) (i : Nat) : (s.alertSet i).port = s.port := rfl
@[simp] theorem State.alertSet_fabrics (s : State) (i : Nat) : (s.alertSet i).fabrics = s.fabrics := rfl
@[simp] theorem State.alertSet_endpoints (s : State) (i : Nat) : (s.alertSet i).endpoints = s.endpoints := rfl
@[simp] theorem State.alertSet_regions (s : State) (i : Nat) : (s.alertSet i).regions = s.regions := rfl
@[simp] theorem State.alertSet_fan (s : State) (i : Nat) : (s.alertSet i).fan = s.fan := rfl
@[simp] theorem State.alertSet_power (s : State) (i : Nat) : (s.alertSet i).power = s.power := rfl
@[simp] theorem State.alertSet_parts (s : State) (i : Nat) : (s.alertSet i).parts = s.parts := rfl
@[simp] theorem State.alertSet_lostRegions (s : State) (i : Nat) : (s.alertSet i).lostRegions = s.lostRegions := rfl
@[simp] theorem State.alertSet_raised (s : State) (i : Nat) : (s.alertSet i).raised = s.raised := rfl
@[simp] theorem State.alertSet_logs (s : State) (i : Nat) : (s.alertSet i).logs = s.logs := rfl
@[simp] theorem State.alertSet_cfg (s : State) (i : Nat) : (s.alertSet i).cfg = s.cfg := rfl
@[simp] theorem State.alertSet_module (s : State) (i : Nat) : (s.alertSet i).module = s.module := rfl
@[simp] theorem State.alertSet_freeCtr (s : State) (i : Nat) : (s.alertSet i).freeCtr = s.freeCtr := rfl
@[simp] theorem State.rd_alertSet (s : State) (i : Nat) (j : Nat) : (s.alertSet i).rd j = s.rd j := rfl
@[simp] theorem State.cell_alertSet (s : State) (i : Nat) (j : Nat) : (s.alertSet i).cell j = s.cell j := rfl
@[simp] theorem State.ctr_alertSet (s : State) (i : Nat) (j : Nat) : (s.alertSet i).ctr j = s.ctr j := rfl
@[simp] theorem State.chan_alertSet (s : State) (i : Nat) (j q : Nat) : (s.alertSet i).chan j q = s.chan j q := rfl
@[simp] theorem State.link_alertSet (s : State) (i : Nat) (j : Nat) : (s.alertSet i).link j = s.link j := rfl
@[simp] theorem State.leat_alertSet (s : State) (i : Nat) (j : Nat) : (s.alertSet i).leat j = s.leat j := rfl
@[simp] theorem State.fabric_alertSet (s : State) (i : Nat) (j : Nat) : (s.alertSet i).fabric j = s.fabric j := rfl
@[simp] theorem State.endpoint_alertSet (s : State) (i : Nat) (j : Nat) : (s.alertSet i).endpoint j = s.endpoint j := rfl
@[simp] theorem State.region_alertSet (s : State) (i : Nat) (j : Nat) : (s.alertSet i).region j = s.region j := rfl
@[simp] theorem State.part_alertSet (s : State) (i : Nat) (j : Nat) : (s.alertSet i).part j = s.part j := rfl
@[simp] theorem State.memB_alertSet (s : State) (i : Nat) (j : Nat) : (s.alertSet i).memB j = s.memB j := rfl
@[simp] theorem State.poisoned_alertSet (s : State) (i : Nat) (j : Nat) : (s.alertSet i).poisoned j = s.poisoned j := rfl
@[simp] theorem State.cellPart_alertSet (s : State) (i : Nat) (j : Nat) : (s.alertSet i).cellPart j = s.cellPart j := rfl
@[simp] theorem State.partSecure_alertSet (s : State) (i : Nat) (j : Nat) : (s.alertSet i).partSecure j = s.partSecure j := rfl

/-! ### A read after a write -/

@[simp] theorem State.cell_setCell_same (s : State) (c : Nat) (x : Cell) : (s.setCell c x).cell c = x := Table.get_put_same _ _ _ _
theorem State.cell_setCell_ne (s : State) (c : Nat) (x : Cell) (j : Nat) (h : j ≠ c) : (s.setCell c x).cell j = s.cell j := Table.get_put_ne _ _ _ _ _ _ h
theorem State.cell_setCell (s : State) (c : Nat) (x : Cell) (j : Nat) : (s.setCell c x).cell j = if j = c then x else s.cell j := Table.get_put _ _ _ _ _
@[simp] theorem State.ctr_setCtr_same (s : State) (k : Nat) (x : Counter) : (s.setCtr k x).ctr k = x := Table.get_put_same _ _ _ _
theorem State.ctr_setCtr_ne (s : State) (k : Nat) (x : Counter) (j : Nat) (h : j ≠ k) : (s.setCtr k x).ctr j = s.ctr j := Table.get_put_ne _ _ _ _ _ _ h
theorem State.ctr_setCtr (s : State) (k : Nat) (x : Counter) (j : Nat) : (s.setCtr k x).ctr j = if j = k then x else s.ctr j := Table.get_put _ _ _ _ _
@[simp] theorem State.sluice_setSluice_same (s : State) (b : Nat) (x : Sluice) : (s.setSluice b x).sluice b = x := Table.get_put_same _ _ _ _
theorem State.sluice_setSluice_ne (s : State) (b : Nat) (x : Sluice) (j : Nat) (h : j ≠ b) : (s.setSluice b x).sluice j = s.sluice j := Table.get_put_ne _ _ _ _ _ _ h
theorem State.sluice_setSluice (s : State) (b : Nat) (x : Sluice) (j : Nat) : (s.setSluice b x).sluice j = if j = b then x else s.sluice j := Table.get_put _ _ _ _ _
@[simp] theorem State.link_setLink_same (s : State) (f : Nat) (x : Link) : (s.setLink f x).link f = x := Table.get_put_same _ _ _ _
theorem State.link_setLink_ne (s : State) (f : Nat) (x : Link) (j : Nat) (h : j ≠ f) : (s.setLink f x).link j = s.link j := Table.get_put_ne _ _ _ _ _ _ h
theorem State.link_setLink (s : State) (f : Nat) (x : Link) (j : Nat) : (s.setLink f x).link j = if j = f then x else s.link j := Table.get_put _ _ _ _ _
@[simp] theorem State.leat_setLeat_same (s : State) (p : Nat) (x : Leat) : (s.setLeat p x).leat p = x := Table.get_put_same _ _ _ _
theorem State.leat_setLeat_ne (s : State) (p : Nat) (x : Leat) (j : Nat) (h : j ≠ p) : (s.setLeat p x).leat j = s.leat j := Table.get_put_ne _ _ _ _ _ _ h
theorem State.leat_setLeat (s : State) (p : Nat) (x : Leat) (j : Nat) : (s.setLeat p x).leat j = if j = p then x else s.leat j := Table.get_put _ _ _ _ _
@[simp] theorem State.fabric_setFabric_same (s : State) (p : Nat) (x : Fabric) : (s.setFabric p x).fabric p = x := Table.get_put_same _ _ _ _
theorem State.fabric_setFabric_ne (s : State) (p : Nat) (x : Fabric) (j : Nat) (h : j ≠ p) : (s.setFabric p x).fabric j = s.fabric j := Table.get_put_ne _ _ _ _ _ _ h
theorem State.fabric_setFabric (s : State) (p : Nat) (x : Fabric) (j : Nat) : (s.setFabric p x).fabric j = if j = p then x else s.fabric j := Table.get_put _ _ _ _ _
@[simp] theorem State.endpoint_setEndpoint_same (s : State) (p : Nat) (x : Endpoint) : (s.setEndpoint p x).endpoint p = x := Table.get_put_same _ _ _ _
theorem State.endpoint_setEndpoint_ne (s : State) (p : Nat) (x : Endpoint) (j : Nat) (h : j ≠ p) : (s.setEndpoint p x).endpoint j = s.endpoint j := Table.get_put_ne _ _ _ _ _ _ h
theorem State.endpoint_setEndpoint (s : State) (p : Nat) (x : Endpoint) (j : Nat) : (s.setEndpoint p x).endpoint j = if j = p then x else s.endpoint j := Table.get_put _ _ _ _ _
@[simp] theorem State.region_setRegion_same (s : State) (r : Nat) (x : RegionPower) : (s.setRegion r x).region r = x := Table.get_put_same _ _ _ _
theorem State.region_setRegion_ne (s : State) (r : Nat) (x : RegionPower) (j : Nat) (h : j ≠ r) : (s.setRegion r x).region j = s.region j := Table.get_put_ne _ _ _ _ _ _ h
theorem State.region_setRegion (s : State) (r : Nat) (x : RegionPower) (j : Nat) : (s.setRegion r x).region j = if j = r then x else s.region j := Table.get_put _ _ _ _ _
@[simp] theorem State.part_setPart_same (s : State) (p : Nat) (x : Part) : (s.setPart p x).part p = x := Table.get_put_same _ _ _ _
theorem State.part_setPart_ne (s : State) (p : Nat) (x : Part) (j : Nat) (h : j ≠ p) : (s.setPart p x).part j = s.part j := Table.get_put_ne _ _ _ _ _ _ h
theorem State.part_setPart (s : State) (p : Nat) (x : Part) (j : Nat) : (s.setPart p x).part j = if j = p then x else s.part j := Table.get_put _ _ _ _ _
@[simp] theorem State.log_setLog_same (s : State) (p : Nat) (x : List LogRec) : (s.setLog p x).log p = x := Table.get_put_same _ _ _ _
theorem State.log_setLog_ne (s : State) (p : Nat) (x : List LogRec) (j : Nat) (h : j ≠ p) : (s.setLog p x).log j = s.log j := Table.get_put_ne _ _ _ _ _ _ h
theorem State.log_setLog (s : State) (p : Nat) (x : List LogRec) (j : Nat) : (s.setLog p x).log j = if j = p then x else s.log j := Table.get_put _ _ _ _ _
@[simp] theorem State.memB_setMemB_same (s : State) (k : Nat) (b : Byte) : (s.setMemB k b).memB k = b := Table.get_put_same _ _ _ _
theorem State.memB_setMemB_ne (s : State) (k : Nat) (b : Byte) (j : Nat) (h : j ≠ k) : (s.setMemB k b).memB j = s.memB j := Table.get_put_ne _ _ _ _ _ _ h
theorem State.memB_setMemB (s : State) (k : Nat) (b : Byte) (j : Nat) : (s.setMemB k b).memB j = if j = k then b else s.memB j := Table.get_put _ _ _ _ _
@[simp] theorem State.rd_wr_same (s : State) (o : Nat) (v : Word64) : (s.wr o v).rd o = v := Table.get_put_same _ _ _ _
theorem State.rd_wr_ne (s : State) (o : Nat) (v : Word64) (j : Nat) (h : j ≠ o) : (s.wr o v).rd j = s.rd j := Table.get_put_ne _ _ _ _ _ _ h
@[simp] theorem State.line_setLine_same (s : State) (p n : Nat) (x : ShutLine) : (s.setLine p n x).line p n = x := Table.get_put_same _ _ _ _
@[simp] theorem State.chan_setChan_same (s : State) (b ch : Nat) (x : Channel) : (s.setChan b ch x).chan b ch = x := Table.get_put_same _ _ _ _
@[simp] theorem State.fanEntry_setFanEntry_same (s : State) (r t : Nat) (x : FanEntry) : (s.setFanEntry r t x).fanEntry r t = x := Table.get_put_same _ _ _ _
theorem State.rd_wr (s : State) (o : Nat) (v : Word64) (j : Nat) : (s.wr o v).rd j = if j = o then v else s.rd j := by
  split
  · rename_i h; subst h; exact State.rd_wr_same s j v
  · rename_i h; exact State.rd_wr_ne s o v j h
theorem State.rd_wf_ne (s : State) (o hi lo n j : Nat) (h : j ≠ o) : (s.wf o hi lo n).rd j = s.rd j := State.rd_wr_ne s o _ j h
@[simp] theorem State.rd_wf_same (s : State) (o hi lo n : Nat) : (s.wf o hi lo n).rd o = setFld (s.rd o) hi lo n := State.rd_wr_same s o _
theorem State.rd_wb_ne (s : State) (o i : Nat) (b : Bool) (j : Nat) (h : j ≠ o) : (s.wb o i b).rd j = s.rd j := State.rd_wr_ne s o _ j h
@[simp] theorem State.rd_wb_same (s : State) (o i : Nat) (b : Bool) : (s.wb o i b).rd o = setBit (s.rd o) i b := State.rd_wr_same s o _
theorem State.rd_bump_ne (s : State) (o hi lo n j : Nat) (h : j ≠ o) : (s.bump o hi lo n).rd j = s.rd j := State.rd_wr_ne s o _ j h
@[simp] theorem State.rd_bump_same (s : State) (o hi lo n : Nat) : (s.bump o hi lo n).rd o = setFld (s.rd o) hi lo (s.rf o hi lo + n) := State.rd_wr_same s o _

/-! ### An event raised, and a free value drawn -/

@[simp] theorem State.raise_pending (s : State) (e : Event) : (s.raise e).pending = s.pending := by unfold State.raise; split <;> rfl
@[simp] theorem State.raise_regs (s : State) (e : Event) : (s.raise e).regs = s.regs := by unfold State.raise; split <;> rfl
@[simp] theorem State.raise_cells (s : State) (e : Event) : (s.raise e).cells = s.cells := by unfold State.raise; split <;> rfl
@[simp] theorem State.raise_held (s : State) (e : Event) : (s.raise e).held = s.held := by unfold State.raise; split <;> rfl
@[simp] theorem State.raise_counters (s : State) (e : Event) : (s.raise e).counters = s.counters := by unfold State.raise; split <;> rfl
@[simp] theorem State.raise_lines (s : State) (e : Event) : (s.raise e).lines = s.lines := by unfold State.raise; split <;> rfl
@[simp] theorem State.raise_signals (s : State) (e : Event) : (s.raise e).signals = s.signals := by unfold State.raise; split <;> rfl
@[simp] theorem State.raise_chans (s : State) (e : Event) : (s.raise e).chans = s.chans := by unfold State.raise; split <;> rfl
@[simp] theorem State.raise_sluices (s : State) (e : Event) : (s.raise e).sluices = s.sluices := by unfold State.raise; split <;> rfl
@[simp] theorem State.raise_mem (s : State) (e : Event) : (s.raise e).mem = s.mem := by unfold State.raise; split <;> rfl
@[simp] theorem State.raise_poison (s : State) (e : Event) : (s.raise e).poison = s.poison := by unfold State.raise; split <;> rfl
@[simp] theorem State.raise_stale (s : State) (e : Event) : (s.raise e).stale = s.stale := by unfold State.raise; split <;> rfl
@[simp] theorem State.raise_far (s : State) (e : Event) : (s.raise e).far = s.far := by unfold State.raise; split <;> rfl
@[simp] theorem State.raise_farPoison (s : State) (e : Event) : (s.raise e).farPoison = s.farPoison := by unfold State.raise; split <;> rfl
@[simp] theorem State.raise_farTries (s : State) (e : Event) : (s.raise e).farTries = s.farTries := by unfold State.raise; split <;> rfl
@[simp] theorem State.raise_ceWin (s : State) (e : Event) : (s.raise e).ceWin = s.ceWin := by unfold State.raise; split <;> rfl
@[simp] theorem State.raise_links (s : State) (e : Event) : (s.raise e).links = s.links := by unfold State.raise; split <;> rfl
@[simp] theorem State.raise_leats (s : State) (e : Event) : (s.raise e).leats = s.leats := by unfold State.raise; split <;> rfl
@[simp] theorem State.raise_weir (s : State) (e : Event) : (s.raise e).weir = s.weir := by unfold State.raise; split <;> rfl
@[simp] theorem State.raise_reqs (s : State) (e : Event) : (s.raise e).reqs = s.reqs := by unfold State.raise; split <;> rfl
@[simp] theorem State.raise_nextTxid (s : State) (e : Event) : (s.raise e).nextTxid = s.nextTxid := by unfold State.raise; split <;> rfl
@[simp] theorem State.raise_ended (s : State) (e : Event) : (s.raise e).ended = s.ended := by unfold State.raise; split <;> rfl
@[simp] theorem State.raise_selfMsgs (s : State) (e : Event) : (s.raise e).selfMsgs = s.selfMsgs := by unfold State.raise; split <;> rfl
@[simp] theorem State.raise_fabrics (s : State) (e : Event) : (s.raise e).fabrics = s.fabrics := by unfold State.raise; split <;> rfl
@[simp] theorem State.raise_endpoints (s : State) (e : Event) : (s.raise e).endpoints = s.endpoints := by unfold State.raise; split <;> rfl
@[simp] theorem State.raise_port (s : State) (e : Event) : (s.raise e).port = s.port := by unfold State.raise; split <;> rfl
@[simp] theorem State.raise_regions (s : State) (e : Event) : (s.raise e).regions = s.regions := by unfold State.raise; split <;> rfl
@[simp] theorem State.raise_fan (s : State) (e : Event) : (s.raise e).fan = s.fan := by unfold State.raise; split <;> rfl
@[simp] theorem State.raise_power (s : State) (e : Event) : (s.raise e).power = s.power := by unfold State.raise; split <;> rfl
@[simp] theorem State.raise_parts (s : State) (e : Event) : (s.raise e).parts = s.parts := by unfold State.raise; split <;> rfl
@[simp] theorem State.raise_lostRegions (s : State) (e : Event) : (s.raise e).lostRegions = s.lostRegions := by unfold State.raise; split <;> rfl
@[simp] theorem State.raise_logs (s : State) (e : Event) : (s.raise e).logs = s.logs := by unfold State.raise; split <;> rfl
@[simp] theorem State.raise_cfg (s : State) (e : Event) : (s.raise e).cfg = s.cfg := by unfold State.raise; split <;> rfl
@[simp] theorem State.raise_module (s : State) (e : Event) : (s.raise e).module = s.module := by unfold State.raise; split <;> rfl
@[simp] theorem State.raise_freeCtr (s : State) (e : Event) : (s.raise e).freeCtr = s.freeCtr := by unfold State.raise; split <;> rfl
@[simp] theorem State.raise_raised (s : State) (e : Event) : (s.raise e).raised = s.raised ++ [e] := by unfold State.raise; split <;> rfl
@[simp] theorem State.fresh_pending (s : State) : s.fresh.2.pending = s.pending := rfl
@[simp] theorem State.fresh_regs (s : State) : s.fresh.2.regs = s.regs := rfl
@[simp] theorem State.fresh_cells (s : State) : s.fresh.2.cells = s.cells := rfl
@[simp] theorem State.fresh_held (s : State) : s.fresh.2.held = s.held := rfl
@[simp] theorem State.fresh_counters (s : State) : s.fresh.2.counters = s.counters := rfl
@[simp] theorem State.fresh_lines (s : State) : s.fresh.2.lines = s.lines := rfl
@[simp] theorem State.fresh_signals (s : State) : s.fresh.2.signals = s.signals := rfl
@[simp] theorem State.fresh_chans (s : State) : s.fresh.2.chans = s.chans := rfl
@[simp] theorem State.fresh_sluices (s : State) : s.fresh.2.sluices = s.sluices := rfl
@[simp] theorem State.fresh_mem (s : State) : s.fresh.2.mem = s.mem := rfl
@[simp] theorem State.fresh_poison (s : State) : s.fresh.2.poison = s.poison := rfl
@[simp] theorem State.fresh_stale (s : State) : s.fresh.2.stale = s.stale := rfl
@[simp] theorem State.fresh_far (s : State) : s.fresh.2.far = s.far := rfl
@[simp] theorem State.fresh_farPoison (s : State) : s.fresh.2.farPoison = s.farPoison := rfl
@[simp] theorem State.fresh_farTries (s : State) : s.fresh.2.farTries = s.farTries := rfl
@[simp] theorem State.fresh_ceWin (s : State) : s.fresh.2.ceWin = s.ceWin := rfl
@[simp] theorem State.fresh_links (s : State) : s.fresh.2.links = s.links := rfl
@[simp] theorem State.fresh_leats (s : State) : s.fresh.2.leats = s.leats := rfl
@[simp] theorem State.fresh_weir (s : State) : s.fresh.2.weir = s.weir := rfl
@[simp] theorem State.fresh_reqs (s : State) : s.fresh.2.reqs = s.reqs := rfl
@[simp] theorem State.fresh_nextTxid (s : State) : s.fresh.2.nextTxid = s.nextTxid := rfl
@[simp] theorem State.fresh_ended (s : State) : s.fresh.2.ended = s.ended := rfl
@[simp] theorem State.fresh_selfMsgs (s : State) : s.fresh.2.selfMsgs = s.selfMsgs := rfl
@[simp] theorem State.fresh_fabrics (s : State) : s.fresh.2.fabrics = s.fabrics := rfl
@[simp] theorem State.fresh_endpoints (s : State) : s.fresh.2.endpoints = s.endpoints := rfl
@[simp] theorem State.fresh_port (s : State) : s.fresh.2.port = s.port := rfl
@[simp] theorem State.fresh_regions (s : State) : s.fresh.2.regions = s.regions := rfl
@[simp] theorem State.fresh_fan (s : State) : s.fresh.2.fan = s.fan := rfl
@[simp] theorem State.fresh_power (s : State) : s.fresh.2.power = s.power := rfl
@[simp] theorem State.fresh_parts (s : State) : s.fresh.2.parts = s.parts := rfl
@[simp] theorem State.fresh_lostRegions (s : State) : s.fresh.2.lostRegions = s.lostRegions := rfl
@[simp] theorem State.fresh_raised (s : State) : s.fresh.2.raised = s.raised := rfl
@[simp] theorem State.fresh_logs (s : State) : s.fresh.2.logs = s.logs := rfl
@[simp] theorem State.fresh_cfg (s : State) : s.fresh.2.cfg = s.cfg := rfl
@[simp] theorem State.fresh_board (s : State) : s.fresh.2.board = s.board := rfl
@[simp] theorem State.fresh_module (s : State) : s.fresh.2.module = s.module := rfl

/-! ### settle, done, powered -/

@[simp] theorem settle_pending (s t : State) : (settle s t).pending = t.pending := rfl
@[simp] theorem settle_regs (s t : State) : (settle s t).regs = t.regs := rfl
@[simp] theorem settle_cells (s t : State) : (settle s t).cells = t.cells := rfl
@[simp] theorem settle_counters (s t : State) : (settle s t).counters = t.counters := rfl
@[simp] theorem settle_lines (s t : State) : (settle s t).lines = t.lines := rfl
@[simp] theorem settle_signals (s t : State) : (settle s t).signals = t.signals := rfl
@[simp] theorem settle_chans (s t : State) : (settle s t).chans = t.chans := rfl
@[simp] theorem settle_sluices (s t : State) : (settle s t).sluices = t.sluices := rfl
@[simp] theorem settle_mem (s t : State) : (settle s t).mem = t.mem := rfl
@[simp] theorem settle_poison (s t : State) : (settle s t).poison = t.poison := rfl
@[simp] theorem settle_far (s t : State) : (settle s t).far = t.far := rfl
@[simp] theorem settle_farPoison (s t : State) : (settle s t).farPoison = t.farPoison := rfl
@[simp] theorem settle_farTries (s t : State) : (settle s t).farTries = t.farTries := rfl
@[simp] theorem settle_ceWin (s t : State) : (settle s t).ceWin = t.ceWin := rfl
@[simp] theorem settle_links (s t : State) : (settle s t).links = t.links := rfl
@[simp] theorem settle_leats (s t : State) : (settle s t).leats = t.leats := rfl
@[simp] theorem settle_weir (s t : State) : (settle s t).weir = t.weir := rfl
@[simp] theorem settle_reqs (s t : State) : (settle s t).reqs = t.reqs := rfl
@[simp] theorem settle_nextTxid (s t : State) : (settle s t).nextTxid = t.nextTxid := rfl
@[simp] theorem settle_selfMsgs (s t : State) : (settle s t).selfMsgs = t.selfMsgs := rfl
@[simp] theorem settle_held (s t : State) : (settle s t).held = t.held := rfl
@[simp] theorem settle_stale (s t : State) : (settle s t).stale = t.stale := rfl
@[simp] theorem settle_ended (s t : State) : (settle s t).ended = t.ended := rfl
@[simp] theorem settle_port (s t : State) : (settle s t).port = t.port := rfl
@[simp] theorem settle_fabrics (s t : State) : (settle s t).fabrics = t.fabrics := rfl
@[simp] theorem settle_endpoints (s t : State) : (settle s t).endpoints = t.endpoints := rfl
@[simp] theorem settle_regions (s t : State) : (settle s t).regions = t.regions := rfl
@[simp] theorem settle_fan (s t : State) : (settle s t).fan = t.fan := rfl
@[simp] theorem settle_power (s t : State) : (settle s t).power = t.power := rfl
@[simp] theorem settle_parts (s t : State) : (settle s t).parts = t.parts := rfl
@[simp] theorem settle_lostRegions (s t : State) : (settle s t).lostRegions = t.lostRegions := rfl
@[simp] theorem settle_logs (s t : State) : (settle s t).logs = t.logs := rfl
@[simp] theorem settle_cfg (s t : State) : (settle s t).cfg = t.cfg := rfl
@[simp] theorem settle_board (s t : State) : (settle s t).board = t.board := rfl
@[simp] theorem settle_module (s t : State) : (settle s t).module = t.module := rfl
@[simp] theorem settle_freeCtr (s t : State) : (settle s t).freeCtr = t.freeCtr := rfl
@[simp] theorem rd_settle (s t : State) (j : Nat) : (settle s t).rd j = t.rd j := rfl
@[simp] theorem cell_settle (s t : State) (j : Nat) : (settle s t).cell j = t.cell j := rfl
@[simp] theorem ctr_settle (s t : State) (j : Nat) : (settle s t).ctr j = t.ctr j := rfl
@[simp] theorem chan_settle (s t : State) (j q : Nat) : (settle s t).chan j q = t.chan j q := rfl
@[simp] theorem link_settle (s t : State) (j : Nat) : (settle s t).link j = t.link j := rfl
@[simp] theorem leat_settle (s t : State) (j : Nat) : (settle s t).leat j = t.leat j := rfl
@[simp] theorem fabric_settle (s t : State) (j : Nat) : (settle s t).fabric j = t.fabric j := rfl
@[simp] theorem endpoint_settle (s t : State) (j : Nat) : (settle s t).endpoint j = t.endpoint j := rfl
@[simp] theorem region_settle (s t : State) (j : Nat) : (settle s t).region j = t.region j := rfl
@[simp] theorem part_settle (s t : State) (j : Nat) : (settle s t).part j = t.part j := rfl
@[simp] theorem memB_settle (s t : State) (j : Nat) : (settle s t).memB j = t.memB j := rfl
@[simp] theorem poisoned_settle (s t : State) (j : Nat) : (settle s t).poisoned j = t.poisoned j := rfl
@[simp] theorem cellPart_settle (s t : State) (j : Nat) : (settle s t).cellPart j = t.cellPart j := rfl
@[simp] theorem partSecure_settle (s t : State) (j : Nat) : (settle s t).partSecure j = t.partSecure j := rfl

@[simp] theorem powered_live (s : State) (o : Out) (h : s.module.held = false) (p : s.module.powered = true) : powered s o = o := by simp [powered, h, p]
theorem powered_dark (s : State) (o : Out) (h : s.module.held = true ∨ s.module.powered = false) : powered s o = .next s := by
  rcases h with h | h <;> simp [powered, h]
@[simp] theorem done_next (s t : State) : done s t = .next (settle s t) := rfl
/-- What holds of the state before and of every answer of a meaning holds of what its power check lets through. -/
theorem powered_cases (s t : State) (o : Out) (h : powered s o = .next t) : t = s ∨ o = .next t := by
  unfold powered at h; split at h
  · left; cases h; rfl
  · right; exact h

end Sys2Proof.Machine
end

