-- ==== Sys2Proof/Laws/Core.lean ====
section
/-! SUPPORT. Laws of the control core's shared operations: CELL.PC and the scalar registers, when a word is taken and what that leaves, and the record of a
command that raises no event. -/

namespace Sys2Proof.Machine

/-! ### settle -/

/-- A command that raised nothing settles to the state it made. -/
theorem settle_same (s t : State) (h : t.raised = s.raised) : settle s t = t := by
  cases t; simp_all [settle, sortEvents]

/-- A command that raised one event leaves it behind the earlier ones. -/
theorem settle_one (s t : State) (e : Event) (h : t.raised = s.raised ++ [e]) : settle s t = t := by
  cases t; simp_all [settle, sortEvents, insertEvent]

/-- A register write touches the register file alone. -/
theorem State.wr_regs_only (s : State) (o : Nat) (v : Word64) : s.wr o v = { s with regs := (s.wr o v).regs } := by cases s; rfl

/-! ### CELL.PC, CELL.OPSEQ and the scalar registers -/

@[simp] theorem State.pc_setPc (s : State) (c n : Nat) : (s.setPc c n).pc c = n % 4096 := by
  unfold State.pc State.setPc State.rf
  rw [State.rd_wf_same, fld_setFld _ _ _ _ (by omega) (by omega)]
  omega

@[simp] theorem State.opseq_wr (s : State) (c : Nat) (v : Word64) : (s.wr (cellBase c + rOPSEQ) v).opseq c = v := State.rd_wr_same _ _ _

theorem State.sreg_setSreg (s : State) (c n : Nat) (v : Word64) : (s.setSreg c n v).sreg c n = if n = 0 then 0 else v := by
  unfold State.sreg State.setSreg
  split
  · rfl
  · rw [State.rd_wr_same]

theorem State.sreg_setSreg_ne (s : State) (c n m : Nat) (v : Word64) (h : m ≠ n) : (s.setSreg c n v).sreg c m = s.sreg c m := by
  unfold State.sreg State.setSreg
  split
  · rfl
  · split
    · rfl
    · rw [State.rd_wr_ne _ _ _ _ (by omega)]

theorem State.rd_setSreg_ne (s : State) (c n : Nat) (v : Word64) (o : Nat) (h : n ≠ 0 → o ≠ cellBase c + 0x100 + 8 * n) : (s.setSreg c n v).rd o = s.rd o := by
  unfold State.setSreg
  split
  · rfl
  · rename_i hn; rw [State.rd_wr_ne _ _ _ _ (h hn)]

theorem State.rd_setPc_ne (s : State) (c n o : Nat) (h : o ≠ cellBase c + rPC) : (s.setPc c n).rd o = s.rd o := State.rd_wf_ne _ _ _ _ _ _ h

@[simp] theorem State.pc_setSreg (s : State) (c n : Nat) (v : Word64) : (s.setSreg c n v).pc c = s.pc c := by
  unfold State.pc State.rf
  rw [State.rd_setSreg_ne]
  intro _; unfold rPC; omega

@[simp] theorem State.opseq_setSreg (s : State) (c n : Nat) (v : Word64) : (s.setSreg c n v).opseq c = s.opseq c := by
  unfold State.opseq
  rw [State.rd_setSreg_ne]
  intro _; unfold rOPSEQ; omega

@[simp] theorem State.opseq_setPc (s : State) (c n : Nat) : (s.setPc c n).opseq c = s.opseq c := by
  unfold State.opseq
  rw [State.rd_setPc_ne]
  unfold rOPSEQ rPC; omega

@[simp] theorem State.pc_wr_opseq (s : State) (c : Nat) (v : Word64) : (s.wr (cellBase c + rOPSEQ) v).pc c = s.pc c := by
  unfold State.pc State.rf
  rw [State.rd_wr_ne]
  unfold rOPSEQ rPC; omega

@[simp] theorem State.sreg_setPc (s : State) (c n m : Nat) : (s.setPc c n).sreg c m = s.sreg c m := by
  unfold State.sreg
  split
  · rfl
  · rw [State.rd_setPc_ne _ _ _ _ (by unfold rPC; omega)]

@[simp] theorem State.sreg_wr_opseq (s : State) (c m : Nat) (v : Word64) : (s.wr (cellBase c + rOPSEQ) v).sreg c m = s.sreg c m := by
  unfold State.sreg
  split
  · rfl
  · rw [State.rd_wr_ne _ _ _ _ (by unfold rOPSEQ; omega)]

/-- A write of a scalar register touches the register file alone. -/
theorem State.setSreg_regs (s : State) (c n : Nat) (v : Word64) : s.setSreg c n v = { s with regs := (s.setSreg c n v).regs } := by
  unfold State.setSreg; split
  · rfl
  · exact State.wr_regs_only _ _ _

@[simp] theorem State.setSreg_raised (s : State) (c n : Nat) (v : Word64) : (s.setSreg c n v).raised = s.raised := by
  unfold State.setSreg; split
  · rfl
  · simp
@[simp] theorem State.setSreg_mem (s : State) (c n : Nat) (v : Word64) : (s.setSreg c n v).mem = s.mem := by
  unfold State.setSreg; split
  · rfl
  · simp
@[simp] theorem State.setSreg_pending (s : State) (c n : Nat) (v : Word64) : (s.setSreg c n v).pending = s.pending := by
  unfold State.setSreg; split
  · rfl
  · simp
@[simp] theorem State.cell_setSreg (s : State) (c n : Nat) (v : Word64) (j : Nat) : (s.setSreg c n v).cell j = s.cell j := by
  unfold State.setSreg; split
  · rfl
  · simp

/-! ### Taking a word -/

/-- The state with a cell's program counter and op sequence number moved past the word it takes. -/
def State.past (s : State) (c : Nat) : State := (s.setPc c (s.pc c + 1)).wr (cellBase c + rOPSEQ) (s.opseq c + 1)

@[simp] theorem State.past_pc (s : State) (c : Nat) : (s.past c).pc c = (s.pc c + 1) % 4096 := by simp [State.past]
@[simp] theorem State.past_opseq (s : State) (c : Nat) : (s.past c).opseq c = s.opseq c + 1 := by unfold State.past; rw [State.opseq_wr]
@[simp] theorem State.past_sreg (s : State) (c n : Nat) : (s.past c).sreg c n = s.sreg c n := by simp [State.past]
@[simp] theorem State.past_cell (s : State) (c j : Nat) : (s.past c).cell j = s.cell j := (State.cell_wr _ _ _ _).trans (State.cell_wf _ _ _ _ _ _)
@[simp] theorem State.past_raised (s : State) (c : Nat) : (s.past c).raised = s.raised := (State.wr_raised _ _ _).trans (State.wf_raised _ _ _ _ _)
theorem State.past_regs (s : State) (c : Nat) : s.past c = { s with regs := (s.past c).regs } := by
  unfold State.past State.setPc State.wf
  rw [State.wr_regs_only, State.wr_regs_only s]
theorem State.past_rd (s : State) (c o : Nat) (h1 : o ≠ cellBase c + rPC) (h2 : o ≠ cellBase c + rOPSEQ) : (s.past c).rd o = s.rd o := by
  unfold State.past
  rw [State.rd_wr_ne _ _ _ _ h2, State.rd_setPc_ne _ _ _ _ h1]

/-- When the checks before a word pass, the core takes it (R46, R50, R54, R60, R65, R67, R68). -/
theorem State.take_word (s : State) (c : Nat) (w : Word128) (h1 : (s.cell c).st = .running) (h2 : s.clocked c = true) (h3 : (s.cell c).ld = none)
    (h4 : (s.cell c).endReq = none) (h5 : (s.cell c).fenceHolds .core (s.opseq c) = false) (h6 : (s.cell c).acquireHolds = false)
    (h7 : s.wordAt c = some w) (h8 : dispatchCheck w = none) (h9 : (s.cell c).stallsOnReg w = false)
    (h10 : (wclass w = 0 ∨ wclass w = 5) → wREL w = true → (s.cell c).earlierDone 31 0 (s.opseq c) = true) :
    s.take c = .word w (s.pc c) (s.opseq c) (s.past c) := by
  have hv : ((s.cell c).hopper.get {} (s.pc c)).status = .valid ∧ ((s.cell c).hopper.get {} (s.pc c)).bits = w := by
    simp only [State.wordAt] at h7
    split at h7
    · rename_i hh; exact ⟨hh, by simpa using h7⟩
    · cases h7
  have h11 : ((wclass w == 0 || wclass w == 5) && wREL w && !(s.cell c).earlierDone 31 0 (s.opseq c)) = false := by
    cases hr : wREL w <;> cases he : (s.cell c).earlierDone 31 0 (s.opseq c) <;> simp_all
  simp only [State.take, h1, h2, h3, h4, h5, h6, hv.1, hv.2, h8, h9, h11, State.past, ne_eq, not_true_eq_false, decide_false, Bool.not_true, Option.isSome_none,
    Bool.or_false, Bool.false_eq_true, if_false]

/-- A word that is not of the row's opcode, or none, leaves the state. -/
theorem State.core_other (s : State) (c code : Nat) (f : Word128 → Nat → Word64 → State → State) (h : ∀ w, s.wordAt c = some w → wcode w ≠ code) :
    s.core c code f = s := by
  unfold State.core
  split
  · rfl
  · rename_i w hw; rw [if_pos (h w hw)]

/-- All that an opcode's row can do: nothing, what `take` did short of taking a word, or the word's effect on the state past it. -/
theorem State.core_cases (s : State) (c code : Nat) (f : Word128 → Nat → Word64 → State → State) :
    s.core c code f = s ∨ s.take c = .stall (s.core c code f) ∨ s.take c = .halt (s.core c code f)
      ∨ ∃ w pc seq s1, s.take c = .word w pc seq s1 ∧ s.core c code f = f w pc seq s1 := by
  unfold State.core
  split
  · exact .inl rfl
  · split
    · exact .inl rfl
    · split
      · rename_i h; exact .inr (.inl h)
      · rename_i h; exact .inr (.inr (.inl h))
      · rename_i h; exact .inr (.inr (.inr ⟨_, _, _, _, h, rfl⟩))

/-- A row's effect on a word that the core takes. -/
theorem State.core_word (s : State) (c code : Nat) (w : Word128) (f : Word128 → Nat → Word64 → State → State) (h : s.wordAt c = some w) (hc : wcode w = code)
    (ht : s.take c = .word w (s.pc c) (s.opseq c) (s.past c)) : s.core c code f = f w (s.pc c) (s.opseq c) (s.past c) := by
  simp only [State.core, h, hc, ht, ne_eq, not_true_eq_false, if_false]

end Sys2Proof.Machine
end

