-- ==== Sys2Proof/Laws/Memory.lean ====
section
/-! SUPPORT. Laws of memory: a read after a write, what each store leaves alone, and that every operation that writes memory keeps its canonical form. -/

namespace Sys2Proof.Machine

/-! ### Loops -/

/-- What every turn of a loop keeps, the loop keeps. -/
theorem forEach_keeps {α : Type} (P : State → Prop) (f : State → α → State) (l : List α) (s : State) (h : P s) (step : ∀ s a, a ∈ l → P s → P (f s a)) :
    P (forEach l s f) := by
  induction l generalizing s with
  | nil => exact h
  | cons a l ih => exact ih (f s a) (step s a (by simp) h) (fun s b hb => step s b (by simp [hb]))

@[simp] theorem forEach_nil {α : Type} (f : State → α → State) (s : State) : forEach [] s f = s := rfl
@[simp] theorem forEach_cons {α : Type} (f : State → α → State) (a : α) (l : List α) (s : State) : forEach (a :: l) s f = forEach l (f s a) f := rfl

/-! ### One byte -/

/-- Writing a byte touches memory alone. -/
theorem State.setMemB_only (s : State) (k : Nat) (b : Byte) : s.setMemB k b = { s with mem := (s.setMemB k b).mem } := rfl

theorem State.setMemB_ok (s : State) (k : Nat) (b : Byte) (h : MemoryOk s) : MemoryOk (s.setMemB k b) :=
  Table.wf_put s.mem (fun _ => 0) k b h

/-- Two states with one memory are both in canonical form or neither is. -/
theorem MemoryOk_of_mem {s t : State} (h : MemoryOk s) (e : t.mem = s.mem) : MemoryOk t := by
  unfold MemoryOk at *; rw [e]; exact h

/-- Poison marks do not touch memory. -/
theorem State.setPoison_ok (s : State) (k : Nat) (b : Bool) (h : MemoryOk s) : MemoryOk (s.setPoison k b) := h

/-- A piece's mark reads as it was written, for each of its bytes, and every other piece's as before. -/
theorem State.poisoned_setPoison (s : State) (k j : Nat) (b : Bool) : (s.setPoison k b).poisoned j = if j / 32 = k / 32 then b else s.poisoned j :=
  Table.get_put s.poison false (k / 32) (j / 32) b

/-! ### Runs of bytes -/

/-- A stored run touches memory alone. -/
theorem State.storeRun_only (s : State) (k : Nat) (bs : List Byte) : s.storeRun k bs = { s with mem := (s.storeRun k bs).mem } := by
  induction bs generalizing s k with
  | nil => rfl
  | cons b bs ih => simp only [State.storeRun]; rw [ih]; rfl

/-- A stored run reads back where it lies, and every other byte reads as before. -/
theorem State.memB_storeRun (s : State) (k j : Nat) (bs : List Byte) :
    (s.storeRun k bs).memB j = if k ≤ j ∧ j < k + bs.length then bs.getD (j - k) 0 else s.memB j := by
  induction bs generalizing s k with
  | nil => rw [if_neg (by simp only [List.length_nil]; omega)]; rfl
  | cons b bs ih =>
    simp only [State.storeRun, ih, State.memB_setMemB, List.length_cons]
    by_cases hj : j = k
    · subst hj; rw [if_neg (by omega), if_pos rfl, if_pos (by omega)]; simp
    · by_cases hr : k + 1 ≤ j ∧ j < k + 1 + bs.length
      · have : j - k = (j - (k + 1)) + 1 := by omega
        rw [if_pos hr, if_pos (by omega), this]; simp
      · rw [if_neg hr, if_neg hj, if_neg (by omega)]

theorem State.storeRun_ok (s : State) (k : Nat) (bs : List Byte) (h : MemoryOk s) : MemoryOk (s.storeRun k bs) := by
  induction bs generalizing s k with
  | nil => exact h
  | cons b bs ih => exact ih _ _ (s.setMemB_ok k b h)

theorem State.storeEnabled_ok (s : State) (k : Nat) (bs : List (Option Byte)) (h : MemoryOk s) : MemoryOk (s.storeEnabled k bs) := by
  induction bs generalizing s k with
  | nil => exact h
  | cons b bs ih => cases b with
    | none => exact ih _ _ h
    | some b => exact ih _ _ (s.setMemB_ok k b h)

/-! ### Counters of the controllers, and the toll -/

@[simp] theorem State.countMem_mem (s : State) (reg k n : Nat) : (s.countMem reg k n).mem = s.mem := by unfold State.countMem; split <;> simp
@[simp] theorem State.countMem_poison (s : State) (reg k n : Nat) : (s.countMem reg k n).poison = s.poison := by unfold State.countMem; split <;> simp

@[simp] theorem State.countRun_mem (s : State) (reg fuel k n : Nat) : (s.countRun reg fuel k n).mem = s.mem := by
  induction fuel generalizing s k n with
  | zero => rfl
  | succ fuel ih => simp only [State.countRun]; split <;> simp [ih]
@[simp] theorem State.countRun_poison (s : State) (reg fuel k n : Nat) : (s.countRun reg fuel k n).poison = s.poison := by
  induction fuel generalizing s k n with
  | zero => rfl
  | succ fuel ih => simp only [State.countRun]; split <;> simp [ih]

@[simp] theorem State.tollTouch_mem (s : State) (k n : Nat) : (s.tollTouch k n).mem = s.mem := by simp only [State.tollTouch]; split <;> simp
@[simp] theorem State.tollTouch_poison (s : State) (k n : Nat) : (s.tollTouch k n).poison = s.poison := by simp only [State.tollTouch]; split <;> simp

/-! ### Pieces and whole writes -/

theorem State.writePiece_ok (s : State) (k : Nat) (bs : List PByte) (h : MemoryOk s) : MemoryOk (s.writePiece k bs) := by
  simp only [State.writePiece]
  split
  · exact State.setPoison_ok _ _ _ (s.storeRun_ok k _ h)
  · split
    · exact MemoryOk_of_mem h (by simp)
    · split
      · exact State.setPoison_ok _ _ _ (s.storeRun_ok k _ h)
      · exact s.storeRun_ok k _ h

theorem State.writeRun_ok (s : State) (fuel k : Nat) (bs : List PByte) (h : MemoryOk s) : MemoryOk (s.writeRun fuel k bs) := by
  induction fuel generalizing s k bs with
  | zero => exact h
  | succ fuel ih => cases bs with
    | nil => exact h
    | cons b bs => exact ih _ _ _ (s.writePiece_ok k _ h)

theorem State.writePB_ok (s : State) (k : Nat) (bs : List PByte) (h : MemoryOk s) : MemoryOk (s.writePB k bs) := s.writeRun_ok _ _ _ h
theorem State.writeB_ok (s : State) (k : Nat) (bs : List Byte) (h : MemoryOk s) : MemoryOk (s.writeB k bs) := s.writePB_ok _ _ h

/-- A state change that leaves memory alone leaves it alone along a list. -/
theorem forEach_mem {α : Type} (l : List α) (s : State) (f : State → α → State) (h : ∀ s a, (f s a).mem = s.mem) : (forEach l s f).mem = s.mem := by
  unfold forEach
  induction l generalizing s with
  | nil => rfl
  | cons a l ih => exact (ih _).trans (h s a)

@[simp] theorem State.memErr_mem (s : State) (st kind sym addr : Nat) : (s.memErr st kind sym addr).mem = s.mem := by
  simp only [State.memErr]; split <;> simp
@[simp] theorem State.tagFail_mem (s : State) (st k : Nat) : (s.tagFail st k).mem = s.mem := by
  simp only [State.tagFail, State.raise_mem, State.memErr_mem, State.bump_mem]
  rw [forEach_mem _ _ _ (fun s a => by simp)]
@[simp] theorem State.failUnits_mem (s : State) (us : List Nat) : (s.failUnits us).mem = s.mem := forEach_mem _ _ _ (fun s a => by simp)
@[simp] theorem State.newTag_mem (s : State) (k : Nat) : (s.newTag k).mem = s.mem := rfl
@[simp] theorem State.putRun_mem (s : State) (k : Nat) (bs : List PByte) : (s.putRun k bs).mem = (s.writePB k bs).mem := by simp [State.putRun]

theorem State.putRun_ok (s : State) (k : Nat) (bs : List PByte) (h : MemoryOk s) : MemoryOk (s.putRun k bs) := MemoryOk_of_mem (s.writePB_ok k bs h) (by simp)

theorem State.putUnits_ok (s : State) (fuel k : Nat) (bs : List PByte) (h : MemoryOk s) : MemoryOk (s.putUnits fuel k bs) := by
  induction fuel generalizing s k bs with
  | zero => exact h
  | succ fuel ih =>
    simp only [State.putUnits]
    split
    · exact h
    · apply ih
      split
      · exact State.putRun_ok _ _ _ (MemoryOk_of_mem h rfl)
      · split
        · exact State.putRun_ok _ _ _ (MemoryOk_of_mem h rfl)
        · exact MemoryOk_of_mem h (by simp)

theorem State.storePB_ok (s : State) (k : Nat) (bs : List PByte) (h : MemoryOk s) : MemoryOk (s.storePB k bs) := by
  unfold State.storePB
  split
  · exact h
  · split
    · exact s.putRun_ok k bs h
    · exact s.putUnits_ok _ k bs h

theorem State.writePieceM_ok (s : State) (k : Nat) (bs : List WByte) (h : MemoryOk s) : MemoryOk (s.writePieceM k bs) := by
  have hl : MemoryOk (forEach ((upTo bs.length).zip bs) s (fun s (x : Nat × WByte) => match x.2 with
      | some (y, _) => s.setMemB (k + x.1) y.1
      | none => s)) := by
    apply forEach_keeps MemoryOk _ _ _ h
    intro s a _ hs
    split
    · exact s.setMemB_ok _ _ hs
    · exact hs
  unfold State.writePieceM
  split
  · exact h
  · split
    · exact s.writePiece_ok k _ h
    · split
      · exact MemoryOk_of_mem h (by simp)
      · dsimp only
        split
        · exact State.setPoison_ok _ _ _ hl
        · exact hl

theorem State.writeRunM_ok (s : State) (fuel k : Nat) (bs : List WByte) (h : MemoryOk s) : MemoryOk (s.writeRunM fuel k bs) := by
  induction fuel generalizing s k bs with
  | zero => exact h
  | succ fuel ih => cases bs with
    | nil => exact h
    | cons b bs => exact ih _ _ _ (s.writePieceM_ok k _ h)

theorem State.writeElems_ok (s : State) (c base w : Nat) (es : List (Option (Nat × Bool))) (h : MemoryOk s) : MemoryOk (s.writeElems c base w es) :=
  s.writeRunM_ok _ _ _ h

/-- A cleared partition's memory (R407): what is left is still in canonical form. -/
theorem filter_mem_ok (s : State) (p : Host.Cell → Bool) (h : MemoryOk s) : MemoryOk { s with mem := s.mem.filter p } :=
  Table.wf_filter s.mem (fun _ => 0) p h

/-! ### What a piece leaves alone -/

/-- Every byte outside a piece's written run reads as before. -/
theorem State.memB_writePiece_outside (s : State) (k j : Nat) (bs : List PByte) (h : j < k ∨ k + bs.length ≤ j) : (s.writePiece k bs).memB j = s.memB j := by
  have hs : (s.storeRun k (bs.map (fun x => x.1))).memB j = s.memB j := by
    rw [State.memB_storeRun, if_neg (by rw [List.length_map]; omega)]
  simp only [State.writePiece]
  split
  · exact hs
  · split
    · simp [State.memB]
    · split
      · exact hs
      · exact hs

/-- Every byte outside a written run reads as before. -/
theorem State.memB_writeRun_outside (s : State) (fuel k j : Nat) (bs : List PByte) (h : j < k ∨ k + bs.length ≤ j) : (s.writeRun fuel k bs).memB j = s.memB j := by
  induction fuel generalizing s k bs with
  | zero => rfl
  | succ fuel ih => cases bs with
    | nil => rfl
    | cons b bs =>
      show ((s.writePiece k ((b :: bs).take (32 - k % 32))).writeRun fuel (k + (32 - k % 32)) ((b :: bs).drop (32 - k % 32))).memB j = s.memB j
      rw [ih, State.memB_writePiece_outside]
      · rw [List.length_take]; omega
      · rw [List.length_drop]; omega

theorem State.memB_of_mem {s t : State} (h : t.mem = s.mem) (j : Nat) : t.memB j = s.memB j := by unfold State.memB; rw [h]

theorem State.memB_putRun_outside (s : State) (k j : Nat) (bs : List PByte) (h : j < k ∨ k + bs.length ≤ j) : (s.putRun k bs).memB j = s.memB j :=
  (State.memB_of_mem (s.putRun_mem k bs) j).trans (s.memB_writeRun_outside _ k j bs h)

theorem State.memB_putUnits_outside (s : State) (fuel k j : Nat) (bs : List PByte) (h : j < k ∨ k + bs.length ≤ j) : (s.putUnits fuel k bs).memB j = s.memB j := by
  induction fuel generalizing s k bs with
  | zero => rfl
  | succ fuel ih =>
    simp only [State.putUnits]
    split
    · rfl
    · rw [ih]
      · have hr : j < k ∨ k + (bs.take (256 - k % 256)).length ≤ j := by rw [List.length_take]; omega
        split
        · exact State.memB_putRun_outside _ k j _ hr
        · split
          · exact State.memB_putRun_outside _ k j _ hr
          · exact State.memB_of_mem (by simp) j
      · rw [List.length_drop]; omega

/-- Every byte outside a stored run reads as before. -/
theorem State.memB_storePB_outside (s : State) (k j : Nat) (bs : List PByte) (h : j < k ∨ k + bs.length ≤ j) : (s.storePB k bs).memB j = s.memB j := by
  unfold State.storePB
  split
  · rfl
  · split
    · exact s.memB_putRun_outside k j bs h
    · exact s.memB_putUnits_outside _ k j bs h

/-! ### Reset -/

theorem reset_memory_ok : MemoryOk State.reset := rfl

end Sys2Proof.Machine
end

