-- ==== Sys2Proof/Tests/Slice0.lean ====
section
/-! SUPPORT. Small tests: ill-formed terms that the check refuses, and for every statement with hypotheses a concrete state and operands that meet them, with what the one step
gives there. Expected values are worked out by hand from the rules cited. -/

namespace Sys2Proof.Tests

set_option Elab.async false

open Sys2Proof.Machine Sys2Proof.Claims

/-- The command answers a next state of which `p` holds. -/
def got (i : Instr) (s : State) (p : State → Bool) : Bool := match exec i s with | .next t => p t | _ => false

/-- The command leaves the state. -/
def idles (i : Instr) (s : State) : Bool := match exec i s with | .next t => decide (t = s) | _ => false

/-- The state after reset. -/
def rst : State := State.reset

/-- A word of a class and opcode with values at bit positions. -/
def word (code : Nat) (fs : List (Nat × Nat)) : Word128 := BitVec.ofNat 128 (code * 2 ^ 116 + (fs.map (fun f => f.2 * 2 ^ f.1)).sum)

/-- Cell 0 RUNNING under job 5 with a word at index 0. -/
def at0 (w : Word128) (x : Cell := {}) : State :=
  (rst.wr (cellBase 0 + rJOB) 5).setCell 0 { x with st := .running, hopper := [(0, { bits := w, status := .valid })] }

/-- The same with values in s1 and s2. -/
def with12 (a b : Word64) (s : State) : State := (s.setSreg 0 1 a).setSreg 0 2 b

/-- Cell 0 in a state. -/
def inSt (st : CellState) (x : Cell := {}) : State := (rst.wr (cellBase 0 + rJOB) 5).setCell 0 { x with st := st }

/-! ### Well-formedness: a term that each check refuses, and one it takes -/

theorem test_wf_stackRead : wellFormed (.stackRead 0 0 [(36, 1)] false) = false ∧ wellFormed (.stackRead 0 0 [(35, 1)] false) = true := by decide +kernel
theorem test_wf_patrolScrub : wellFormed (.patrolScrub 0 [(36, 1)]) = false ∧ wellFormed (.patrolScrub 0 [(35, 1)]) = true := by decide +kernel
theorem test_wf_stackWrite : wellFormed (.stackWrite 0 0 ⟨(List.replicate 33 none), [], false⟩) = false ∧ wellFormed (.stackWrite 0 0 ⟨(List.replicate 32 none), [], false⟩) = true := by decide +kernel
theorem test_wf_gristAdd : wellFormed (.gristAdd 0 0 0 ⟨[], false⟩ ⟨[], false⟩) = false ∧ wellFormed (.gristAdd 0 0 0 ⟨(List.replicate 256 0), false⟩ ⟨[], false⟩) = true := by decide +kernel
theorem test_wf_farAccess : wellFormed (.farAccess 0 (.read 0 0 []) true) = false ∧ wellFormed (.farAccess 0 (.write 0 [] false) true) = false
    ∧ wellFormed (.farAccess 0 (.read 0 1 []) true) = true := by decide +kernel
theorem test_wf_messages : [Instr.msgWrite, .msgGrist, .msgReadReq, .msgSignal, .msgMillrace, .msgReadResp, .msgAck].all (fun i =>
    !wellFormed (i (.self { kind := 256 })) && !wellFormed (i (.leat 1 { kind := 1, data := List.replicate 4097 0 } 0 [])) && wellFormed (i (.self { kind := 1 }))) = true := by decide +kernel
theorem test_wf_message_fields : [({ kind := 1, vc := 4 } : LinkMsg), { kind := 1, fmt := 16 }, { kind := 1, len := 65536 }, { kind := 1, job := 65536 }, { kind := 1, status := 65536 },
    { kind := 1, src := 2 ^ 32 }, { kind := 1, dst := 2 ^ 32 }, { kind := 1, addr := 2 ^ 64 }, { kind := 1, txid := 2 ^ 64 }, { kind := 1, amount := 2 ^ 64 }, { kind := 1, seq := 2 ^ 64 }].all
    (fun m => !wellFormed (.guestRequest m)) = true := by decide +kernel
theorem test_wf_frames : wellFormed (.ethFrameReceive { part := 0, bytes := 63, kind := .badFcs }) = false ∧ wellFormed (.ethFrameReceive { part := 0, bytes := 9217, kind := .badFcs }) = false
    ∧ wellFormed (.ethFrameReceive { part := 0, bytes := 9216, kind := .badFcs }) = true := by decide +kernel
theorem test_wf_powerSample : wellFormed (.powerSample 0 ⟨0, []⟩) = false ∧ wellFormed (.powerSample 0 ⟨0, [0, 0, 0, 0, 0, 0]⟩) = true := by decide +kernel
theorem test_wf_telemetryRecord : wellFormed (.telemetryRecord []) = false ∧ wellFormed (.telemetryRecord (List.replicate 64 0)) = true := by decide +kernel


/-- A host request's header. -/
def hz (n : BitVec 16 := 16) : HzHead := { src := 1, major := 1, minor := 0, flags := 2, bodyLen := n, session := 1, seq := 1, tagOk := true }

theorem test_wf_host_requests : wellFormed (.regWrite 0 hz 0 (List.replicate 517 0)) = false ∧ wellFormed (.regWrite 0 hz 0 (List.replicate 516 0)) = true
    ∧ wellFormed (.memWrite 0 hz 0 (List.replicate 4129 0)) = false ∧ wellFormed (.memWrite 0 hz 0 (List.replicate 4128 0)) = true := by decide +kernel

/-- A RoCEv2 packet to queue pair 0x100 of endpoint 0. -/
def pkt (op : Byte) (data : List Byte) : RdmaPkt :=
  { src := 1, qpn := 0x100, psn := 0, opcode := op, malformed := false, rkey := 0, va := 0, len := BitVec.ofNat 32 data.length, data := data, unitOk := true }

theorem test_wf_rdmaWrite : wellFormed (.rdmaWrite 0 (pkt 0x0A (List.replicate 4097 0))) = false ∧ wellFormed (.rdmaWrite 0 (pkt 0x0A [])) = true := by decide +kernel

/-! ### The core (R43 to R73) -/

/-- A layout A row takes its word with s1 and s2 and leaves `r` in s31. -/
def aluA (i : Instr) (code : Nat) (a b r : Word64) : Bool :=
  let w := word code [(107, 31), (102, 1), (97, 2)]
  let s := with12 a b (at0 w)
  decide (Live s ∧ Takes s 0 w ∧ wcode w = code) && got i s (fun t => t.sreg 0 31 == r && t.pc 0 == 1 && t.opseq 0 == 1 && t.sreg 0 1 == a)

/-- A layout I row with s1 and the immediate `b`. -/
def aluI (i : Instr) (code : Nat) (a b r : Word64) : Bool :=
  let w := word code [(107, 31), (102, if code = 0x02F then 0 else 1), (38, b.toNat)]
  let s := with12 a 0 (at0 w)
  decide (Live s ∧ Takes s 0 w ∧ wcode w = code) && got i s (fun t => t.sreg 0 31 == r && t.pc 0 == 1 && t.opseq 0 == 1)

theorem test_alu_registers : (aluA (.add 0) 0x008 0xFFFF_FFFF_FFFF_FFFF 2 1 && aluA (.sub 0) 0x009 1 2 0xFFFF_FFFF_FFFF_FFFF
    && aluA (.mul 0) 0x00A 0x1_0000_0001 0x1_0000_0001 0x2_0000_0001 && aluA (.andW 0) 0x00C 0xFF0F 0x0FF0 0x0F00 && aluA (.orW 0) 0x00D 0xF0 0x0F 0xFF
    && aluA (.xorW 0) 0x00E 0xFF 0x0F 0xF0 && aluA (.shl 0) 0x010 1 127 0x8000_0000_0000_0000 && aluA (.shr 0) 0x011 0x8000_0000_0000_0000 127 1
    && aluA (.sra 0) 0x012 0x8000_0000_0000_0000 63 0xFFFF_FFFF_FFFF_FFFF && aluA (.slt 0) 0x014 0xFFFF_FFFF_FFFF_FFFF 0 1
    && aluA (.sltu 0) 0x015 0xFFFF_FFFF_FFFF_FFFF 0 0 && aluA (.seq 0) 0x016 7 7 1) = true := by decide +kernel

theorem test_alu_immediates : (aluI (.addi 0) 0x020 1 0xFFFF_FFFF_FFFF_FFFF 0 && aluI (.andi 0) 0x024 0xFF0F 0x0FF0 0x0F00 && aluI (.ori 0) 0x025 0xF0 0x0F 0xFF
    && aluI (.xori 0) 0x026 0xFF 0x0F 0xF0 && aluI (.shli 0) 0x028 1 63 0x8000_0000_0000_0000 && aluI (.shri 0) 0x029 0x8000_0000_0000_0000 63 1
    && aluI (.srai 0) 0x02A 0x8000_0000_0000_0000 63 0xFFFF_FFFF_FFFF_FFFF && aluI (.slti 0) 0x02C 0x8000_0000_0000_0000 0x7FFF_FFFF_FFFF_FFFF 1
    && aluI (.sltiu 0) 0x02D 0x8000_0000_0000_0000 0x7FFF_FFFF_FFFF_FFFF 0 && aluI (.seqi 0) 0x02E 7 7 1
    && aluI (.movi 0) 0x02F 0 0x1234_5678_9ABC_DEF0 0x1234_5678_9ABC_DEF0) = true := by decide +kernel

/-- A write to s0 is discarded (R49). -/
theorem test_s0_stays_zero : got (.movi 0) (at0 (word 0x02F [(38, 7)])) (fun t => t.sreg 0 0 == 0 && t.pc 0 == 1) = true := by decide +kernel

/-- A branch on s1 and s2 to index 4095. -/
def brTo (i : Instr) (code : Nat) (a b : Word64) (dst : Nat) : Bool :=
  let w := word code [(107, 1), (102, 2), (90, 4095)]
  let s := with12 a b (at0 w)
  decide (Live s ∧ Takes s 0 w ∧ wcode w = code) && got i s (fun t => t.pc 0 == dst && t.opseq 0 == 1)

theorem test_branches : (brTo (.beq 0) 0x040 3 3 4095 && brTo (.beq 0) 0x040 3 4 1 && brTo (.bne 0) 0x041 3 4 4095 && brTo (.bne 0) 0x041 3 3 1
    && brTo (.blt 0) 0x042 0xFFFF_FFFF_FFFF_FFFF 0 4095 && brTo (.bge 0) 0x043 0xFFFF_FFFF_FFFF_FFFF 0 1 && brTo (.bltu 0) 0x044 0xFFFF_FFFF_FFFF_FFFF 0 1
    && brTo (.bgeu 0) 0x045 0xFFFF_FFFF_FFFF_FFFF 0 4095) = true := by decide +kernel

/-- A jump row of a word. -/
def jumps (i : Instr) (w : Word128) (s1 : Word64) (p : State → Bool) : Bool :=
  let s := (with12 s1 0 (at0 w)).setSreg 0 31 9
  decide (Live s ∧ Takes s 0 w) && got i s p

theorem test_jumps : (jumps (.jmp 0) (word 0x046 [(90, 77)]) 0 (fun t => t.pc 0 == 77) && jumps (.call 0) (word 0x047 [(90, 77)]) 0 (fun t => t.pc 0 == 77 && t.sreg 0 31 == 1)
    && jumps (.ret 0) (word 0x048 []) 0 (fun t => t.pc 0 == 9) && jumps (.jr 0) (word 0x049 [(107, 1)]) 0x1005 (fun t => t.pc 0 == 5)
    && jumps (.dbnz 0) (word 0x04A [(107, 1), (90, 77)]) 2 (fun t => t.pc 0 == 77 && t.sreg 0 1 == 1)
    && jumps (.dbnz 0) (word 0x04A [(107, 1), (90, 77)]) 1 (fun t => t.pc 0 == 1 && t.sreg 0 1 == 0)) = true := by decide +kernel

/-- R45: after word 4,095 comes word 0. -/
theorem test_pc_wraps : let s := ((at0 0).setPc 0 4095).setCell 0 { st := .running, hopper := [(4095, { bits := word cNOP [], status := .valid })] }
    Live s ∧ Takes s 0 (word cNOP []) ∧ wcode (word cNOP []) = cNOP ∧ got (.nop 0) s (fun t => t.pc 0 == 0) = true := by decide +kernel

/-- R46, R54: an unloaded word, a pending one, and a bad one: END of scope 5. -/
theorem test_words_at_the_pc :
    (let s := at0 0; let u := s.setCell 0 { st := .running }; let p := s.setCell 0 { st := .running, hopper := [(0, { status := .pending })] }
     Live u ∧ Reaches u 0 ∧ ((u.cell 0).hopper.get {} (u.pc 0)).status = .unloaded ∧ (u.cell 0).launchPending (u.pc 0) = false
     ∧ got (.nop 0) u (fun t => (t.cell 0).st == .halted && t.rf (cellBase 0 + rHALT) 7 0 == HaltReason.hopperUnloaded.code) = true
     ∧ Live p ∧ Reaches p 0 ∧ ((p.cell 0).hopper.get {} (p.pc 0)).status = .pending ∧ idles (.nop 0) p = true)
    ∧ (let w := word cEND [(109, 5)]; let s := at0 w
       Live s ∧ Reaches s 0 ∧ s.wordAt 0 = some w ∧ wcode w = cEND ∧ dispatchCheck w = some .badOperand
       ∧ got (.endRun 0) s (fun t => (t.cell 0).st == .halted && t.rf (cellBase 0 + rHALT) 7 0 == HaltReason.badOperand.code && t.opseq 0 == 1) = true) := by decide +kernel

/-- R50: a row waits while a load is awaited. -/
theorem test_core_waits : (let w := word cNOP []; let s := at0 w { ld := some { rt := 1, addr := 0, size := 3, seq := 0, pc := 0, word := 0 } }
    s.wordAt 0 = some w ∧ wcode w = cNOP ∧ (layoutOf (wcode w)).isSome = true ∧ (s.cell 0).ld.isSome = true ∧ idles (.nop 0) s = true) := by decide +kernel


/-! ### The core's other commands (R43, R47, R51, R52, R58, R63, R65, R72, R73) -/

/-- A word of the core that cell 0 takes, and what holds after it. -/
def takes0 (i : Instr) (w : Word128) (s : State) (p : State → Bool) : Bool := decide (Live s ∧ Takes s 0 w) && got i s p

theorem test_core_commands :
    ((let w := word cEND [(109, 4)]; takes0 (.endRun 0) w (at0 w) (fun t => (t.cell 0).endReq == some { seq := 0, scope := 4, pc := 0, word := w } && t.pc 0 == 1))
    && (let w := word cHFETCH [(107, 1), (90, 4095), (78, 1)]; let s := with12 0x1000 0 (at0 w)
        (s.cell 0).hfetches < 4 && takes0 (.hfetch 0) w s (fun t => (t.cell 0).fetches.length == 1 && ((t.cell 0).hopper.get {} 4095).status == .pending
          && ((t.cell 0).hopper.get {} 0).status == .pending && ((t.cell 0).hopper.get {} 1).status == .unloaded))
    && (let w := word cHWAIT []; takes0 (.hwait 0) w (at0 w) (fun t => t.pc 0 == 1))
    && (let w := word cRDCNT [(107, 31), (103, 1)]; takes0 (.rdcnt 0) w ((at0 w).wr (cellBase 0 + rOPSEQ) 9) (fun t => t.sreg 0 31 == 9))
    && (let w := word cRDCNT [(107, 31), (103, 3)]; takes0 (.rdcnt 0) w (at0 w) (fun t => t.sreg 0 31 == 5))
    && (let w := word cFENCE [(109, 1), (104, 31), (99, 31)]; takes0 (.fence 0) w (at0 w) (fun t => (t.cell 0).fences == [{ seq := 0, scope := 1, wait := 31, hold := 31 }]))
    && (let w := word cPHASE [(106, 63), (105, 1)]; takes0 (.phase 0) w (at0 w) (fun t => (t.region 0).tag == some 63 && (t.region 0).tagJob == 5 && t.rd (cellBase 0 + 0x88) == 0x13F))
    && (let w := word cTRAP [(96, 0xABCD), (94, 1), (89, 1)]; takes0 (.trap 0) w (with12 7 0 (at0 w)) (fun t => (t.cell 0).st == .halted
          && t.rf (cellBase 0 + rHALT) 7 0 == HaltReason.userTrap.code
          && t.raised == [{ code := evUserTrap, part := 0, job := 5, kind := 4, index := 0, arg0 := 0xABCD, arg1 := 0, arg2 := 7 }]))) = true := by decide +kernel

theorem test_rdcnt_selectors :
    ((let w := word cRDCNT [(107, 31), (103, 2)]; takes0 (.rdcnt 0) w (at0 w) (fun t => t.sreg 0 31 == 0))
    && (let w := word cRDCNT [(107, 31), (103, 4)]; takes0 (.rdcnt 0) w (at0 w) (fun t => t.sreg 0 31 == BitVec.ofNat 64 (rst.coordOf 0)))
    && (let w := word cRDCNT [(107, 31), (103, 5)]; decide (Live (at0 w) ∧ Takes (at0 w) 0 w ∧ wcode w = cRDCNT))) = true := by decide +kernel

/-- LD and ST of 8 bytes at s1 + 8, and at an address no memory has. -/
theorem test_load_and_store_are_taken :
    ((let w := word cLD [(107, 31), (102, 1), (38, 8), (35, 3)]; let s := with12 0x1000 0 (at0 w)
      !s.ldFault 0 (rA s 0 w + fImm w) 8 && takes0 (.ld 0) w s (fun t => (t.cell 0).ld == some { rt := 31, addr := 0x1008, size := 3, seq := 0, pc := 0, word := w } && t.pc 0 == 1))
    && (let w := word cST [(107, 2), (102, 1), (38, 8), (35, 3)]; let s := with12 0x1000 0x0102 (at0 w)
      !s.stFault 0 (rA s 0 w + fImm w) 8 && takes0 (.st 0) w s (fun t => (t.cell 0).sts.map (fun q => (q.addr, q.bytes)) == [(0x1008, [2, 1, 0, 0, 0, 0, 0, 0])]))
    && (let w := word cLD [(107, 31), (102, 1), (35, 3)]; let s := with12 0xF0_0000_0000_0000 0 (at0 w)
      s.ldFault 0 (rA s 0 w + fImm w) 8 && takes0 (.ld 0) w s (fun t => (t.cell 0).st == .halted && t.rd (cellBase 0 + rFAULTADDR) == 0xF0_0000_0000_0000))
    && (let w := word cST [(107, 2), (102, 1), (35, 3)]; let s := with12 0xF0_0000_0000_0000 0 (at0 w)
      s.stFault 0 (rA s 0 w + fImm w) 8 && takes0 (.st 0) w s (fun t => (t.cell 0).st == .halted && t.rf (cellBase 0 + rHALT) 7 0 == HaltReason.addressFault.code))) = true := by decide +kernel

/-- A cell that awaits a load of `n` bytes at an address into s31. -/
def loading (a : Word64) (size : Nat) : Cell := { ld := some { rt := 31, addr := a, size := size, seq := 0, pc := 0, word := 0 } }

theorem test_load_data :
    (let s := (inSt .running (loading 0x1000 4)).storeRun 0x1000 [0x80, 0xFF]
     Live s ∧ s.locate (s.cellRq 0) false 0x1000 (sizeBytes 4) = .mem 0x1000 ∧ s.busyAt 0x1000 (sizeBytes 4) = none ∧ (s.cell 0).sts = [] ∧ s.lostRegions = []
     ∧ (∀ j, j < sizeBytes 4 → s.poisoned (0x1000 + j) = false)
     ∧ got (.ldDataReturn 0 .ok) s (fun t => (t.cell 0).ld == none && t.sreg 0 31 == extendLoad 4 (ofBytes (s.readB 0x1000 (sizeBytes 4)))) = true)
    ∧ (let s := (inSt .running (loading 0x1000 3)).setPoison 0x1000 true
     (∃ j, j < sizeBytes 3 ∧ s.poisoned (0x1000 + j) = true)
     ∧ got (.ldDataReturn 0 .ok) s (fun t => (t.cell 0).st == .halted && t.rf (cellBase 0 + rHALT) 7 0 == HaltReason.poison.code && t.rd (cellBase 0 + rFAULTADDR) == 0x1000) = true)
    ∧ (let s := (inSt .running (loading (4 * 0x10_0000_0000_0000 + 8) 3)).setCtr 1 { st := .owned, job := 9, value := 42 }
     s.locate (s.cellRq 0) false (4 * 2 ^ 52 + 8) 8 = .ctr 8 ∧ s.ctrKey (s.cellPart 0) 8 = some 1 ∧ s.ctrLost 1 = false
     ∧ got (.ldDataReturn 0 .ok) s (fun t => t.sreg 0 31 == 42 && t.counters == s.counters) = true) := by decide +kernel

/-- A cell whose posted store of two bytes waits. -/
def storing : Cell := { sts := [{ addr := 0x101E, bytes := [0xAA, 0xBB], seq := 3, pc := 0, word := 0, atCell := true }] }

theorem test_posted_store : (let s := inSt .running { storing with sts := storing.sts.map (fun q => { q with atCell := false }) }
    s.ownStore 0 { addr := 0x101E, bytes := [0xAA, 0xBB], seq := 3, pc := 0, word := 0 } = false ∧ got (.stPerformed 0 0) s (fun t => (t.cell 0).sts == storing.sts && t.mem == []) = true)
    ∧ (let s := inSt .running storing
    Live s ∧ s.stBlocked 0 { addr := 0x101E, bytes := [0xAA, 0xBB], seq := 3, pc := 0, word := 0, atCell := true } [] = false ∧ s.locate (s.cellRq 0) true 0x101E 2 = .mem 0x101E
    ∧ s.busyAt 0x101E 2 = none ∧ s.lostRegions = [] ∧ s.stale = [] ∧ s.missedUnits 0x101E 2 = [] ∧ 0x101E % 32 + 2 ≤ 32
    ∧ got (.stPerformed 0 0) s (fun t => (t.cell 0).sts == [] && t.mem == [(0x101E, 0xAA), (0x101F, 0xBB)]) = true
    ∧ got (.stPerformed 0 0) (s.setPoison 0x101E true) (fun t => (t.cell 0).sts == [] && t.mem == []) = true) := by decide +kernel

theorem test_fence_and_held_access :
    (let s := inSt .running { fences := [{ seq := 4, scope := 1, wait := 31, hold := 31 }] }
     (s.cell 0).earlierDone 31 1 4 = true ∧ got (.fenceSatisfied 0 0) s (fun t => (t.cell 0).fences == []) = true)
    ∧ (let h : Held := { who := .core 0 3, cell := 0, set := 0 }; let s := { inSt .running storing with held := [h] }
     (s.held.filter (fun h => h.cell == 0))[0]? = some h ∧ findIdx (fun y : StReq => y.seq == 3) (s.cell 0).sts = some 0
     ∧ got (.heldAccessProceed 0 0) s (fun t => t.held == [] && (t.cell 0).sts == []) = true)
    ∧ (let h : Held := { who := .core 0 4, cell := 0, set := 0 }; let s := { inSt .running storing with held := [h] }
     s.heldAlive h = false ∧ got (.heldAccessProceed 0 0) s (fun t => t.held == [] && (t.cell 0).sts == storing.sts) = true) := by decide +kernel

/-- R52: a ninth ST notes the oldest of the eight that are outstanding, and waits for it alone. -/
theorem test_ninth_store : (let w := word cST [(107, 2), (102, 1), (38, 8), (35, 3)]
    let q (n : Nat) : StReq := { addr := 0x2000, bytes := [1], seq := BitVec.ofNat 64 n, pc := 0, word := 0 }
    let s := with12 0x1000 0x0102 (at0 w { sts := (upTo 8).map q })
    Live s ∧ Takes s 0 w ∧ (s.cell 0).posted.head? = some (q 0) ∧ 8 ≤ (s.cell 0).posted.length ∧ got (.st 0) s (fun t => (t.cell 0).stWait == some 0 && t.pc 0 == 0) = true
    ∧ idles (.st 0) (s.setCell 0 { s.cell 0 with stWait := some 0 }) = true) := by decide +kernel

theorem test_end_of_run :
    (let s := inSt .running { endReq := some { seq := 7, scope := 1, pc := 3, word := 0 } }
     Live s ∧ (s.cell 0).earlierDone 31 1 7 = true ∧ s.rb (cellBase 0 + 0x48) 12 = false ∧ got (.endComplete 0) s (fun t => (t.cell 0).st == .idle) = true)
    ∧ (let s := (((inSt .running { endReq := some { seq := 7, scope := 1, pc := 3, word := 0 } }).wr (cellBase 0 + 0x48) 0x1000).wr (cellBase 0 + 0x58) 10).wr (cellBase 0 + 0x60) 4
     s.rb (cellBase 0 + 0x48) 12 = true ∧ got (.endComplete 0) s (fun t => (t.cell 0).st == .armed && t.rd (cellBase 0 + 0x58) == 14 && t.opseq 0 == 0) = true) := by decide +kernel


/-! ### The cell's life, its registers and its fetches (R40 to R48, R74, R76, R78, R81, R104) -/

theorem test_arm : (let s := (inSt .idle).wr (cellBase 0 + 0x50) 0x8000_0000_0000_0000; let s := s.setSreg 0 31 7
    Live s ∧ s.armOk 0 = true ∧ s.rb (cellBase 0 + 0x50) 63 = true ∧ got (.cellArm 0) s (fun t => (t.cell 0).st == .fetching && t.sreg 0 31 == 0 && t.pc 0 == 0 && t.opseq 0 == 0) = true)
    ∧ (let s := inSt .idle; s.armOk 0 = true ∧ got (.cellArm 0) s (fun t => (t.cell 0).st == .armed) = true)
    ∧ (rst.armOk 0 = false ∧ got (.cellArm 0) rst (fun t => t.rb (cellBase 0 + rSTATUS) 17 && (t.cell 0).st == .idle) = true) := by decide +kernel

theorem test_disarm_drain_kill_clear :
    got (.cellDisarm 0) (inSt .armed) (fun t => (t.cell 0).st == .idle) = true
    ∧ (let s := inSt .frozen { endReq := some { seq := 7, scope := 1, pc := 3, word := 0 } }
       (s.cell 0).xSync.all SyncX.parked = true ∧ got (.cellDrain 0) s (fun t => (t.cell 0).st == .draining && (t.cell 0).endReq == none) = true)
    ∧ got (.cellKill 0) (inSt .halted { sts := storing.sts.map (fun q => { q with atCell := false }), qSync := [{ word := 0, seq := 1, pc := 0, ops := [] }] }) (fun t =>
        (t.cell 0).st == .killing && (t.cell 0).qSync == [] && (t.cell 0).sts == [] && (t.cell 0).frozenCtrs) = true
    ∧ got (.cellClear 0) (inSt .killed { frozenCtrs := true }) (fun t => (t.cell 0).st == .idle && !(t.cell 0).frozenCtrs) = true := by decide +kernel

theorem test_resume_freeze :
    (let s := (inSt .halted).wf (cellBase 0 + rHALT) 7 0 HaltReason.userTrap.code
     s.rf (cellBase 0 + rHALT) 7 0 = HaltReason.userTrap.code ∧ got (.cellResume 0) s (fun t => (t.cell 0).st == .running) = true)
    ∧ got (.freezeSet 0) (inSt .running) (fun t => (t.cell 0).st == .freezing && (t.cell 0).prior == .running) = true
    ∧ got (.freezeClear 0) (inSt .frozen { prior := .running }) (fun t => (t.cell 0).st == .running) = true
    ∧ (let s := inSt .freezing { prior := .armed, lCtr := 0x8000_0000_0000_0000 }
       got (.freezeClear 0) s (fun t => (t.cell 0).st == .fetching) = true)
    ∧ (let s := inSt .freezing; s.executing 0 = false ∧ got (.freezeComplete 0) s (fun t => (t.cell 0).st == .frozen) = true)
    ∧ (let s := inSt .draining; s.executing 0 = false ∧ got (.cellDrainComplete 0) s (fun t => (t.cell 0).st == .idle) = true)
    ∧ (let s := inSt .killing; s.executing 0 = false ∧ got (.killComplete 0) s (fun t => (t.cell 0).st == .killed) = true) := by decide +kernel

/-- R76: each CELL.CTRL bit in a state that rejects it. -/
theorem test_rejected_control_writes : [Instr.cellDisarm 0, .cellDrain 0, .cellKill 0, .cellClear 0, .cellResume 0].all (fun i =>
    got i (inSt .idle) (fun t => t.rb (cellBase 0 + rSTATUS) 17 && (t.cell 0).st == .idle)) = true := by decide +kernel

theorem test_cell_registers :
    (got (.cellJobWrite 575 0xFFFF_FFFF) rst (fun t => t.job 575 == 0xFFFF) && got (.cellJobWrite 0 6) (inSt .armed) (fun t => t.job 0 == 5 && t.rb (cellBase 0 + rSTATUS) 17)
    && got (.sregWrite 0 31 9) (inSt .halted) (fun t => t.sreg 0 31 == 9) && got (.sregWrite 0 0 9) (inSt .frozen) (fun t => t.sreg 0 0 == 0)
    && got (.sregWrite 0 31 9) (inSt .running) (fun t => t.sreg 0 31 == 0 && t.rb (cellBase 0 + rSTATUS) 17)
    && got (.hopperDataLoWrite 0 3) (inSt .idle) (fun t => (t.cell 0).holding == 3)
    && (let s := (inSt .idle { holding := 3 }).wr (cellBase 0 + rHINDEX) 4095
        got (.hopperDataHiWrite 0 2) s (fun t => (t.cell 0).hopper.get {} 4095 == { bits := 0x2_0000_0000_0000_0003, status := .valid } && t.rf (cellBase 0 + rHINDEX) 11 0 == 0))
    && got (.hopperDataHiRead 0) (inSt .running) (fun t => t.rf (cellBase 0 + rHINDEX) 11 0 == 1)
    && got (.nanRecClear 0) ((inSt .idle).wr (cellBase 0 + rNANK) 7) (fun t => t.rd (cellBase 0 + rNANK) == 0)) = true := by decide +kernel

/-- A fetch of two words at 0x1000. -/
def fetch2 (launch : Bool) (first arrived : Nat) : Fetch := { launch := launch, addr := 0x1000, first := first, count := 2, arrived := arrived }

theorem test_fetched_words :
    (let s := (inSt .fetching { fetches := [fetch2 true 0 0] }).storeRun 0x1000 [7]
     Live s ∧ s.locate (s.cellRq 0) false (fld ((0x1000 : Word64) + BitVec.ofNat 64 (16 * 0)) 56 0) 16 = .mem 0x1000 ∧ s.busyAt 0x1000 16 = none ∧ (∀ j, j < 16 → s.poisoned (0x1000 + j) = false)
     ∧ got (.launchFetchWord 0 .ok) s (fun t => (t.cell 0).hopper.get {} 0 == { bits := 7, status := .valid } && (t.cell 0).st == .running
        && (t.cell 0).fetches == [fetch2 true 0 1]) = true
     ∧ got (.launchFetchWord 0 .ok) (s.setPoison 0x1000 true) (fun t => (t.cell 0).st == .halted && t.rf (cellBase 0 + rHALT) 7 0 == HaltReason.poison.code) = true)
    ∧ (let s := (inSt .running { fetches := [fetch2 false 4094 1] }).storeRun 0x1010 [8]
     s.locate (s.cellRq 0) false (fld ((0x1000 : Word64) + BitVec.ofNat 64 (16 * 1)) 56 0) 16 = .mem 0x1010 ∧ s.locate (s.cellRq 0) false (fld (0x1000 : Word64) 56 0) (16 * 2) = .mem 0x1000
     ∧ got (.hfetchWordArrive 0 .ok) s (fun t => (t.cell 0).hopper.get {} 4095 == { bits := 8, status := .valid } && (t.cell 0).fetches == []) = true) := by decide +kernel

/-- R60, R61: a full queue stalls the core; the engine begins the oldest command; a frozen cell begins none. -/
theorem test_queues :
    (let w := word cVMOP [(109, 7)]; let s := at0 w
     Live s ∧ Takes s 0 w ∧ ((s.cell 0).queue (classUnit 2)).length < queueDepth (classUnit 2)
     ∧ got (.vmop 0 .dispatch) s (fun t => (t.cell 0).qVector == [{ word := w, seq := 0, pc := 0, ops := [] }] && t.pc 0 == 1 && t.opseq 0 == 1) = true)
    ∧ (let w := word cVMOP [(109, 7)]; let s := at0 w { qVector := List.replicate (queueDepth (classUnit 2)) { word := 0, seq := 0, pc := 0, ops := [] } }
     Takes s 0 w ∧ idles (.vmop 0 .dispatch) s = true)
    ∧ (let q : QCmd := { word := word cVMOP [], seq := 0, pc := 0, ops := [] }; let s := inSt .running { qVector := [q] }
     (s.cell 0).st.begins = true ∧ s.clocked 0 = true ∧ (s.cell 0).fenceHolds .vector q.seq = false ∧ s.engineFree 0 .vector q.word = true
     ∧ got (.engineCommandBegin 0 .vector) s (fun t => (t.cell 0).qVector == [] && (t.cell 0).xVector.length == 1) = true
     ∧ idles (.engineCommandBegin 0 .vector) (inSt .frozen { qVector := [q] }) = true) := by decide +kernel


/-! ### The matrix array and the millrace (R105 to R130) -/

/-- A begun command of a word with its scalar operands. -/
def begun (w : Word128) (ops : List Word64 := []) : QCmd := { word := w, seq := 3, pc := 0, ops := ops }

/-- Cell 0 running with one begun array command. -/
def arr0 (y : ArrX) (x : Cell := {}) : State := inSt .running { x with xArray := [y] }

theorem test_tdld :
    (let y : ArrX := { cmd := begun (word cTDLD [(108, 15), (86, 0x3F_FFE0)]) }; let s := (arr0 y).storeRun (cellKey 0 0x3F_FFE8) [7]
     Live s ∧ ArrNext s 0 0 y cTDLD ∧ fld y.cmd.word 107 86 % 16 = 0 ∧ fld y.cmd.word 107 86 + 32 ≤ 0x40_0000 ∧ s.poisonAddr 0 [(fld y.cmd.word 107 86, 32)] = none
     ∧ got (.tdld 0 .execute) s (fun t => t.rd (cellBase 0 + rTD 15 1) == 7 && (t.cell 0).xArray == [{ y.end with started := true }]) = true)
    ∧ (let y : ArrX := { cmd := begun (word cTDLD [(86, 8)]) }; let s := arr0 y
     ArrNext s 0 0 y cTDLD ∧ fld y.cmd.word 107 86 % 16 ≠ 0
     ∧ got (.tdld 0 .execute) s (fun t => (t.cell 0).st == .halted && t.rf (cellBase 0 + rARRERR) 7 0 == 2 && (t.cell 0).xArray == []) = true) := by decide +kernel

theorem test_afill : (let y : ArrX := { cmd := begun (word cAFILL [(110, 3)]) [0] }; let s := (arr0 y).storeRun (cellKey 0 0x40_3FFF) [7]
    ArrNext s 0 0 y cAFILL ∧ setOff (fld y.cmd.word 111 110) = 0x40_3000 ∧ s.memB (cellKey 0 0x40_3FFF) = 7) := by decide +kernel

/-- An MMA of INT8 operands (formats 8 and 8) over 32 K indices with zeroing, descriptors 0 and 1. -/
def mma0 : ArrX := { cmd := begun (word cMMA [(102, 1), (101, 1), (97, 8), (93, 8), (69, 31)]) [0] }

theorem test_mma : (let s := (arr0 mma0).wr (cellBase 0 + rTD 1 1) 32; let s := s.wr (cellBase 0 + rTD 0 1) 32
    ArrNext s 0 0 mma0 cMMA ∧ (s.mmaOf 0 mma0.cmd).opFails (s.mmaOf 0 mma0.cmd).a false = [] ∧ (s.mmaOf 0 mma0.cmd).opFails (s.mmaOf 0 mma0.cmd).b true = []
    ∧ dSRC (s.mmaOf 0 mma0.cmd).b.d ≠ 1 ∧ (s.mmaOf 0 mma0.cmd).zero = true ∧ (s.mmaOf 0 mma0.cmd).slices = 1) := by decide +kernel

/-- The same MMA issuing its slice; a DRAIN and an ASCALE that pass their checks. -/
theorem test_array_work :
    (let y : ArrX := { mma0 with started := true, total := 1 }; let s := arr0 y
     findIdx (fun z => z.started && !z.finished && wcode z.cmd.word == cMMA) (s.cell 0).xArray = some 0 ∧ (s.cell 0).xArray[0]? = some y ∧ y.slices < y.total ∧ s.clocked 0 = true
     ∧ dSRC (s.mmaOf 0 y.cmd).b.d ≠ 1)
    ∧ (let y : ArrX := { mma0 with started := true, total := 1 }
     let s := (arr0 y { headrace := { items := List.replicate 2048 { job := 5, byte := some (1, false) } } }).wr (cellBase 0 + rTD 1 0) 0x80_0000
     dSRC (s.mmaOf 0 y.cmd).b.d = 1 ∧ (s.cell 0).hrBypass = false ∧ (s.cell 0).st ≠ .frozen
     ∧ (match s.hrPeek 0 (s.mmaOf 0 y.cmd).streamBytes with | .bytes bs => bs.length == (s.mmaOf 0 y.cmd).streamBytes | _ => false) = true)
    ∧ (let y : ArrX := { cmd := begun (word cDRAIN [(110, 2)]) }; let s := arr0 y; ArrNext s 0 0 y cDRAIN ∧ (s.drainOf 0 y.cmd.word).fails = [])
    ∧ (let y : ArrX := { cmd := begun (word cASCALE [(110, 2), (88, 0x3F_FF80)]) }; let s := arr0 y
     ArrNext s 0 0 y cASCALE ∧ fld y.cmd.word 109 88 % 128 = 0 ∧ fld y.cmd.word 109 88 + 128 ≤ 0x40_0000
     ∧ s.poisonAddr 0 [(fld y.cmd.word 109 88, 128), (setOff (fld y.cmd.word 111 110), 4096)] = none) := by decide +kernel

theorem test_array_completion :
    (let y : ArrX := { mma0 with started := true, finished := true }; let s := arr0 y
     got (.arrayCommandComplete 0) s (fun t => (t.cell 0).xArray == []) = true)
    ∧ (let y : ArrX := { mma0 with started := true, finished := true, poisonAt := some 0x40 }; let s := arr0 y
     got (.arrayCommandComplete 0) s (fun t => (t.cell 0).st == .halted && t.rf (cellBase 0 + rHALT) 7 0 == HaltReason.poison.code && t.rd (cellBase 0 + rFAULTADDR) == 0x40) = true)
    ∧ (let y : ArrX := { mma0 with cmd := { mma0.cmd with word := mma0.cmd.word ||| (1 : Word128) <<< 113 }, started := true, finished := true, nanCfg := 1, origin := some { unit := 0, stage := 0 } }
     wTRAP y.cmd.word = true ∧ got (.arrayCommandComplete 0) (arr0 y) (fun t => (t.cell 0).st == .halted && t.rf (cellBase 0 + rHALT) 7 0 == HaltReason.nanTrap.code) = true)
    ∧ (let y : ArrX := { mma0 with started := true, finished := true, err := some (9, 2, 0) }
     got (.arrayCommandComplete 0) (arr0 y) (fun t => (t.cell 0).st == .halted && t.rf (cellBase 0 + rARRERR) 7 0 == 9) = true)
    ∧ idles (.arrayCommandComplete 0) (arr0 { mma0 with started := true }) = true := by decide +kernel

/-- A link register that names cell 1 of this package. -/
def hopTo1 : Word64 := 0x8000_0000_0000_0001

/-- An MRED of a role under tag 9. -/
def mred (role : Nat) (y : ArrX := { cmd := begun 0 }) : ArrX := { y with cmd := begun (word cMRED [(108, role), (92, 9)]) }

/-- A tile of ones that lists few elements. -/
def tile9 : Tile := { tag := 9, job := 5, elems := [], poison := [] }

theorem test_mred_begins :
    (let y := mred 0; let s := (arr0 y).wr (cellBase 0 + mrNEXT) hopTo1
     ArrNext s 0 0 y cMRED ∧ mrRole y.cmd.word = 0 ∧ (s.mrNext 0).valid = true ∧ mrZero y.cmd.word = false
     ∧ got (.mred 0 .execute) s (fun t => ((t.cell 0).mredIn .credit).map (fun j => j.1) == some 0) = true)
    ∧ (let y := mred 2; let s := (arr0 y).wr (cellBase 0 + mrPREV) hopTo1
     ArrNext s 0 0 y cMRED ∧ mrRole y.cmd.word = 2 ∧ (s.mrPrev 0).valid = true ∧ (s.cell 0).rxTiles = []
     ∧ got (.mred 0 .execute) s (fun t => (t.cell 0).mredIn .tile == some (0, { y with started := true, wait := .tile })) = true) := by decide +kernel

theorem test_millrace_hops :
    (let y : ArrX := { mred 0 with started := true, wait := .credit, tile := some tile9 }; let s := (arr0 y).wr (cellBase 0 + mrNEXT) hopTo1
     (s.cell 0).mredIn .credit = some (0, y) ∧ (s.mrNext 0).remote = false ∧ s.hopFails 0 = false ∧ s.tileRoom (s.mrNext 0).cell = true
     ∧ got (.millraceCredit 0) s (fun t => (t.cell 0).mredIn .accept == some (0, { y with wait := .accept }) && t.rd (cellBase 0 + mrTX) == 1) = true)
    ∧ (let y : ArrX := { mred 0 with started := true, wait := .accept, tile := some tile9 }
     let s := ((((arr0 y).wr (cellBase 0 + mrNEXT) hopTo1).wr (cellBase 1 + mrPREV) 0x8000_0000_0000_0000).wr (cellBase 1 + rJOB) 5).setCell 1 { st := .running }
     (s.cell 0).mredIn .accept = some (0, y) ∧ (s.mrNext 0).remote = false ∧ (s.mrNext 0).cell = 1 ∧ s.hopFails 0 = false ∧ s.tileOk 1 (s.coordOf (s.cellPart 0)) 0 tile9.job = true
     ∧ (s.cell 1).mredIn .tile = none
     ∧ got (.millraceTileReceive 0 1) s (fun t => (t.cell 1).rxTiles == [tile9] && (t.cell 0).xArray == [{ y.end with wait := .none, tile := none }]) = true) := by decide +kernel

theorem test_mred_timeouts_and_registers :
    (let y : ArrX := { mred 2 with started := true, wait := .tile }; let s := (arr0 y).wr (cellBase 0 + mrTIMEOUT) 1
     (s.cell 0).mredIn .tile = some (0, y) ∧ s.mrLimit 0 ≠ 0 ∧ got (.mredReceiveTimeout 0) s (fun t => (t.cell 0).xArray == [y.mredErr 0x0B 0]) = true)
    ∧ (let y : ArrX := { mred 0 with started := true, wait := .credit, tile := some tile9 }; let s := (arr0 y).wr (cellBase 0 + mrTIMEOUT) 1
     (s.cell 0).mredIn .credit = some (0, y) ∧ got (.mredCreditTimeout 0) s (fun t => (t.cell 0).xArray == [y.mredErr 0x0B 0]) = true)
    ∧ got (.srSeedWrite 0 0x1_0000_0000) rst (fun t => t.rd (cellBase 0 + rSRSEED) == 0 && t.rd (cellBase 0 + rSRSTATE) == 1) = true
    ∧ got (.mrLinkWrite 0 false 1) (arr0 (mred 0)) (fun t => t.rb (cellBase 0 + 0x800) 3 && t.rd (cellBase 0 + mrNEXT) == 0) = true
    ∧ got (.mrLinkWrite 0 true 0xFFFF_FFFF_FFFF_FFFF) rst (fun t => t.rd (cellBase 0 + mrPREV) == 0xC001_FFFF_0000_03FF) = true := by decide +kernel


/-! ### The vector engine (R131 to R154) -/

/-- Cell 0 running with a begun vector command. -/
def vec0 (y : VecX) (x : Cell := {}) : State := inSt .running { x with xVector := [y] }

theorem test_mask_commands :
    (let y : VecX := { cmd := begun (word cVMOP [(109, 7), (106, 0), (103, 0), (100, 5)]) }; let s := vec0 y
     Live s ∧ VecNext s 0 0 y cVMOP ∧ got (.vmop 0 .execute) s (fun t => (t.cell 0).mask 7 == maskOp 5 0 0) = true)
    ∧ (let y : VecX := { cmd := begun (word cVMRANGE [(109, 7)]) [3, 5] }; let s := vec0 y
     VecNext s 0 0 y cVMRANGE ∧ got (.vmrange 0 .execute) s (fun t => (t.cell 0).mask 7 == 0x18) = true)
    ∧ (let y : VecX := { cmd := begun (word cVMLD [(109, 7)]) [0x3F_FC00] }; let s := (vec0 y).storeRun (cellKey 0 0x3F_FFFF) [0x80]
     VecNext s 0 0 y cVMLD ∧ addrFails (y.cmd.ops.getD 0 0) 1024 128 = [] ∧ s.poisonAddr 0 [((y.cmd.ops.getD 0 0).toNat, 1024)] = none)
    ∧ (let y : VecX := { cmd := begun (word cVMST [(109, 7)]) [0x80] }; let s := vec0 y
     VecNext s 0 0 y cVMST ∧ addrFails (y.cmd.ops.getD 0 0) 1024 128 = [])
    ∧ (let y : VecX := { cmd := begun (word cVPLD [(109, 7)]) [0x10] }; let s := vec0 y
     VecNext s 0 0 y cVPLD ∧ addrFails (y.cmd.ops.getD 0 0) 128 16 = [] ∧ s.poisonAddr 0 [((y.cmd.ops.getD 0 0).toNat, 128)] = none
     ∧ recordFails (ofBytes (s.readB (cellKey 0 (y.cmd.ops.getD 0 0).toNat) 128)) = []
     ∧ got (.vpld 0 .execute) s (fun t => ((t.cell 0).slots.get {} 7).valid) = true) := by decide +kernel

theorem test_element_commands :
    (let y : VecX := { cmd := begun (word cVPROG [(96, 127)]) [0, 0, 0, 0, 0, 0] }; let s := vec0 y { slots := [(0, { valid := true })] }
     VecNext s 0 0 y cVPROG ∧ s.vprogFails 0 y.cmd = [])
    ∧ (let y : VecX := { cmd := begun (word cVRED [(99, 8191), (86, 8191)]) [0x1000, 0x2000] }; let s := vec0 y
     VecNext s 0 0 y cVRED ∧ strmFails (y.cmd.ops.getD 0 0) (fld y.cmd.word 80 77) (fld y.cmd.word 111 99 + 1) = []
     ∧ strmFails (y.cmd.ops.getD 1 0) 0 ((fld y.cmd.word 111 99 + 1 + fld y.cmd.word 98 86) / (fld y.cmd.word 98 86 + 1)) = [])
    ∧ (let y : VecX := { cmd := begun (word cVCOMP [(99, 3), (85, 8)]) [0x1000, 0x2000] }; let s := vec0 y { masks := [(0, 0x15)] }
     VecNext s 0 0 y cVCOMP ∧ compFails y.cmd = [] ∧ got (.vcomp 0 .execute) s (fun t => (t.cell 0).xVector.map (fun z => (z.started, z.total)) == [(true, 1)]) = true
     ∧ got (.vectorGroupIssue 0) (vec0 { y with started := true, total := 1 } { masks := [(0, 0x15)] }) (fun t => (t.cell 0).xVector.map (fun z => (z.result, z.groups, z.finished)) == [(2, 1, true)]) = true)
    ∧ (let y : VecX := { cmd := begun (word cVEXPD [(99, 3), (85, 8)]) [0x1000, 0x2000] }; let s := vec0 y { masks := [(0, 0x15)] }
     VecNext s 0 0 y cVEXPD ∧ compFails y.cmd = [] ∧ got (.vexpd 0 .execute) s (fun t => (t.cell 0).xVector.map (fun z => (z.started, z.total)) == [(true, 1)]) = true
     ∧ got (.vectorGroupIssue 0) (vec0 { y with started := true, total := 1 } { masks := [(0, 0x15)] }) (fun t => (t.cell 0).xVector.map (fun z => (z.result, z.groups, z.finished)) == [(2, 1, true)]) = true) := by decide +kernel

theorem test_vector_groups_and_completion :
    (let y : VecX := { cmd := begun (word cVCOMP [(99, 3), (85, 8)]) [0x1000, 0x2000], started := true, total := 2, groups := 1 }; let s := vec0 y
     (s.cell 0).vecIssuing = some (0, y) ∧ s.clocked 0 = true ∧ s.vecHeld 0 = false ∧ got (.vectorGroupIssue 0) s (fun t =>
       (t.cell 0).xVector.map (fun z => (z.groups, z.finished)) == [(2, true)] && t.rd (cellBase 0 + 0xC10) == 1 && (t.region 0).points == 1) = true)
    ∧ (let y : VecX := { cmd := begun (word cVCOMP [(76, 31)]), started := true, finished := true, result := 9 }; let s := vec0 y
     got (.vectorCommandComplete 0) s (fun t => (t.cell 0).xVector == [] && t.sreg 0 (delivReg y.cmd.word) == (if delivReg y.cmd.word = 0 then 0 else 9)) = true)
    ∧ (let y : VecX := { cmd := begun (word cVCOMP [(76, 31)]), started := true, finished := true, poisonAt := some 0x40 }
     got (.vectorCommandComplete 0) (vec0 y) (fun t => (t.cell 0).xVector == [] && (t.cell 0).st == .halted && t.rd (cellBase 0 + rFAULTADDR) == 0x40) = true)
    ∧ (let y : VecX := { cmd := begun (word cVCOMP [(76, 31)]), started := true, finished := true, err := some (3, 0) }
     got (.vectorCommandComplete 0) (vec0 y) (fun t => (t.cell 0).st == .halted && t.rf (cellBase 0 + rVECERR) 7 0 == 3) = true)
    ∧ got (.mdataRead 0) (rst.wr (cellBase 0 + rMSEL) 127) (fun t => t.rf (cellBase 0 + rMSEL) 6 0 == 0) = true
    ∧ (let s := (inSt .idle).wr (cellBase 0 + rMSEL) 0x381; (s.cell 0).debuggable = true
     ∧ got (.mdataWrite 0 5) s (fun t => (t.cell 0).mask 7 == 5 * 2 ^ 64 && t.rf (cellBase 0 + rMSEL) 6 0 == 2) = true)
    ∧ (((inSt .running).cell 0).debuggable = false ∧ got (.mdataWrite 0 5) (inSt .running) (fun t => (t.cell 0).mask 0 == 0 && t.rb (cellBase 0 + rSTATUS) 17) = true) := by decide +kernel

/-- R151: a command, and a lane group, whose read meets results that an earlier command has in flight. -/
theorem test_vector_interlock :
    (let x : VecX := { cmd := begun (word cVMOP []), started := true, finished := true, total := 1, groups := 1, flight := some { base := 0x1000, outs := [some (1, false)] } }
     let y : VecX := { cmd := begun (word cVMLD []) [0x1000] }; let s := inSt .running { xVector := [x, y] }
     (s.cell 0).vecNew cVMLD = some (1, y) ∧ (s.cell 0).vecInterlock 1 (vecReads0 y.cmd).1 (vecReads0 y.cmd).2 = true ∧ idles (.vmld 0 .execute) s = true)
    ∧ (let x : VecX := { cmd := begun (word cVMOP []), started := true, finished := true, total := 1, groups := 1, flight := some { base := 0x1000, outs := [some (1, false)] } }
     let y : VecX := { cmd := begun (word cVCOMP [(99, 3), (85, 8)]) [0x1000, 0x2000], started := true, total := 1 }; let s := inSt .running { xVector := [x, y], masks := [(0, 0x15)] }
     (s.cell 0).vecIssuing = some (1, y) ∧ s.vecHeld 0 = true ∧ idles (.vectorGroupIssue 0) s = true) := by decide +kernel


/-! ### The sluice and the headrace (R155 to R188) -/

/-- A descriptor of cell 0 with values at bit positions. -/
def desc (fs : List (Nat × Nat)) (d : Desc := { raw := 0, cell := 0, seq := 3, job := 5 }) : Desc := { d with raw := BitVec.ofNat 512 ((fs.map (fun f => f.2 * 2 ^ f.1)).sum) }

/-- A COPY of 16 bytes from 0x1000 to 0x2000. -/
def copy16 : Desc := desc [(40, 16), (64, 0x1000), (128, 0x2000)]

/-- Channel 0 of block 0 with descriptors. -/
def ch0 (ds : List Desc) (x : Channel := {}) : State := (inSt .running).setChan 0 0 { x with slots := ds }

/-- Cell 0 with a begun class 0x3 command. -/
def slu (w : Word128) (s : State) : State := s.setCell 0 { s.cell 0 with xSluice := [(begun w [0, 0], false)] }

theorem test_sluice_commands :
    (let s := slu (word cSDESC [(88, 0x1000)]) (ch0 [desc [(40, 64), (64, 0x1000), (128, ownBase 0 + 0x1000)] { raw := 0, cell := 0, seq := 2, job := 5, ph := .moving }])
     s.ownBlocked 0 3 [(ownBase 0 + 0x1000, 64)] = true ∧ idles (.sdesc 0 .execute) s = true)
    ∧ (let s := (slu (word cSDESC [(88, 0x40)]) (inSt .running)).storeRun (cellKey 0 0x45) [16]
     Live s ∧ s.ownBlocked 0 3 [(ownBase 0 + 0x40, 64)] = false ∧ (s.cell 0).sluiceBegun cSDESC = some (begun (word cSDESC [(88, 0x40)]) [0, 0]) ∧ s.poisonAddr 0 [(0x40, 64)] = none
     ∧ got (.sdesc 0 .execute) s (fun t => (t.chan 0 0).slots.map (fun d => (d.len0, d.cell, d.job, d.seq)) == [(16, 0, 5, 3)]) = true
     ∧ (s.setPoison (cellKey 0 0x60) true).poisonAddr 0 [(0x40, 64)] = some (ownAddr 0 0x60)
     ∧ got (.sdesc 0 .execute) (s.setPoison (cellKey 0 0x60) true) (fun t => (t.cell 0).st == .halted && t.rd (cellBase 0 + rFAULTADDR) == ownAddr 0 0x60) = true)
    ∧ (let s := slu (word cSARM []) (ch0 [] { armed := some (desc [(5, 1), (40, 16)]) })
     (s.chan 0 0).armed = some (desc [(5, 1), (40, 16)])
     ∧ got (.sarm 0 .execute) s (fun t => (t.chan 0 0).slots.map (fun d => (d.ph, d.moved, d.seq)) == [(.issued, 0, 3)]) = true)
    ∧ (let s := slu (word cSSTOP []) (ch0 [] { armed := some (desc [(5, 1), (40, 16)]) })
     got (.sstop 0 .execute) s (fun t => (t.chan 0 0).armed == none) = true)
    ∧ (let s := slu (word cSSTOP []) (ch0 []); got (.sstop 0 .execute) s (fun t => (t.cell 0).xSluice == []) = true) := by decide +kernel

theorem test_descriptor_begins :
    (let s := ch0 [copy16]; s.beginFail copy16 = none ∧ s.chHalted 0 0 = false ∧ findIdx (fun x : Desc => x.ph == .issued) (s.chan 0 0).slots = some 0
     ∧ got (.descriptorBegin 0 0) s (fun t => (t.chan 0 0).slots == [{ copy16 with ph := .moving }]) = true)
    ∧ (let d := desc [(64, 0x1000), (128, 0x2000)]; let s := ch0 [d]; s.beginFail d = some (4, 0)
     ∧ got (.descriptorBegin 0 0) s (fun t => t.chHalted 0 0 && t.rf (chBase 0 0 + 0x30) 7 0 == 4 && (t.chan 0 0).slots == [] && t.raised.map (fun e => e.code) == [evSluiceHalt]) = true) := by decide +kernel

theorem test_local_copy : (let d := { copy16 with ph := .moving }; let s := ((ch0 [d]).storeRun 0x1000 [7]).storeRun 0x100F [9]
    (s.chan 0 0).slots[0]? = some d ∧ d.op = 0 ∧ d.remote = 0 ∧ d.vmode = 0 ∧ d.indexed = false ∧ d.pace = false ∧ s.chFrozen 0 0 = false ∧ s.descBlocked 0 0 0 d = false
    ∧ s.descHeld d = none ∧ s.lostRegions = [] ∧ s.stale = [] ∧ s.missedUnits 0x1000 16 = [] ∧ s.missedUnits 0x2000 16 = [] ∧ s.descRuns d = [{ srcs := [(0x1000, 16)], dst := 0x2000, len := 16 }]
    ∧ s.locate (s.cellRq d.cell) false 0x1000 16 = .mem 0x1000 ∧ s.locate (s.cellRq d.cell) true 0x2000 16 = .mem 0x2000
    ∧ (∀ j, j < 16 → s.poisoned (0x1000 + j) = false) ∧ (∀ j, j < 16 → s.poisoned (0x2000 + j) = false)
    ∧ got (.descriptorComplete 0 0 0) s (fun t => t.mem == [(0x1000, 7), (0x100F, 9), (0x2000, 7), (0x200F, 9)] && (t.chan 0 0).slots == [] && t.raised == []) = true) := by decide +kernel

/-- A GATHER of 16 bytes behind a shard header at 0x1000, RECORD mode (1), tag slot 2. -/
def gather1 : Desc := desc [(0, 2), (29, 1), (31, 2), (40, 16), (64, 0x1000), (128, 0x2000)] { raw := 0, cell := 0, seq := 3, job := 5, ph := .moving }

theorem test_shard_headers :
    (let s := ((ch0 [gather1]).storeRun 0x1000 [0x44]).storeRun 0x1018 [16]
     (s.chan 0 0).slots[0]? = some gather1 ∧ gather1.readsHeader = true ∧ gather1.op = 2 ∧ gather1.vmode = 1 ∧ s.descBlocked 0 0 0 gather1 = false ∧ s.descPending 0 0 gather1 = false ∧ s.missedUnits 0x1000 64 = [] ∧ s.busyAt 0x1000 64 = none ∧ gather1.remote = 0
     ∧ s.locate (s.cellRq 0) false gather1.src 64 = .mem 0x1000 ∧ (∀ j, j < 64 → s.poisoned (0x1000 + j) = false) ∧ hdrReserved (s.readB 0x1000 64) = false ∧ s.memB 0x1008 = 0
     ∧ (∀ r ∈ s.descRuns gather1, ∀ x ∈ r.srcs, gather1.src + 64 ≤ x.1 ∧ x.1 + x.2 ≤ gather1.src + 64 + ofBytes (s.readB 0x1018 8))
     ∧ got (.shardHeaderRead 0 0 0) s (fun t => (t.chan 0 0).slots == [{ gather1 with headerOk := true }] && t.rd (blockBase 0 + 0x410) == 0x44 && t.raised == []) = true
     ∧ (∃ j, j < 64 ∧ (s.setPoison 0x1020 true).poisoned (0x1000 + j) = true)
     ∧ got (.shardHeaderRead 0 0 0) (s.setPoison 0x1020 true) (fun t => t.chHalted 0 0 && t.rf (chBase 0 0 + 0x30) 7 0 == 0x0C && (t.chan 0 0).slots == []) = true)
    ∧ (let d := desc [(29, 3), (40, 16), (64, 0x1000), (128, 0x2000)] { raw := 0, cell := 0, seq := 3, job := 5, ph := .stamping, tag := 0x77 }; let s := ch0 [d]
     d.remote = 0 ∧ s.headerFault d = none ∧ s.busyAt 0x2000 64 = none ∧ s.missedUnits 0x2000 64 = [] ∧ s.locate (s.cellRq 0) true d.dst 64 = .mem 0x2000 ∧ (∀ j, j < 64 → s.poisoned (0x2000 + j) = false)
     ∧ got (.stampHeaderWrite 0 0 0) s (fun t => t.memB 0x2000 == 0x77 && t.memB 0x2018 == 16 && (t.chan 0 0).slots == []) = true) := by decide +kernel

theorem test_descriptor_events :
    (let s := ch0 [] { wanting := true }
     ((upTo 16).map (fun i => ((s.sluice 0).lastGrant + 1 + i) % 16)).find? (fun c => (s.chan 0 c).wanting) = some 0 ∧ s.bufLevel 0 + s.segBytes 0 ≤ 196608
     ∧ got (.segmentGrant 0 0) s (fun t => (t.chan 0 0).segs == [(s.segOwner (s.chan 0 0), s.segBytes 0)] && (t.sluice 0).lastGrant == 0) = true)
    ∧ (let d := { copy16 with ph := .moving }; let s := ((ch0 [d]).storeRun 0x1000 [7]).wr (blockBase 0 + 8) 3
     let l : Late := { pos := 8, stop := 16, addr := 0x1008, tries := 1 }
     8 < totalOf (s.descRuns d) ∧ d.granule 8 = 8 ∧ (match s.moveRuns d d.moved 8 0 (s.descRuns d) with | .ok s1 => s1.memB 0x2000 == 7 && decide (0 < s1.rf (blockBase 0 + 8) 2 0) | _ => false) = true
     ∧ s.descBlocked 0 0 0 d = false ∧ s.descHeld d = none
     ∧ got (.accessErrorResponse 0 0 0 8 false) s (fun t => (t.chan 0 0).slots == [{ d with moved := 16, late := [l] }] && t.memB 0x2000 == 7) = true)
    ∧ (let l : Late := { pos := 0, stop := 8, addr := 0x1000, tries := 3 }; let d := { copy16 with ph := .moving, moved := 8, late := [l] }
     let s := ((ch0 [d]).storeRun 0x1000 [7, 0, 0, 0, 0, 0, 0, 0, 9]).wr (blockBase 0 + 8) 3
     s.chKilled 0 0 = false ∧ s.descHeld d = none ∧ s.rf (blockBase 0 + 8) 2 0 ≤ l.tries
     ∧ got (.descriptorComplete 0 0 0) s (fun t => (t.chan 0 0).slots == [{ d with moved := 16 }] && t.memB 0x2008 == 9 && t.memB 0x2000 == 0) = true
     ∧ (match (s.bump (chBase 0 0 + 0x60) 31 0 1).moveRuns d 0 8 0 (s.descRuns d) with | .ok s1 => s1.memB 0x2000 == 7 | _ => false) = true
     ∧ got (.retryTimerExpire 0 0 0 0 true) s (fun t => (t.chan 0 0).slots == [{ d with late := [] }] && t.memB 0x2000 == 7 && t.rf (chBase 0 0 + 0x60) 31 0 == 1) = true
     ∧ got (.retryTimerExpire 0 0 0 0 false) s (fun t => (t.chan 0 0).slots == [] && t.chHalted 0 0 && t.rf (chBase 0 0 + 0x30) 7 0 == 7 && t.rd (chBase 0 0 + 0x40) == 0x1000) = true)
    ∧ (let l : Late := { pos := posHeader, stop := posHeader, addr := 0x1000, tries := 1 }; let d := { gather1 with late := [l] }; let s := ch0 [d]
     d.ph = .moving ∧ d.remote = 0 ∧ s.chKilled 0 0 = false
     ∧ got (.retryTimerExpire 0 0 0 0 true) s (fun t => (t.chan 0 0).slots == [gather1] && t.rf (chBase 0 0 + 0x60) 31 0 == 1) = true)
    ∧ (let d := { copy16 with ph := .paced }; let s := ch0 [d]
     s.fillLevel 0 0 ≤ (s.wmarkLow 0 0 : Int) ∧ got (.paceRecheck 0 0 0) s (fun t => (t.chan 0 0).slots == [{ d with ph := .moving }]) = true)
    ∧ (let d := { copy16 with ph := .moving }; let s := ch0 [d]
     (s.sluice 0).stallRecorded = [] ∧ got (.channelStallDetect 0 0) s (fun t => (t.chan 0 0).stalled && t.raised.map (fun e => (e.code, e.arg0)) == [(evBlockStall, 1)]) = true) := by decide +kernel

theorem test_channel_registers :
    (got (.chStop 0 0) (ch0 [] { armed := some copy16 }) (fun t => (t.chan 0 0).armed == none)
    && got (.channelResume 0 0) (rst.wb (chBase 0 0 + 8) 0 true) (fun t => !t.chHalted 0 0)
    && (let d := desc [(5, 1), (40, 16)]; d.persist && got (.chDstBaseWrite 0 0 7) (ch0 [d]) (fun t => t.rb (chBase 0 0 + 8) 9))
    && got (.chDstBaseWrite 0 0 0xFFFF_FFFF_FFFF_FFFF) rst (fun t => t.rf (chBase 0 0 + 0x18) 56 0 == 2 ^ 57 - 1)
    && got (.chPaceWrite 0 0 0x1F00_0008) (ch0 [] { paceP := 9 }) (fun t => (t.chan 0 0).paceP == 0 && t.rf (chBase 0 0 + 0x20) 28 24 == 31 && t.rf (chBase 0 0 + 0x20) 21 3 == 1)
    && got (.sluiceSegWrite 0 2) rst (fun t => t.rf (blockBase 0) 1 0 == 2) && got (.sluiceSegWrite 0 3) rst (fun t => t.rf (blockBase 0) 1 0 == rst.rf (blockBase 0) 1 0)
    && got (.hrCfgWrite 0 0x1F_1F07) rst (fun t => t.hrRole 0 == 3 && t.hrFwd 0 && t.hrLow 0 == 31 && t.hrHigh 0 == 31)
    && got (.hrCfgWrite 0 1) (inSt .running { headrace := { opened := true } }) (fun t => t.rb (hrBase 0 + hrSTATUS) 3)) = true := by decide +kernel

/-- Stream bytes of job 5. -/
def stream (n : Nat) : List HrItem := List.replicate n { job := 5, byte := some (1, false) }

theorem test_headrace :
    (let d := desc [(0, 6), (40, 16), (64, 0x1000), (121, 1), (128, 3 * 2 ^ 52)] { raw := 0, cell := 0, seq := 3, job := 5, ph := .moving }
     let s := ((ch0 [d]).wr (hrBase 0) 0x1F_0001).storeRun 0x1000 [9]
     d.op = 6 ∧ s.headOf d = some 0 ∧ d.moved + 16 ≤ totalOf (s.descRuns d) ∧ s.headTaken 0 0 d = false ∧ (s.cell 0).headrace.room 16 = true ∧ s.chFrozen 0 0 = false
     ∧ (s.cell 0).headrace.level < s.hrHigh 0 * 1024 ∧ (s.streamBytes d 16).isSome = true
     ∧ got (.headraceInject 0 0 0 16) s (fun t => (t.cell 0).headrace.items.length == 17 && (t.chan 0 0).slots == [{ d with moved := 16 }]
        && (t.cell 0).headrace.items.head? == some { job := 5, byte := some (9, false) }) = true)
    ∧ (let marker : HrItem := { job := 5, byte := none }
     let s := ((ch0 [] { owed := (List.replicate 3 (0, { job := 5, byte := some (0, true) })) ++ [(0, marker), (1, marker)] }).wr (hrBase 0) 0x1F_0001).setCell 0 { st := .running }
     (s.cell 0).headrace.room 16 = true ∧ (s.cell 0).headrace.level < s.hrHigh 0 * 1024 ∧ (s.sluice 0).owners = []
     ∧ got (.headraceInject 0 0 0 2) s (fun t => (t.cell 0).headrace.items.length == 2 && (t.chan 0 0).owed.length == 3 && (t.sluice 0).owners == [(0, 0)]) = true
     ∧ got (.headraceInject 0 0 0 16) s (fun t => (t.cell 0).headrace.items.getLast? == some marker && (t.chan 0 0).owed == [(1, marker)] && (t.sluice 0).owners == []) = true)
    ∧ (let s := (((inSt .running { headrace := { items := stream 4 } }).wr (hrBase 0) 5).wr (hrBase 1) 2).wr (cellBase 1 + rJOB) 5; let s := s.setCell 1 { st := .running }
     s.hrFwd 0 = true ∧ s.hrRefusal 1 5 = none ∧ (oneStream ((s.cell 0).headrace.items.drop 0)).take 3 = stream 3 ∧ (s.cell 1).headrace.room 3 = true
     ∧ got (.headraceHop 0 3) s (fun t => (t.cell 1).headrace.items == stream 3) = true)
    ∧ (let y : ArrX := { mma0 with started := true, total := 1 }; let s := (arr0 y { headrace := { items := stream 2 ++ [{ job := 5, byte := none }] } }).wr (cellBase 0 + rTD 1 0) 0x80_0000
     dSRC (s.mmaOf 0 y.cmd).b.d = 1 ∧ (match s.hrPeek 0 (s.mmaOf 0 y.cmd).streamBytes with | .short _ => true | _ => false) = true
     ∧ got (.headraceMarker 0) s (fun t => (t.cell 0).st == .halted && t.rf (cellBase 0 + rARRERR) 7 0 == 7 && (t.cell 0).xArray == []) = true) := by decide +kernel


/-! ### Signals, waits, shutters and the counter port (R189 to R215) -/

/-- A signal of 7 from cell 1 to counter 1 under job 5. -/
def sig7 : Signal := { part := 0, offset := 8, amount := 7, job := 5, src := .cell 1 9 }

/-- One signal on its way to counter 1. -/
def signalled (x : Counter) (g : Signal := sig7) : State := { (rst.setCtr 1 x) with signals := [g] }

theorem test_signals :
    (let s := signalled { st := .owned, job := 5, value := 0xFFFF_FFFF_FFFF_FFFA }
     Live s ∧ s.signals[0]? = some sig7 ∧ s.ctrKey sig7.part sig7.offset = some 1 ∧ s.ctrLost 1 = false
     ∧ got (.counterSignalApply 0) s (fun t => (t.ctr 1).value == 0xFFFF_FFFF_FFFF_FFFF && (t.ctr 1).saturated && (t.ctr 1).last == some sig7.last) = true)
    ∧ (let s := signalled { st := .frozen, job := 5, value := 3 }; got (.counterSignalApply 0) s (fun t => (t.ctr 1).pending == 7 && (t.ctr 1).value == 3) = true)
    ∧ (let s := signalled { st := .owned, job := 6, value := 3 } { sig7 with src := .remote 2 9 }
     got (.counterSignalApply 0) s (fun t => t.counters == s.counters && t.signals == [] && t.rf (syncBase 0 (ctrUnit 1) + 0x58) 31 0 == 1) = true) := by decide +kernel

/-- Cell 0 with one begun sync command of a word. -/
def syn (w : Word128) (ops : List Word64) (ph : SyncPh := .begun) : State := inSt .running { xSync := [{ cmd := begun w ops, ph := ph, listed := ph == .waiting }] }

theorem test_sig_and_sigr :
    (let w := word cSIG [(93, 1), (31, 0xFFFF_FFFF)]; let s := syn w [1]
     (s.ctrKey (s.cellPart 0) (syOffset w)).isSome = true
     ∧ got (.sig 0 .execute) s (fun t => t.signals == [{ part := 0, offset := 8, amount := 0x1_0000_0000, job := 5, src := .cell 0 3 }]) = true)
    ∧ (let w := word cSIG [(93, 0x7_FFFF)]; let s := syn w [1]
     (s.ctrKey (s.cellPart 0) (syOffset w)).isSome = false ∧ got (.sig 0 .execute) s (fun t => (t.cell 0).st == .halted && t.signals == []) = true)
    ∧ (let w := word cSIGR [(93, 1)]; let q := begun w [4, BitVec.ofNat 64 (rst.coordOf 0)]; let s := syn w [4, BitVec.ofNat 64 (rst.coordOf 0)]
     (match s.sendReq (s.cellPart 0) (.sigr 0 q.seq) 0 none { kind := mkSIGNAL, dst := fld (q.ops.getD 1 0) 16 0, addr := syOffset q.word, amount := (syAmount q).toNat, job := s.job 0, seq := q.seq.toNat } with
      | .sent s1 => s1.reqs.length == 1 | _ => false) = true
     ∧ got (.sigr 0 .execute) s (fun t => (t.cell 0).xSync.map (fun y => y.ph) == [.ackWait] && t.reqs.map (fun r => r.src) == [.sigr 0 3]) = true)
    ∧ (let s := syn (word cSIGR [(83, 31)]) [] .ackWait; got (.sigrAck 0 0 .owner) s (fun t => t.sreg 0 31 == BitVec.ofNat 64 SyncStatus.owner.code && (t.cell 0).xSync == []) = true)
    ∧ (let s := syn (word cSIGR []) [] .ackWait; got (.sigrAck 0 0 .refused) s (fun t => (t.cell 0).st == .halted && t.rf (cellBase 0 + rSYNCERR) 7 0 == SyncStatus.refused.code) = true) := by decide +kernel

theorem test_waits :
    (let w := word cWAIT [(93, 1), (83, 31)]; let s := (syn w [7]).setCtr 1 { st := .owned, job := 5, value := 7 }
     s.ctrKey (s.cellPart 0) (syOffset w) = some 1 ∧ s.ctrLost 1 = false ∧ (syAmount (begun w [7])).toNat ≤ (s.ctr 1).value.toNat
     ∧ got (.waitCmd 0 .execute) s (fun t => (t.cell 0).xSync == [] && t.sreg 0 31 == 0) = true)
    ∧ (let w := word cWAIT [(93, 1), (83, 31)]; let s := (syn w [7]).setCtr 1 { st := .owned, job := 5, value := 6 }
     (s.ctr 1).value.toNat < (syAmount (begun w [7])).toNat
     ∧ got (.waitCmd 0 .execute) s (fun t => (t.ctr 1).waiters == [{ cell := 0, launch := false, expect := 7, timed := false }] && (t.cell 0).xSync.map (fun y => (y.ph, y.listed)) == [(.waiting, true)]
        && t.rd (cellBase 0 + rWAITEXPECT) == 7 && t.rd (cellBase 0 + rWAITTARGET) == 8) = true)
    ∧ (let w := word cWAIT [(93, 1), (83, 31), (63, 1)]; let s := (syn w [7] .waiting).setCtr 1 { st := .owned, job := 5, waiters := [{ cell := 0, launch := false, expect := 7, timed := true }] }
     syTimeout w ≠ 0 ∧ delivReg w ≠ 0 ∧ got (.waitTimeout 0) s (fun t => (t.cell 0).xSync == [] && t.sreg 0 31 == BitVec.ofNat 64 SyncStatus.timeout.code && (t.ctr 1).waiters == []) = true) := by
  decide +kernel

/-- Line 31 enabled for job 5 with mask bits of block 0. -/
def line31 (mask : Nat) (w : Word128) : State :=
  ((syn w []).wr (lineCtrl 0 31) 0x1_0005).wr (shutMaskBase 0 + 8) (BitVec.ofNat 64 (mask * 2 ^ 60))

theorem test_shutters :
    (let w := word cSHUT [(107, 31), (102, 31)]; let s := line31 3 w
     s.rb (lineCtrl 0 31) 16 = true ∧ s.rb (lineStatus 0 31) 11 = false ∧ s.rf (lineCtrl 0 31) 15 0 = s.job 0 ∧ s.inMask 0 31 = true
     ∧ (∃ d ∈ s.participants 0 31, d ≠ 0 ∧ d ∉ (s.line 0 31).waiting)
     ∧ got (.shut 0 .execute) s (fun t => (t.line 0 31).waiting == [0] && (t.cell 0).xSync.map (fun y => (y.ph, y.listed)) == [(.shutWait, true)]) = true)
    ∧ (let w := word cSHUT [(107, 31), (102, 31)]; let s := line31 1 w
     s.participants 0 31 = [0] ∧ (s.line 0 31).waiting = []
     ∧ got (.shut 0 .execute) s (fun t => t.rf (lineStatus 0 31) 63 32 == 1) = true) := by decide +kernel

theorem test_counter_port :
    (let s := (rst.wr (syncBase 0 0) 4095).wr (syncBase 0 0 + 0x10) 9
     s.unitOf 0 .package = true ∧ s.indexKey 0 .package (s.rf (syncBase 0 (unitNum .package)) 12 0) = some 4095
     ∧ got (.claim 0 .package 5) s (fun t => t.ctr 4095 == { st := .owned, job := 5, value := 9 }) = true
     ∧ got (.claim 0 .package 0) s (fun t => t.counters == [] && t.rb (syncBase 0 0 + 0x18) 0) = true)
    ∧ (let s := (rst.wr (syncBase 0 0) 1).setCtr 1 { st := .owned, job := 5 }; got (.ctrRelease 0 .package) s (fun t => t.counters == []) = true)
    ∧ (let s := (rst.wr (syncBase 0 0) 1).setCtr 1 { st := .owned, job := 5, waiters := [{ cell := 0, launch := false, expect := 7, timed := true }] }
     got (.ctrRelease 0 .package) s (fun t => t.counters == s.counters && t.rb (syncBase 0 0 + 0x18) 0) = true)
    ∧ (let s := rst.setCtr 1 { st := .owned, job := 5, value := 8 }
     got (.syncSelWrite 0 .package 1) s (fun t => t.rd (syncBase 0 0 + 0x20) == 8 && t.rd (syncBase 0 0 + 0x30) == BitVec.ofNat 64 (5 + CtrState.owned.code * 2 ^ 16)) = true) := by decide +kernel

theorem test_job_commands :
    (let s := ((rst.setCtr 1 { st := .owned, job := 5, value := 8 }).setCtr 2 { st := .owned, job := 6 })
     CountersOk s ∧ s.rb (pkgSyncBase 0 + 0x108) 0 = false ∧ s.ctrPart 1 = 0
     ∧ got (.preempt 0 5) s (fun t => (t.ctr 1).st == .frozen && (t.ctr 2).st == .owned && t.rb (pkgSyncBase 0 + 0x108) 0) = true
     ∧ got (.jobReset 0 5) s (fun t => (t.ctr 1).st == .abandoned && (t.ctr 2).st == .owned) = true)
    ∧ (let s := rst.setCtr 1 { st := .frozen, job := 5, value := 8, pending := 3 }
     CountersOk s ∧ got (.jobResume 0 5) s (fun t => t.ctr 1 == { st := .owned, job := 5, value := 11 }) = true)
    ∧ got (.jobCommandEnd 0) (rst.wb (pkgSyncBase 0 + 0x108) 0 true) (fun t => !t.rb (pkgSyncBase 0 + 0x108) 0) = true := by decide +kernel

theorem test_line_registers :
    (got (.lineCtrlWrite 0 31 0x1_0005) rst (fun t => t.rb (lineCtrl 0 31) 16 && t.rf (lineCtrl 0 31) 15 0 == 5 && t.rd (lineStatus 0 31) == 0)
    && (let s := rst.wr (lineCtrl 0 31) 0x1_0005
      got (.lineCtrlWrite 0 31 0x1_0006) s (fun t => t.rf (lineCtrl 0 31) 15 0 == 5 && t.rb (shutBase 0 + 0x200) 0) && got (.lineCtrlWrite 0 31 0) s (fun t => !t.rb (lineCtrl 0 31) 16))
    && got (.shutMaskWrite 0 false 0xFFFF_0000_0000_000F) rst (fun t => t.rd (shutMaskBase 0) == 0xFFFF_0000_0000_000F)
    && (let s := (upTo 16).foldl (fun s n => s.wb (lineCtrl 0 n) 16 true) rst
      (upTo 16).all (fun i => s.rb (lineCtrl (s.blockPart 0) i) 16) && got (.shutMaskWrite 0 false 7) s (fun t => t.rd (shutMaskBase 0) == 0))) = true := by decide +kernel


/-! ### Package memory and the far tier (R221 to R252) -/

theorem test_interleave : place (unplace 23 0x12345 24) 24 = (23, 0x12345) ∧ (place 0x1234_5678 24).1 < 24 := by decide +kernel

theorem test_decoder : rsDecode (errPattern [(35, 0xFF)]) = .corrected 35 0xFF ∧ rsDecode (errPattern [(0, 1)]) = .corrected 0 1 ∧ rsDecode poisonMask = .poison := by decide +kernel

theorem test_stack_reads :
    (Live rst ∧ rst.stackLost 0 = false ∧ got (.stackRead 0 5 [] false) rst (fun t => t.rd (memBase 0 + mRDBYTES) == 32) = true)
    ∧ (rst.poisoned (rst.stackKey 0 (5 * 32)) = false ∧ rsDecode (errPattern [(3, 9)]) = .corrected 3 9 ∧ errPattern [(3, 9)] = (upTo 36).map (fun j => if j = 3 then 9 else 0)
     ∧ got (.stackRead 0 5 [(3, 9)] false) rst (fun t => t.rf (memBase 0 + 0x30) 31 0 == 1 && t.ceWin.get 0 0 == 1 && t.raised == []) = true)
    ∧ rsDecode (errPattern [(3, 9), (4, 9)]) = .bad := by decide +kernel

theorem test_stack_writes :
    (let bs : List (Option Byte) := [some 1, none, some 3]
     bs = bs.take (32 - (62 : Nat) % 32 + 1) ∧ ([some 1, none].filter Option.isSome : List (Option Byte)).length ≠ 0 ∧ rst.poisoned (rst.stackKey 0 62) = false
     ∧ got (.stackWrite 0 62 ⟨bs, [], false⟩) rst (fun t => t.memB (rst.stackKey 0 62) == 1 && t.memB (rst.stackKey 0 62 + 2) == 0) = true)
    ∧ (let s := rst.setPoison (rst.stackKey 0 62) true
     s.poisoned (s.stackKey 0 62) = true ∧ got (.stackWrite 0 62 ⟨[some 1], [], false⟩) s (fun t => t.mem == [] && t.rf (memBase 0 + mPOISONKEEP) 63 0 == 1) = true)
    ∧ (let s := rst.setPoison (rst.stackKey 0 64) true
     got (.stackWrite 0 64 ⟨(List.replicate 32 (some 0)), [], false⟩) s (fun t => !t.poisoned (rst.stackKey 0 64)) = true) := by decide +kernel

/-- INT32 granules (format 4): 0x7FFFFFFF + 1 wraps with IOV; poison stores nothing. -/
theorem test_grist_add :
    (let k := rst.stackKey 0 256; let s := rst.storeRun k [0xFF, 0xFF, 0xFF, 0x7F]; let src : List Byte := 1 :: List.replicate 255 0
     src.length = 256 ∧ (∀ j, j < 8 → s.poisoned (k + 32 * j) = false)
     ∧ got (.gristAdd 0 1 4 ⟨src, false⟩ ⟨[], false⟩) s (fun t => t.readB k 4 == (gristAdd 4 (s.readB k 256) src).1.take 4 && t.memB (k + 4) == 0) = true
     ∧ got (.gristAdd 0 1 4 ⟨src, true⟩ ⟨[], false⟩) s (fun t => t.mem == s.mem && t.poisoned k && t.poisoned (k + 224)) = true) := by decide +kernel

theorem test_stack_upkeep :
    (let s := rst.wb (memBase 0 + 0x20) 8 true
     s.rb (memBase 0 + 0x20) 8 = true ∧ got (.patrolScrub 0 []) (s.wr (memBase 0 + 0x28) 0x7FFF_FFFF) (fun t => t.rf (memBase 0 + 0x28) 30 0 == 0) = true)
    ∧ (let n := rst.rf (memBase 0 + 0x38) 31 0; let s := { rst with ceWin := [(0, n + 1)] }
     got (.ceWindowExpire 0) s (fun t => t.ceWin == [] && t.raised == [stackEvent s evCeThreshold 0 (n + 1) 0]) = true)
    ∧ (let n := rst.rf (memBase 0 + 0x38) 31 0; let s := { rst with ceWin := [(0, n)] }; got (.ceWindowExpire 0) s (fun t => t.ceWin == [] && t.raised == []) = true)
    ∧ (let s := rst.wr (memBase 0 + 0x18) 1; s.rf (memBase 0 + 0x18) 15 0 ≠ 0 ∧ got (.prioAgeExpire 0) s (fun t => t.rd (memBase 0 + 0x90) == 1) = true)
    ∧ rst.rf (memBase 0 + 8) 2 0 ≠ 3 := by decide +kernel

/-- Far-tier port 0 UP with 8 KiB. -/
def farUp8k : State := ((rst.wf (farBase 0) 2 0 2).wr (farBase 0 + 8) 0x2000)

theorem test_far_access :
    (let s := { farUp8k with far := [(0x1FFF, some { value := 7, epoch := (rst.part 0).epoch })] }
     (0x1FFF : BitVec 52).toNat + 1 ≤ s.farAvail 0 ∧ s.farUp (s.farStart 0 + 0x1FFF) 1 = true ∧ (s.farStart 0 + 0x1FFF) % 4096 + 1 ≤ 4096
     ∧ got (.farAccess 0 (.read 0x1FFF 1 []) true) s (fun t => t.rf (farBase 0 + 0x30) 63 0 == 1 && t.freeCtr == 0) = true
     ∧ got (.farAccess 0 (.write 0x1FFE [8, 9] false) true) s (fun t => t.far.get none 0x1FFE == some { value := 8, epoch := (s.part 0).epoch } && t.rf (farBase 0 + 0x38) 63 0 == 2
        && t.mem == []) = true
     ∧ s.farSpan 0 (.read 0x2000 1 []) = none ∧ idles (.farAccess 0 (.read 0x2000 1 []) true) s = true) := by decide +kernel

theorem test_far_ports :
    (let up := rst.wf (farBase 1) 2 0 2; let tr := rst.wf (farBase 1) 2 0 1
     up.farState 1 = 2 ∧ tr.farState 1 = 1 ∧ got (.farCompletionTimeout 1) up (fun t => t.rf (farBase 1 + 0x10) 7 0 == 2) = true
     ∧ (up.farTries.get 0 1 < (up.wf (farBase 1 + 0x40) 2 0 1).rf (farBase 1 + 0x40) 2 0)
     ∧ got (.farLinkDown 1) (up.wf (farBase 1 + 0x40) 2 0 1) (fun t => t.farState 1 == 3 && t.farTries.get 0 1 == 1) = true
     ∧ got (.farLinkDown 1) (up.wf (farBase 1 + 0x40) 2 0 0) (fun t => t.farState 1 == 4 && t.raised.map (fun e => (e.code, e.arg0)) == [(evFarPortDown, 5)]) = true
     ∧ got (.farViral 1) up (fun t => t.farState 1 == 4 && t.rf (farBase 1 + 0x10) 7 0 == 3) = true
     ∧ got (.farMalformed 1 15) up (fun t => t.rd (farBase 1 + 0x20) == 1) = true ∧ got (.farMalformed 1 64) up (fun t => t.farState 1 == 4) = true
     ∧ got (.farPortTrained 1 (.up 0x1000 true true)) tr (fun t => t.farState 1 == 2 && t.rd (farBase 1 + 8) == 0x1000 && t.rf (farBase 1) 15 8 == 16) = true
     ∧ got (.farPortTrained 1 .absent) tr (fun t => t.farState 1 == 0) = true ∧ got (.farPortTrained 1 .unsupported) tr (fun t => t.farState 1 == 4) = true) := by decide +kernel

/-- R231, R244, R245, R249: poisoned data read, a tag found changed, and pieces that the expander marks. -/
theorem test_poison_and_tags :
    (let s := rst.setPoison (rst.stackKey 0 (5 * 32)) true
     s.tagMiss (s.stackKey 0 (5 * 32)) = false ∧ got (.stackRead 0 5 [] false) s (fun t => t.poisoned (rst.stackKey 0 (5 * 32)) && t.rd (memBase 0 + mRDBYTES) == 32 && t.raised == []) = true)
    ∧ (let s := { rst with cfg := [(cfgPart 0, 8)] }; let k := s.stackKey 0 (5 * 32)
     s.tagged k = true ∧ got (.stackRead 0 5 [] true) s (fun t => (upTo 8).all (fun j => t.poisoned (k / 256 * 256 + 32 * j)) && t.rf (memBase 0 + 0x78) 63 0 == 1) = true
     ∧ got (.stackWrite 0 160 ⟨[some 1], [], true⟩) s (fun t => t.poisoned k && t.mem == [] && (t.raised.map (fun e => e.code)) == [evIntegrityFail]) = true)
    ∧ got (.farAccess 0 (.read 0x1F00 64 [1, 2]) true) farUp8k (fun t => t.farPoison == [(0xF9, true)]) = true := by decide +kernel


/-! ### Link messages (R253 to R257) -/

/-- A request of this package's partition 0 to itself. -/
def own (kind : Nat) (m : LinkMsg := { kind := 0 }) : LinkMsg := { m with kind := kind, job := 5, src := rst.coordOf 0, dst := rst.coordOf 0 }

/-- A message that has come to the router of its destination. -/
def selfMsg (m : LinkMsg) (s : State := rst) : State := { s with selfMsgs := [{ via := .self, msg := m, node := 0, goal := 0 }] }

/-- Whether a lookup finds an arrival. -/
def finds (o : Came) (a : Arrival) : Bool := match o with
  | .here b => b.via == a.via && b.msg == a.msg && b.admitted == a.admitted && decide (b.state = a.state)
  | _ => false

/-- What arrives. -/
def arr (m : LinkMsg) (s : State := rst) : Arrival := { via := .self, msg := m, admitted := true, state := s }

theorem test_store_is_exact : (rst.storePB 0x101E [(1, false), (2, false), (3, false)]).mem = [(0x101E, 1), (0x101F, 2), (0x1020, 3)]
    ∧ (∀ i, i < 3 → rst.poisoned (0x101E + i) = false) ∧ rst.lostRegions = [] := by decide +kernel

theorem test_msg_write : (let m := own mkWRITE { kind := 0, len := 2, addr := 0x101F, data := [7, 8] }; let s := selfMsg m
    Served (arr m) 0 ∧ finds (s.arrive (.self m) (fun k => k == mkWRITE || !(isRequest k || k == mkRESP || k == mkACK))) (arr m) = true ∧ s.msgHeld (arr m) = none ∧ spaceOk m.addr = true
    ∧ rst.locate { part := 0 } true m.addr m.len = .mem 0x101F
    ∧ got (.msgWrite (.self m)) s (fun t => t.mem == [(0x101F, 7), (0x1020, 8)] && t.selfMsgs.map (fun x => (x.msg.kind, x.msg.status)) == [(mkACK, stOK)]) = true) := by decide +kernel

theorem test_msg_grist : (let m := own mkGRIST { kind := 0, len := 256, addr := 0x1000, fmt := 4, data := List.replicate 256 0 }; let s := selfMsg m
    Served (arr m) 0 ∧ finds (s.arrive (.self m) (fun k => k == mkGRIST)) (arr m) = true ∧ m.addr < 2 ^ 52 ∧ rst.locate { part := 0 } true m.addr 256 = .mem 0x1000) := by decide +kernel

theorem test_msg_read : (let m := own mkREAD { kind := 0, amount := 2, addr := 0x101F }; let s := (selfMsg m).storeRun 0x101F [7, 8]
    finds (s.arrive (.self m) (fun k => k == mkREAD)) (arr m { s with selfMsgs := [] }) = true ∧ Served (arr m { s with selfMsgs := [] }) 0 ∧ s.msgHeld (arr m { s with selfMsgs := [] }) = none
    ∧ (arr m { s with selfMsgs := [] }).state.locate { part := 0 } false m.addr m.amount = .mem 0x101F
    ∧ got (.msgReadReq (.self m)) s (fun t => t.mem == s.mem && t.selfMsgs.map (fun x => (x.msg.kind, x.msg.status, x.msg.data)) == [(mkRESP, stOK, [7, 8])]) = true) := by decide +kernel

theorem test_msg_signal : (let m := own mkSIGNAL { kind := 0, amount := 7, addr := 8 }; let b := rst.setCtr 1 { st := .owned, job := 5, value := 3 }; let s := selfMsg m b
    finds (s.arrive (.self m) (fun k => k == mkSIGNAL)) (arr m b) = true ∧ Served (arr m b) 0
    ∧ got (.msgSignal (.self m)) s (fun t => (t.ctr 1).value == 10 && t.selfMsgs.map (fun x => (x.msg.kind, x.msg.status)) == [(mkACK, stOK)]) = true) := by decide +kernel

theorem test_msg_millrace : (let m := own mkMILLRACE { kind := 0, len := 4096, addr := 1, seq := 0, amount := 9 }; let b := ((rst.wr (cellBase 1 + mrPREV) 0x8000_0000_0000_0000).wr (cellBase 1 + rJOB) 5).setCell 1 { st := .running }
    let s := selfMsg m b
    finds (s.arrive (.self m) (fun k => k == mkMILLRACE)) (arr m b) = true ∧ Served (arr m b) 0 ∧ s.millraceWaits (arr m b) = false ∧ m.addr % 1024 < 576 ∧ b.cellPart 1 = 0
    ∧ b.tileOk 1 m.src 0 m.job = true ∧ (b.setCell 1 {}).tileOk 1 m.src 0 m.job = false
    ∧ got (.msgMillrace (.self m)) s (fun t => (t.cell 1).rxTiles.map (fun x => x.tag) == [9]) = true
    ∧ got (.msgMillrace (.self m)) (selfMsg m (b.setCell 1 {})) (fun t => (t.cell 1).rxTiles == [] && t.selfMsgs.map (fun x => (x.msg.kind, x.msg.status)) == [(mkACK, stJOB)]) = true) := by
  decide +kernel

/-- A SIGNAL with a data area is BAD_LENGTH. -/
theorem test_unsound_request : (let m := own mkSIGNAL { kind := 0, len := 1, addr := 8 }; let s := selfMsg m
    finds (s.arrive (.self m) (fun k => k == mkSIGNAL)) (arr m) = true ∧ rst.requestFault (arr m) = some stBADLEN
    ∧ got (.msgSignal (.self m)) s (fun t => t.counters == [] && t.selfMsgs.map (fun x => (x.msg.kind, x.msg.status)) == [(mkACK, stBADLEN)]) = true) := by decide +kernel

theorem test_responses :
    (let m := own mkACK { kind := 0, vc := 1, txid := 4 }; let r : Req := { txid := 4, kind := mkSIGNAL, via := .self, src := .sigr 0 3, peer := m.src }
     let b := { syn (word cSIGR [(83, 31)]) [] .ackWait with reqs := [r] }
     finds ((selfMsg m b).arrive (.self m) (fun k => k == mkACK)) (arr m b) = true ∧ b.requestOf m = some r
     ∧ got (.msgAck (.self m)) (selfMsg m b) (fun t => t.reqs == [] && (t.cell 0).xSync == [] && t.sreg 0 31 == 0) = true
     ∧ b.reqs.find? (fun r => r.txid == 4 && !r.retry) = some r
     ∧ got (.requestTimeout 4) b (fun t => t.reqs == [] && t.sreg 0 31 == BitVec.ofNat 64 SyncStatus.unknown.code) = true
     ∧ b.reqs.find? (fun r => r.txid == 5 && !r.retry) = none ∧ idles (.requestTimeout 5) b = true)
    ∧ (let m := own mkRESP { kind := 0, vc := 1, txid := 4, len := 2, data := [7, 8] }; let r : Req := { txid := 4, kind := mkREAD, via := .self, src := .nobody 0 12, amount := 2, peer := m.src }
     let b := { rst with reqs := [r] }
     finds ((selfMsg m b).arrive (.self m) (fun k => k == mkRESP)) (arr m b) = true ∧ b.requestOf m = some r ∧ m.len = r.amount
     ∧ got (.msgReadResp (.self m)) (selfMsg m b) (fun t => t.reqs == []) = true) := by decide +kernel

/-! ### Leat ports and the weir (R259 to R273) -/

/-- A leat port in a state. -/
def leatIn (p : Nat) (st : LeatState) (x : Leat := {}) : State := rst.setLeat p { x with st := st }

theorem test_leat_protocol :
    ((leatIn 6 .up).leat 6).st = .up
    ∧ (let s := leatIn 6 .up { unacked := [(3, { kind := 1 }), (4, { kind := 2 })] }
     leatPair 6 = 6 ∧ findIdx (fun u : Nat × LinkMsg => u.1 == 3 % 2 ^ 16) (s.leat (leatPair 6)).unacked = some 0 ∧ got (.leatSeqAck 6 3) s (fun t => (t.leat 6).unacked.length == 1) = true)
    ∧ got (.leatCreditReturn 6 0 9) (leatIn 6 .up { cr0 := 2040 }) (fun t => (t.leat 6).cr0 == 2048) = true
    ∧ got (.leatCreditReturn 6 1 9) (leatIn 6 .up { cr1 := 1 }) (fun t => (t.leat 6).cr1 == 10) = true
    ∧ got (.leatCreditReturn 6 2 9) (leatIn 6 .up { cr2 := 1020 }) (fun t => (t.leat 6).cr2 == 1024) = true := by decide +kernel

/-- What the hurst has accepted of bed 0's messages is freed; a header error at its end is sent again. -/
theorem test_leat_accepts : (let s := (leatIn 6 .up { unacked := [(3, { kind := 1 }), (4, { kind := 2 })], txSeq := 5 }).setLeat 48 { st := .up, rxNext := 4 }
    leatPeer 6 = some 48 ∧ leatAccepted s 6 = 1 ∧ got (.leatSeqAck 6 3) s (fun t => (t.leat 6).unacked.map (fun x => x.1) == [4]) = true ∧ idles (.leatSeqAck 6 4) s = true)
    ∧ (let m := own mkSIGNAL { kind := 0, amount := 7, addr := 8 }
     let s := { ((rst.setLeat 2 { st := .up, cr0 := 9 }).setLeat 8 { st := .up }) with selfMsgs := [{ via := .self, msg := m, node := 0, goal := 2 }] }
     (s.leatSend 8 m).isSome = true ∧ got (.leatHeaderNak 8 m) s (fun t => t.rf (leatBase 8 + 0x20) 63 32 == 1 && t.selfMsgs == s.selfMsgs) = true) := by decide +kernel

theorem test_leat_states :
    rst.leatExists 4 = true ∧ got (.leatRetrain 4) (leatIn 4 .up) (fun t => (t.leat 4).st == .retraining && t.rf (leatBase 4 + 0x30) 31 0 == 1) = true
    ∧ got (.leatRetrainCause 4 true) (leatIn 4 .up) (fun t => (t.leat 4).st == .retraining && t.rf (leatBase 4) 15 8 == 4) = true
    ∧ got (.leatRetrain 4) rst (fun t => t.rb (leatBase 4) 4) = true
    ∧ got (.leatRestore 4) (leatIn 4 .outOfService) (fun t => (t.leat 4).st == .training) = true ∧ got (.leatRestore 4) rst (fun t => t.rb (leatBase 4) 4) = true
    ∧ (let s := leatIn 4 .up { unacked := [(3, { kind := 1 })] }
     leatMate 4 = some 5 ∧ (s.leat 5).st ≠ .outOfService ∧ got (.leatPortOut 4) s (fun t => (t.leat 4).st == .outOfService && t.rf (leatBase 5 + 0x28) 63 0 == 1
       && t.raised == [leatEvent s 4 evLeatPortDown 0]) = true)
    ∧ ((leatIn 4 .up).setLeat 5 { st := .outOfService }).pairUsers 4 = [0]
    ∧ got (.leatPortTrained 4 (.up 0 0 { minMajor := 2, minMinor := 0, maxMajor := 2, maxMinor := 0, features := 0 })) (leatIn 4 .training) (fun t => (t.leat 4).st == .up && (t.leat 4).cr2 == 1024) = true := by decide +kernel

/-- A module with a guest die under WEIR.JOB 5, its port UP and its weir open. -/
def guestUp (w : Weir := {}) : State :=
  ({ rst with module := { rst.module with guestSite := true }, weir := { w with killed := false } }.setLeat guestPort { st := .up }).wr (weirBase + 0x10) 5

theorem test_weir :
    (let s := { guestUp with cfg := [(0x015, 0)] }; let m : LinkMsg := { kind := 5 }
     s.guestPart = some 0 ∧ s.weirCheck m = some (stBADKIND, stBADKIND) ∧ (let g : LinkMsg := { kind := mkSIGNAL, len := 1 }; s.weirCheck g ≠ none))
    ∧ (let s := guestUp; s.module.guestSite = true ∧ got .weirCtrlKill s (fun t => t.weir.killed && t.weir.held && (t.leat guestPort).st == .held && t.rf (weirBase + 8) 15 8 == 1) = true)
    ∧ (rst.weir.killed = true ∧ idles .weirCtrlKill rst = true ∧ idles (.guestRequest { kind := 1 }) rst = true)
    ∧ got (.weirJobWrite 0x1_FFFF) rst (fun t => t.rf (weirBase + 0x10) 15 0 == 0xFFFF) = true := by decide +kernel

/-- A message from bed 0 to bed 2 crosses to bed 1 first; what is not at its destination's router is not taken there. -/
theorem test_hop_and_idle : (let m := own mkSIGNAL { kind := 0, amount := 7, addr := 8 }
    let s := { ((rst.setLeat 2 { st := .up, cr0 := 9 }).setLeat 8 { st := .up }) with selfMsgs := [{ via := .self, msg := m, node := 0, goal := 2 }] }
    idles (.msgSignal (.self m)) s = true ∧ got (.msgSignal (.leat 8 m 0 [])) s (fun t => t.selfMsgs.map (fun x => (x.node, x.goal)) == [(1, 2)] && (t.leat 2).cr0 < 9
      && (t.leat 2).unacked.map (fun x => x.1) == [0] && (t.leat 8).rxNext == 1 && t.counters == []) = true) := by decide +kernel

/-- A request for a partition that is not there: NOPART; a probe: OK. -/
theorem test_requests_without_effect :
    (let m := { own mkSIGNAL { kind := 0, addr := 8 } with dst := rst.coordOf 3 }; let s := selfMsg m
     finds (s.arrive (.self m) (fun k => k == mkSIGNAL)) (arr m) = true ∧ rst.requestFault (arr m) = none ∧ rst.arrivalPart (arr m) = 3 ∧ coPackage m.dst = coPackage (rst.coordOf 3)
     ∧ rst.partValid 3 = false ∧ got (.msgSignal (.self m)) s (fun t => t.selfMsgs.map (fun x => (x.msg.kind, x.msg.status)) == [(mkACK, stNOPART)]) = true) := by decide +kernel


/-- A guest with the SIGNAL feature, window 0 over the first counters with the SIGNAL right, and one outstanding request permitted. -/
def guestSig : State := { guestUp { features := 2 } with cfg := [(0x015, 0), (0x0C8 + 4, 1), (0x0D0 + 6, 0x40), (0x0D8, 4), (0x0D9, 13), (0x0DF, 0x80)] }

theorem test_weir_signal : (let m : LinkMsg := { kind := mkSIGNAL, addr := 8, amount := 1 }
    guestSig.guestPart = some 0 ∧ guestSig.weir.killed = false ∧ guestSig.weir.held = false ∧ (guestSig.leat guestPort).st = .up ∧ guestSig.weirCheck m = none
    ∧ got (.guestRequest m) guestSig (fun t => t.selfMsgs.map (fun x => (x.via, x.msg.job, x.msg.kind)) == [(.guest, 5, mkSIGNAL)] && t.weir.outstanding == 1) = true) := by decide +kernel

/-! ### Flume links (R274 to R293) -/

/-- A package at plane 0, group 0, member 3 with link 0 in a state; its planned peer is link 89 of coordinate 32. -/
def linkIn (st : LinkState) (x : Link := {}) : State := { rst with module := { rst.module with coord := some (0, 0, 3) } }.setLink 0 { x with st := st }

/-- A message of one slot. -/
def slot1 : BitVec 512 := (({ kind := mkSIGNAL, vc := 0, amount := 7 } : LinkMsg).toSlots).getD 0 0

theorem test_flits_are_sent :
    got (.flitSend 0) (linkIn .identified) (fun t => t.link 0 == (((linkIn .identified).link 0).sendIdle)) = true
    ∧ (let s := linkIn .active { txSlots := [slot1], txSeq := 4095 }
     (s.link 0).replay = 0 ∧ (Link.fillTx 81 (s.link 0)).txSlots ≠ []
     ∧ got (.flitSend 0) s (fun t => (t.link 0).txSeq == 0 && (t.link 0).unacked.map (fun u => u.1) == [4095] && (t.link 0).txSlots == []) = true)
    ∧ (let fl : Flit := { header := mkHeader ftDATA 7 0 false true 0 0 0 0, slots := [slot1] }; let s := linkIn .active { unacked := [(7, fl)], replay := 1 }
     (s.link 0).unacked[(s.link 0).unacked.length - (s.link 0).replay]? = some (7, fl)
     ∧ got (.flitSend 0) s (fun t => (t.link 0).replay == 0 && ((t.link 0).out.map (fun x => (x.slots, fSeq x.header))) == some ([slot1], 7)) = true) := by decide +kernel

theorem test_flits_are_received :
    (let fl : Flit := { header := mkHeader ftDATA 4095 4095 false true 0 1 0 0, slots := [slot1] }; let s := linkIn .active { rxNext := 4095 }
     fType fl.header = ftDATA ∧ fAdm fl.header = true ∧ fSeq fl.header = (s.link 0).rxNext ∧ fEpoch fl.header = (s.link 0).epochRx % 128 ∧ fNak fl.header = false
     ∧ (parseSlots (fl.slots.length + 1) fl.slots).2 = [] ∧ (parseSlots (fl.slots.length + 1) fl.slots).1.length = 1
     ∧ got (.flitReceive 0 fl) s (fun t => (t.link 0).rxNext == 0 && (t.link 0).inbox.map (fun x => (x.1.kind, x.1.amount, x.2)) == [(mkSIGNAL, 7, true)]) = true)
    ∧ (let fl : Flit := { header := mkHeader ftDATA 5 4095 false true 0 0 0 0, slots := [slot1] }; let s := linkIn .active
     fSeq fl.header ≠ (s.link 0).rxNext ∧ got (.flitReceive 0 fl) s (fun t => (t.link 0).rxNext == 0 && (t.link 0).gap && (t.link 0).nakDue && (t.link 0).inbox == []) = true)
    ∧ (let fl : Flit := { header := mkHeader ftIDLE 0 7 false true 0 9 0 3 }; let s := linkIn .active { cr0 := 1020, cr2 := 1, unacked := [(6, fl), (7, fl), (8, fl)] }
     fType fl.header = ftIDLE ∧ got (.flitReceive 0 fl) s (fun t => (t.link 0).cr0 == 1024 && (t.link 0).cr2 == 4 && (t.link 0).peerAdm && (t.link 0).unacked.map (fun u => u.1) == [8]) = true) := by
  decide +kernel

theorem test_link_timers :
    got (.gapNakTimer 0) (linkIn .active { gap := true }) (fun t => (t.link 0).nakDue) = true
    ∧ (let s := linkIn .active { unacked := [(7, { header := 0 })], replaysNoProgress := 6 }; got (.replayTimeout 0) s (fun t => (t.link 0).replay == 1 && (t.link 0).replaysNoProgress == 7) = true)
    ∧ got (.epochRoll 0) (linkIn .active { epochTx := 2 ^ 32 - 1 }) (fun t => (t.link 0).epochTx == 0 && (t.link 0).epochRx == 1) = true := by decide +kernel

theorem test_link_states :
    ((linkIn .down).trainable 0 = true ∧ (linkIn .down).carries 0 = false ∧ got (.flRetrain 0) (linkIn .down) (fun t => (t.link 0).st == .training) = true
     ∧ got (.linkRetryTimer 0) (linkIn .down) (fun t => (t.link 0).st == .training) = true)
    ∧ got (.flitLock 0 false) (linkIn .training { txSeq := 9 }) (fun t => (t.link 0).st == .negotiating && (t.link 0).txSeq == 0 && t.rf (flRegs 0) 10 8 == 4) = true
    ∧ got (.trainingTimeout 0) (linkIn .training) (fun t => (t.link 0).st == .down && t.rf (flRegs 0) 23 16 == 1) = true
    ∧ (linkIn .identified { retrain60s := 2 }).carries 0 = false
    ∧ got (.flDisable 0) (linkIn .identified { keys := true }) (fun t => (t.link 0).st == .disabled && t.rf (flRegs 0) 23 16 == 6 && !(t.link 0).keys) = true
    ∧ got (.flUnfence 0) (linkIn .fenced { keyFails := 3 }) (fun t => (t.link 0).st == .training && (t.link 0).keyFails == 0) = true
    ∧ got (.flUnfence 0) (linkIn .down) (fun t => t.rb (flRegs 0) 11) = true ∧ got (.flRetrain 0) (linkIn .fenced) (fun t => t.rb (flRegs 0) 11) = true := by decide +kernel

theorem test_keying_records :
    (let s := linkIn .negotiating
     (s.flumeVersions.filter (fun v => inRange v (1, 0) (1, 0))).getLast? = some (1, 0) ∧ (s.link 0).resuming = false
     ∧ got (.keyingRecord 0 (.advertise 1 0 1 0 0xFFFF_FFFF)) s (fun t => (t.link 0).st == .keying && (t.link 0).features == 7) = true
     ∧ s.flumeVersions.filter (fun v => inRange v (2, 0) (2, 5)) = []
     ∧ got (.keyingRecord 0 (.advertise 2 0 2 5 0)) s (fun t => (t.link 0).st == .fenced && t.rf (flRegs 0) 23 16 == 2) = true)
    ∧ got (.keyingRecord 0 (.hello { coord := 32, link := 89 } 77)) (linkIn .keying) (fun t => (t.link 0).keyRecs == 1 && (t.link 0).hello.coord == 32) = true
    ∧ got (.keyingRecord 0 (.cert true)) (linkIn .keying { keyRecs := 1 }) (fun t => (t.link 0).keyRecs == 2) = true
    ∧ got (.keyingRecord 0 (.kex 5 true)) (linkIn .keying { keyRecs := 2 }) (fun t => (t.link 0).keyRecs == 3) = true
    ∧ got (.keyingTimeout 0) (linkIn .keying { keyFails := 1 }) (fun t => (t.link 0).keyFails == 2 && (t.link 0).holdIdle) = true
    ∧ got (.keyingTimeout 0) (linkIn .keying { keyFails := 2 }) (fun t => (t.link 0).st == .fenced && t.rf (flRegs 0) 23 16 == 3) = true
    ∧ got (.keyingIdleEnd 0) (linkIn .keying { holdIdle := true }) (fun t => (t.link 0).st == .training) = true := by decide +kernel

/-- A package whose fabric discovers, link 0 waiting for its peer. -/
def meeting (x : Link) : State := (linkIn .keying { x with keyRecs := 3 }).setFabric 0 { st := .discovering, outcomes := [(0, .waiting)] }

theorem test_keying_finishes :
    (let s := meeting { hello := { coord := 32, link := 89 } }
     s.planOf 0 = some (32, 89) ∧ (s.link 0).hello.coord ≠ s.coordOf (s.linkPart 0) ∧ (s.fabric 0).routes = [] ∧ (s.fabric 0).outcomes.all (fun e => e.2 != .matched) = true)
    ∧ (let s := meeting { hello := { coord := 24, link := 89 } }
     (s.link 0).hello.coord = s.coordOf (s.linkPart 0) ∧ s.outcome 0 ≠ .miswired
     ∧ got (.keyingRecord 0 (.finish true false)) s (fun t => t.outcome 0 == .miswired && (t.link 0).st == .identified && t.raised.any (fun e => e.code == evCoordConflict && e.index == 0)) = true) := by
  decide +kernel

/-! ### The fabric (R299 to R310) -/

/-- The fabric of partition 0 with a route to member 4. -/
def routed (r : Route) : State := { rst with module := { rst.module with coord := some (0, 0, 3) } }.setFabric 0 { st := .degraded, routes := [(4, r)] }

theorem test_fabric :
    ((meeting {}).fabric 0).st = .discovering ∧ (meeting {}).outcome 0 = .waiting
    ∧ (rst.l2Busy 0 = false ∧ got (.planStageWrite 0 (.route 1023) 0xFFFF_FFFF_FFFF_FFFF) rst (fun t => t.rd (fabBase 0 + 0x4000 + 8 * 1023) == 0xFFFF_FFFF_FE0F_FFFF) = true)
    ∧ (linkLevel 95 = 2 ∧ rst.linkPart 95 = 0 ∧ got (.planStageWrite 0 (.plan 95) 0x8001_0000_0000_0001) rst (fun t => t.rd (fabBase 0 + 0x1000 + 16 * 95) == 0x8001_0000_0000_0001) = true)
    ∧ (let s := rst.wb (fabBase 0 + 0x20) 0 true
     s.l2Busy 0 = true ∧ got (.l2Commit 0) s (fun t => t.rb (fabBase 0 + 0x20) 2) = true ∧ got (.l2CommitEnd 0) s (fun t => !t.l2Busy 0 && t.rb (fabBase 0 + 0x20) 1) = true)
    ∧ ((rst.fabric 0).routes = [] ∧ got (.l2Commit 0) rst (fun t => t.l2Busy 0) = true)
    ∧ (let s := routed { st := .probing, probes := [(5, none), (6, some stNOROUTE)] }
     s.destKey 0 4 = 4 ∧ got (.probeWindowEnd 0 4) s (fun t => (t.route 0 4).st == .unreachable && t.raised.map (fun e => (e.code, e.arg0)) == [(evRouteLost, 4)]) = true)
    ∧ (let s := routed { st := .probing, probes := [(5, some stOK)] }
     got (.probeWindowEnd 0 4) s (fun t => (t.route 0 4).st == .relay && (t.route 0 4).relays == [5] && t.raised.map (fun e => e.code) == [evRouteDetour]) = true) := by decide +kernel

/-- The records of a keying are sent in their order, each once, in numbered CTRL flits, and are sent again in a replay. -/
theorem test_ctrl_flits :
    (let s := linkIn .negotiating
     s.nextRec 0 ≠ none ∧ got (.flitSend 0) s (fun t => (t.link 0).keyTx == 1 && (t.link 0).txSeq == 1 && (t.link 0).unacked.map (fun u => (u.1, fType u.2.header, u.2.carries == s.nextRec 0)) == [(0, ftCTRL, true)]) = true)
    ∧ (let fl : Flit := { header := mkHeader ftCTRL 3 0 false false 0 0 0 0 }; let s := linkIn .keying { unacked := [(3, fl)], replay := 1 }
     got (.flitSend 0) s (fun t => (t.link 0).replay == 0 && ((t.link 0).out.map (fun x => fSeq x.header)) == some 3) = true)
    ∧ got (.flitSend 0) (linkIn .keying { holdIdle := true }) (fun t => (t.link 0).out == none) = true
    ∧ got (.replayTimeout 0) (linkIn .keying { unacked := [(3, { header := 0 })] }) (fun t => (t.link 0).replay == 1) = true
    ∧ idles (.replayTimeout 0) (linkIn .identified { unacked := [(3, { header := 0 })] }) = true := by decide +kernel

theorem test_open_flits :
    (let fl : Flit := { header := mkHeader ftCTRL 5 2 false false 0 0 0 0 }; let s := linkIn .keying { rxNext := 5, unacked := [(2, fl), (3, fl)] }
     fNak fl.header = false ∧ got (.flitReceive 0 fl) s (fun t => (t.link 0).rxNext == 6 && (t.link 0).unacked.map (fun u => u.1) == [3]) = true
     ∧ got (.flitReceive 0 fl) (linkIn .keying { rxNext := 4 }) (fun t => (t.link 0).rxNext == 4 && (t.link 0).gap) = true)
    ∧ got (.flitReceive 0 { header := mkHeader ftCTRL 0 0 false false 0 0 0 0 }) (linkIn .peerDressing) (fun t => (t.link 0).st == .keying && (t.link 0).rxNext == 1) = true
    ∧ got (.flitReceive 0 { header := mkHeader ftDRESSING 0 0 false false 0 0 0 0 }) (linkIn .active { keys := true }) (fun t => (t.link 0).st == .peerDressing && !(t.link 0).keys) = true := by
  decide +kernel

/-- A link locks again after a retrain and keys; at half width where that is agreed, in training where it is not. -/
theorem test_retrained :
    (rst.module.trngFault = false ∧ got (.flitLock 0 false) (linkIn .retraining) (fun t => (t.link 0).st == .keying && t.rf (flRegs 0) 10 8 == 4) = true)
    ∧ got (.flitLock 0 true) (linkIn .retraining) (fun t => (t.link 0).st == .training) = true
    ∧ idles (.flitLock 0 true) (linkIn .training) = true
    ∧ (let s := meeting { hello := { coord := 32, link := 89 }, resuming := true, peer := some { coord := 32, link := 89 }, saved := some ([(7, { header := 0 })], 8, 5, 4) }
     got (.keyingRecord 0 (.finish true true)) s (fun t => (t.link 0).st == .active && (t.link 0).txSeq == 8 && (t.link 0).rxNext == 5 && (t.link 0).replay == 1 && (t.link 0).saved == none) = true) := by
  decide +kernel

/-- Credit and waiting at the guest's port: what is sent without credit is discarded and counted; what finds others kept back waits behind them; an empty bucket keeps a write back. -/
theorem test_weir_waits :
    (let m : LinkMsg := { kind := mkSIGNAL, addr := 8, amount := 1 }; let big : LinkMsg := { kind := mkWRITE, len := 32 * 2048, data := [] }
     let s := { guestSig with weir := { guestSig.weir with waiting := [big] } }
     leatGrant m.vc < s.guestHolds m.vc + m.leatPieces ∧ s.weir.waiting.head? ≠ some m)
    ∧ (let m : LinkMsg := { kind := mkSIGNAL, addr := 8, amount := 1 }; let w : LinkMsg := { kind := mkSIGNAL, addr := 16, amount := 1 }
     let s := { guestSig with weir := { guestSig.weir with waiting := [w] } }
     got (.guestRequest m) s (fun t => t.weir.waiting == [w, m] && t.selfMsgs == []) = true) := by decide +kernel


theorem test_route_reprobe : (let s := ((routed { st := .unreachable }).setLink 4 { st := .active, features := 15 }).setFabric 0 { st := .degraded, routes := [(4, { st := .unreachable })], outcomes := [(4, .matched)] }
    s.destKey 0 4 = 4 ∧ s.candidates 0 4 = [5] ∧ got (.routeReprobeTimer 0 4) s (fun t => (t.route 0 4).st == .probing && (t.route 0 4).probes == [(5, none)]) = true) := by decide +kernel

/-! ### The host port (R311 to R333) -/

/-- The host link is UP and endpoint 0's address is PREFERRED; session 1 of source 1 stands in slot 7. -/
def hostUp (e : Endpoint := {}) : State :=
  { rst with module := { rst.module with hostUp := true } }.setEndpoint 0 { e with addr := .preferred, sessions := [(7, some { id := 1, src := 1 })], sources := [{ addr := 1, version := some 0x100 }] }

theorem test_host_link :
    (rst.module.hostUp = false ∧ rst.module.starting = false ∧ got .hostLinkUp (rst.setEndpoint 0 { addr := .preferred }) (fun t => t.module.hostUp && (t.endpoint 0).addr == .tentative) = true)
    ∧ (hostUp.inStartup = false ∧ got .hostLinkDown hostUp (fun t => !t.module.hostUp && t.rd 0x0700_0020 == 1 && t.raised.map (fun e => e.code) == [evHostPortDown]) = true)
    ∧ (let s := hostUp.setEndpoint 0 { addr := .tentative }
     got (.dadTimer 0 ⟨false, false⟩) s (fun t => (t.endpoint 0).addr == .preferred) = true
     ∧ got (.dadTimer 0 ⟨false, true⟩) s (fun t => (t.endpoint 0).addr == .duplicate && t.raised.map (fun e => e.code) == [evAddressDuplicate]) = true)
    ∧ got (.ethFrameReceive { part := 0, bytes := 64, kind := .badFcs }) hostUp (fun t => t.rd (epBase 0 + epDISCARDS) == 1 && t.rd 0x0700_0018 == 1) = true
    ∧ got (.ethFrameReceive { part := 0, bytes := 64, kind := .neighbourSolicitation 9 false }) hostUp (fun t => (t.endpoint 0).out == [.neighbour false (hostUp.epAddr 0 false)]) = true := by decide +kernel

theorem test_version_and_spdm :
    (let h : HzHead := { src := 1, major := 1, minor := 0, flags := 0, bodyLen := 8, session := 0, seq := 1, tagOk := true }; let adv : Advertise := { minMajor := 1, minMinor := 0, maxMajor := 1, maxMinor := 1, features := 0xFF }
     hostUp.answers 0 = true ∧ (hostUp.source 0 1).blocked = false ∧ chooseHuaza adv = some (0x101, 3) ∧ hostUp.partConfidential 0 = false
     ∧ got (.versionReq 0 h adv) hostUp (fun t => (t.source 0 1).version == some 0x101 && (t.source 0 1).features == 3) = true
     ∧ hostUp.sessionsHeld 0 < 8 ∧ (hostUp.source 0 1).version = some h.version ∧ (hostUp.part 0).st ≠ .dressing
     ∧ got (.spdm 0 h .keyExchange) hostUp (fun t => (t.source 0 1).handshake) = true)
    ∧ (let h : HzHead := { src := 1, major := 1, minor := 0, flags := 0, bodyLen := 8, session := 0, seq := 1, tagOk := true }
     let s := hostUp.setSource 0 { addr := 1, version := some 0x100, handshake := true }
     (upTo 8).find? (fun i => (s.session 0 i).isNone) = some 0
     ∧ got (.spdm 0 h (.finish true)) s (fun t => (t.session 0 0).map (fun x => (x.id, x.src)) == some (1, 1) && !(t.source 0 1).handshake) = true)
    ∧ got (.sessionIdleTimeout 0 7) (hostUp { qps := [(0x100, { st := .rts, session := 1 })] }) (fun t => t.session 0 7 == none && (t.endpoint 0).qps == []) = true
    ∧ got (.sourceBlockExpire 0 1) (hostUp.setSource 0 { addr := 1, blocked := true }) (fun t => !(t.source 0 1).blocked) = true := by decide +kernel

/-- Session 1's slot and state. -/
def sess1 : Session := { id := 1, src := 1 }

theorem test_in_session : InSession hostUp 0 hz 7 sess1 := by decide +kernel

theorem test_host_requests :
    got (.heartbeat 0 (hz 0)) hostUp (fun t => (t.endpoint 0).out == [sess1.reply 3 1 hzOK []] && (t.session 0 7).map (fun x => x.kept) == some [(1, 3, hzOK, [])]) = true
    ∧ got (.closeSession 0 (hz 0)) hostUp (fun t => (t.endpoint 0).out.head? == some (sess1.reply 4 1 hzOK []) && t.session 0 7 == none) = true
    ∧ (hostUp.regsOk 0 (5 * 0x10_0000_0000_0000 + BitVec.ofNat 64 (cellBase 0 + 0x60)) 2 = true ∧ hostUp.regLost (cellBase 0 + 0x60) = false)
    ∧ (let s := hostUp.storeRun 0x1000 [7]
     s.locate { part := 0, dump := true } false 0x1000 4096 = .mem 0x1000 ∧ mustHold (.memRead 0 hz 0x1000 2) s = none
     ∧ got (.memRead 0 hz 0x1000 2) s (fun t => (t.endpoint 0).out == [sess1.reply 0x12 1 hzOK [7, 0]]) = true)
    ∧ (hostUp.locate { part := 0 } true 0x101F 2 = .mem 0x101F ∧ mustHold (.memWrite 0 (hz 18) 0x101F [7, 8]) hostUp = none ∧ hostUp.runLost 0x101F 2 = false)
    ∧ ((hostUp.ctrKey 0 8).isSome = true ∧ got (.incr 0 hz 8 5 7) hostUp (fun t => t.signals == [{ part := 0, offset := 8, amount := 7, job := 5, src := .host 1 1 }]
        && (t.session 0 7).map (fun x => x.inExec) == some [(1, 0)]) = true)
    ∧ (hostUp.journalNext 0 ≤ 0 + 4096 ∧ (let s := hostUp { journal := [(0, { addr := 8, value := 9, time := 0, slot := 7, type := 0x11 })] }; 0 + 1 ≤ s.journalNext 0
     ∧ got (.journalRead 0 hz 0 1) s (fun t => (t.endpoint 0).out == [sess1.reply 0x40 1 hzOK (journalBytes 0 { addr := 8, value := 9, time := 0, slot := 7, type := 0x11 })]) = true)) := by decide +kernel

theorem test_host_register_write : (let a : Word64 := 5 * 0x10_0000_0000_0000 + BitVec.ofNat 64 (cellBase 0 + 0x60)
    hostUp.regsOk 0 a 1 = true ∧ hostUp.regLost (fld a 51 0) = false) := by decide +kernel

theorem test_session_events :
    got (.subscribe 0 hz 0xFFFF 0) hostUp (fun t => (t.session 0 7).map (fun x => x.levels) == some 0xFFFF) = true
    ∧ (let m : EventMsg := { seq := 1, index := 4, gap := 0, recs := [] }; let s := hostUp.setEndpoint 0 { hostUp.endpoint 0 with sessions := [(7, some { sess1 with outEvent := some m })] }
     s.sessSlot 0 1 = some 7 ∧ s.log 0 = [] ∧ got (.eventAck 0 { hz with flags := 3 }) s (fun t => (t.session 0 7).map (fun x => x.outEvent) == some none) = true
     ∧ got (.eventResend 0 7) s (fun t => (t.endpoint 0).out == [sess1.eventOut m]) = true) := by decide +kernel

theorem test_regions_and_queue_pairs :
    (hostUp.locate { part := 0 } true 0x1000 0x2000 = .mem 0x1000 ∧ (upTo 64).find? (fun i => ((hostUp.endpoint 0).mrs.get none i).isNone) = some 0 ∧ hostUp.partConfidential 0 = false)
    ∧ (let m : MemRegion := { rkey := 0x3F, base := 0, length := 4096, rights := 3, sealedMr := false, session := 1 }; let s := hostUp { mrs := [(0x3F, some m)] }
     s.findMr 0 0x3F = some m ∧ got (.mrDereg 0 (hz 8) 0x3F) s (fun t => (t.endpoint 0).mrs == [] && (t.endpoint 0).out == [sess1.reply 0x51 1 hzOK []]) = true)
    ∧ got (.qpSet 0 (hz 32) { qpn := 0x13F, dest := 0xFFFFFF, psn := 0xFFFFFF, state := 1, mtu := 3, maxRd := 64, gid := 2 }) hostUp (fun t =>
        t.qp 0 0x13F == { st := .rts, dest := 0xFFFFFF, psn := 0xFFFFFF, mtu := 3, maxRd := 64, gid := 2, session := 1 }) = true
    ∧ (let s := hostUp { qps := [(0x100, { st := .rts, session := 1, psn := 4 })] }
     got (.qpQuery 0 (hz 8) 0x100) s (fun t => (t.endpoint 0).out == [sess1.reply 0x53 1 hzOK ((s.qp 0 0x100).record 0x100)]) = true) := by decide +kernel

/-- Queue pair 0x100 in RTS for source 1, and a region of space 0 from 0x1000. -/
def qpair (q : Qp := {}) : State :=
  hostUp { qps := [(0x100, { q with st := .rts, session := 1, gid := 1 })], mrs := [(0, some { rkey := 0, base := 0x1000, length := 4096, rights := 3, sealedMr := false, session := 1 })] }

theorem test_rdma :
    (let k := { pkt 0x0A [7, 8] with va := 0x101F }
     AtQp qpair 0 k ∧ (match qpair.rdmaRefuse 0 k.rkey k.va.toNat k.len.toNat 1 with | .ok m => m.base == 0x1000 && !m.sealedMr | .error _ => false) = true
     ∧ qpair.locate { part := 0 } true k.va.toNat 0 = .mem 0x101F)
    ∧ (let k := { pkt 0x0A [7, 8] with va := 0x101F }; let s := qpair { psn := 1 }
     (s.qp 0 0x100).order 0 = .duplicate ∧ got (.rdmaWrite 0 k) s (fun t => t.mem == [] && (t.endpoint 0).out == [.ack 0x100 0] && (t.qp 0 0x100).psn == 1) = true)
    ∧ (let k := { pkt 0x0C [] with va := 0x1000, len := 2 }; let s := qpair.storeRun 0x1000 [7]
     AtQp s 0 k ∧ s.locate { part := 0 } true k.va.toNat 0 = .mem 0x1000 ∧ (∀ i, i < k.len.toNat → s.poisoned (0x1000 + i) = false)) := by decide +kernel

/-- What stands before a session: no session, an unsealed request, a failed tag, a copy of an answered request, another version than the session's, a wrong length. -/
theorem test_session_checks :
    (sessionRow (.heartbeat 0 (hz 0)) = some (0, 3, hz 0, 0) ∧ hostUp.sessSlot 0 1 = some 7 ∧ (hz 0).sealedMsg = true ∧ (hz 0).version = sess1.version)
    ∧ (hostUp.sessSlot 0 9 = none ∧ (hz 4).bodyLen.toNat ≠ 0 ∧ { hz 0 with minor := 1 }.version ≠ sess1.version)
    ∧ (let s := hostUp.setEndpoint 0 { hostUp.endpoint 0 with sessions := [(7, some { sess1 with kept := [(1, 0x20, hzOK, [5])] })] }
     got (.heartbeat 0 (hz 0)) s (fun t => (t.endpoint 0).out == [sess1.reply 0x20 1 hzOK [5]]) = true) := by decide +kernel

/-- A full share without flow control drops a frame; a link-local echo is answered from that address; a pause holds what would leave. -/
theorem test_host_frames :
    (let s := { hostUp with cfg := [(cfgPart 0 + 0x1C, 0)] }
     s.partValid 0 = true ∧ s.epPfc 0 = false ∧ s.rxShare < s.rxShare + 64
     ∧ got (.ethFrameReceive { part := 0, bytes := 64, kind := .badFcs, level := s.rxShare }) s (fun t => t.rd (epBase 0 + epDISCARDS) == 0) = true)
    ∧ (let s := hostUp.setAddr 0 true .preferred
     s.addrAnswers 0 true = true ∧ got (.ethFrameReceive { part := 0, bytes := 64, kind := .echo 9 true }) s (fun t => (t.endpoint 0).out == [.echo (s.epAddr 0 true)]) = true)
    ∧ got (.ethFrameReceive { part := 0, bytes := 64, kind := .pfc 0xFF }) hostUp (fun t => t.port.paused == 0xFF) = true := by decide +kernel


/-! ### Registers, power and clocks (R336 to R367, R431) -/

/-- Region 0 in a state. -/
def reg0 (x : RegionPower) (s : State := rst) : State := s.setRegion 0 x

/-- The module's power part in a state. -/
def pw (p : Power) : State := { rst with power := p }

theorem test_live : Live rst := by decide +kernel

theorem test_register_accesses :
    (rst.cellPart 1 = 0 ∧ got (.registerWrite 0 (BitVec.ofNat 52 (cellBase 1 + 0x60)) 77) rst (fun t => t.rd (cellBase 1 + 0x60) == 77) = true)
    ∧ (idles (.registerWrite 0 0x0100_0004 1) rst = true ∧ rst.regReach 0 0x7000_0000 = false ∧ idles (.rcRegisterRead 0 0x7000_0000) rst = true)
    ∧ (let o := cellBase 1 + 0xA0; (regRow o).map (fun r => r.rc != 0) = some true ∧ rst.regReach 0 o = true ∧ rst.regFrozen o = false ∧ rst.restartLevel o = none
     ∧ got (.rcRegisterRead 0 (BitVec.ofNat 52 o)) (rst.wr o 9) (fun t => t.rd o == 0) = true) := by decide +kernel

theorem test_register_selections :
    rst.telemFrozen = false
    ∧ (fld (0x43 : Word64) 9 6 < 12 ∧ rst.regionPart 1 = 0 ∧ (let s := (rst.setFanEntry 1 3 { valid := true, count := 2, job := 5, demand := 300, power := 280, duration := 9 }).setRegion 1 { tagJob := 5 }
     got (.fanSelWrite 0 0x43) s (fun t => t.rd (fanBase 0 + 0x18) == 0x43 && t.rb (fanBase 0 + 0x20) 63 && t.rf (fanBase 0 + 0x20) 31 16 == 300 && t.rd (fanBase 0 + 0x28) == 9)) = true) := by decide +kernel

theorem test_test_ctrl :
    (let s := { rst.setPart 0 { testArmed := true } with cfg := [(cfgPart 0 + 3, 0xF)] }
     s.partSecure 0 = false ∧ fld (5 : Word64) 3 0 &&& s.testPermit 0 = fld (5 : Word64) 3 0
     ∧ got (.testCtrlWrite 0 5) s (fun t => t.rf 0x0C00_0000 3 0 == 5 && t.raised.map (fun e => e.arg0) == [0, 2]) = true)
    ∧ got (.testCtrlWrite 0 5) rst (fun t => t.rb 0x0C00_0008 7 && t.rf 0x0C00_0000 3 0 == 0) = true := by decide +kernel

theorem test_input_fault : (rst.module.powered = true ∧ rst.power.inputOk = true) ∧ got .inputFault rst (fun t => t.module.held && !t.power.inputOk && bit t.board.alert 3) = true := by decide +kernel

theorem test_rail_fault : rst.module.starting = false ∧ rst.validParts = [0] ∧ (rst.part 0).st = .ready ∧ rst.power.railsOff = [] ∧ rst.power.railFault = [] := by decide +kernel

theorem test_power_sample :
    got (.powerSample 6010 ⟨5000, [800]⟩) rst (fun t => t.power.corr == 10 && t.raised == []) = true
    ∧ got (.powerSample 5000 ⟨5000, [800]⟩) (pw { corr := 30, below := 99 }) (fun t => t.power.corr == 20 && t.power.below == 0) = true
    ∧ (rst.ceff = 6000 ∧ got (.powerSample 6000 ⟨6001, [800]⟩) rst (fun t => t.power.corr == 0 && t.raised.map (fun e => (e.code, e.arg0)) == [(evCapExceeded, 6001 + 6000 * 65536)]
      && t.power.capHold == 10000 && bit t.board.alert 7) = true)
    ∧ got (.powerSample 6000 ⟨6001, [800]⟩) (pw { capHold := 1 }) (fun t => t.raised == [] && t.power.capKept && t.power.capHold == 0) = true
    ∧ got (.powerSample 6000 ⟨6000, [800]⟩) rst (fun t => decide (t = { rst with power := t.power })) = true := by decide +kernel

theorem test_telemetry : rst.telemFrozen = false ∧ got (.telemetryRecord (List.replicate 64 1)) (pw { telemSeq := 2 ^ 32 - 1 }) (fun t =>
    t.power.telemetry.take 5 == [255, 255, 255, 255, 1] && t.power.telemSeq == 0) = true := by decide +kernel

theorem test_reference :
    got .refLoss rst (fun t => t.power.source == 2 && t.raised.map (fun e => (e.code, e.arg0)) == [(evRefLost, 1)]) = true
    ∧ got .refLoss (pw { source := 2 }) (fun t => t.power.holdover && t.rd 0x0800_00C8 == 1) = true := by decide +kernel

theorem test_overtemp : rst.module.held = false ∧ got .overtempComparator rst (fun t => t.module.held && t.module.lastCause == 4) = true := by decide +kernel

theorem test_stack_temperature :
    (rst.cfgB 0x01E = 92 ∧ got (.stackTemperature 3 92) rst (fun t => t.power.hotStacks == [3] && t.raised.map (fun e => e.code) == [evStackThrottle]) = true)
    ∧ got (.stackTemperature 3 87) (pw { hotStacks := [3] }) (fun t => t.power.hotStacks == []) = true
    ∧ 100 < sext 8 ((101 : Byte)).toNat ∧ sext 8 ((255 : Byte)).toNat < 88 := by decide +kernel

theorem test_operating_point :
    got (.opChangeStep 0 .locked) (reg0 { step := .lock, toOp := 1 }) (fun t => (t.region 0).step == .move false) = true
    ∧ got (.opChangeStep 0 .slewed) (reg0 { step := .slewAndLock false false }) (fun t => (t.region 0).step == .slewAndLock true false) = true
    ∧ got (.opChangeStep 0 .locked) (reg0 { step := .slewAndLock true false }) (fun t => (t.region 0).step == .move true) = true
    ∧ got (.opChangeStep 0 .moved) (reg0 { step := .move true, op := 2, toOp := 1 }) (fun t => (t.region 0).op == 1 && (t.region 0).step == .none) = true
    ∧ got (.opChangeStep 0 .moved) (reg0 { step := .move false, op := 1, toOp := 2 }) (fun t => (t.region 0).op == 2 && (t.region 0).step == .slewDown) = true
    ∧ got (.opChangeStep 0 .slewed) (reg0 { step := .slewDown }) (fun t => (t.region 0).step == .none && t.rf (gov 0 + 0x20) 31 0 == 1) = true
    ∧ got (.clockMoveAbandon 0) (reg0 { step := .move true, op := 2 }) (fun t => (t.region 0).step == .none && t.rb (gov 0 + 0x48) 2 && (t.region 0).op == 2
      && t.raised.map (fun e => e.arg0) == [16]) = true := by decide +kernel

theorem test_droop :
    got (.droopDetect 0) rst (fun t => (t.region 0).droop && t.rd (gov 0 + 0x50) == 1 && t.raised.map (fun e => e.arg1) == [1]) = true
    ∧ got (.droopDetect 0) (reg0 { droopHold := 3 }) (fun t => t.raised == []) = true
    ∧ got (.droopEnd 0 64) (reg0 { droop := true }) (fun t => !(t.region 0).droop && t.rd (gov 0 + 0x58) == 64) = true
    ∧ (rst.regionPart 0 = 0 ∧ got (.testClockStretch 0) ((rst.wr 0x0C00_0000 4).wr 0x0C00_0028 0x1_0007) (fun t => t.rd (gov 0 + 0x58) == 7 && (t.region 0).recentDroop == 5) = true) := by decide +kernel

theorem test_governor :
    got (.governorWindow 0) (reg0 { points := 115200 }) (fun t => (t.region 0).prevA == 127 && (t.region 0).floor == 127 - rst.cfgB 0x017 && (t.region 0).points == 0) = true
    ∧ got (.governorSlot 0) (reg0 { ceiling := 255, floor := 10, slotPoints := 3 }) (fun t => (t.region 0).points == 900 && (t.region 0).slotPoints == 0) = true
    ∧ got (.governorSlot 0) (reg0 { ceiling := 255, slotPoints := 23040 }) (fun t => (t.region 0).withheld) = true
    ∧ got (.trimSample 0 101 0) (reg0 { alloc := 100 }) (fun t => (t.region 0).m == 239) = true
    ∧ got (.trimSample 0 90 0) (reg0 { alloc := 100, m := 250 }) (fun t => (t.region 0).m == 255) = true
    ∧ got (.trimSample 0 95 0) (reg0 { alloc := 100, m := 77 }) (fun t => (t.region 0).m == 77) = true := by decide +kernel

theorem test_sleep :
    (let s := forEach (upTo 48) rst (fun s i => s.setCell i { sleep := .powerGated })
     (∀ i, i < 48 → (s.cell (48 * 0 + i)).sleep ≠ .awake) ∧ got (.regionRest 0) s (fun t => (t.region 0).resting) = true)
    ∧ (rst.cellQuiet 5 = true ∧ (rst.region (cellRegion 5)).floor = 0 ∧ got (.cellClockGate 5) rst (fun t => (t.cell 5).sleep == .clockGated) = true)
    ∧ got (.cellPowerGate 5) (rst.setCell 5 { sleep := .clockGated }) (fun t => (t.cell 5).sleep == .powerGated) = true
    ∧ got (.cellWake 5) ((reg0 { resting := true }).setCell 5 { sleep := .powerGated }) (fun t => (t.cell 5).sleep == .awake && !(t.region 0).resting) = true := by decide +kernel

theorem test_fantail : rst.partValid 0 = true ∧ got (.fantailRecompute 0 800) (pw { corr := 100 }) (fun t => t.rf (fanBase 0 + 0x10) 15 0 == 4868 && t.rd (fanBase 0 + 0x30) == 1) = true := by decide +kernel

theorem test_thermal :
    (rst.cfgB 0x01D = 95 ∧ got (.thermalStep 0 380 7 false) rst (fun t => (t.region 0).thermal == 1 && t.raised.map (fun e => (e.code, e.index)) == [(evThermalThrottle, 0)] && t.rf (gov 0 + 0x88) 23 8 == 380) = true)
    ∧ got (.thermalStep 0 359 7 false) (reg0 { thermal := 2 }) (fun t => (t.region 0).thermal == 1 && t.raised == [] && t.rf (gov 0 + 0x88) 31 24 == 7) = true
    ∧ got (.thermalStep 0 0xFFFF 7 false) (reg0 { thermal := 2 }) (fun t => (t.region 0).thermal == 1) = true := by decide +kernel


/-! ### Faults, tolls, ponds and dumps (R368 to R389) -/

/-- Partition 0 in a state. -/
def part0 (x : Part) (s : State := rst) : State := s.setPart 0 x

/-- An event of partition 0. -/
def someEvent : Event := { code := evTollDone, part := 0 }

theorem test_event_record : ((0 : Nat) ∈ rst.validParts ∧ someEvent.part = 0 ∧ (rst.log 0).length < 4096)
    ∧ got .eventRecordWrite { rst with raised := [someEvent, someEvent] } (fun t => t.raised == [someEvent] && (t.log 0).length == 1) = true := by decide +kernel

theorem test_region_loss : (5 : Nat) ∉ rst.lostRegions ∧ (rst.part (rst.regionPart 5)).st = .ready := by decide +kernel

theorem test_freeze_timeout : (let s := part0 { st := .failing } (rst.setCell 3 { st := .freezing })
    (3 : Nat) ∈ s.partCells 0 ∧ got (.partitionFreezeTimeout 0) s (fun t => (t.cell 3).st == .killing) = true) := by decide +kernel

theorem test_crosscheck : (let s := rst.wr (xchkBase 2) 0x101
    s.rb (xchkBase 2) 0 = true ∧ s.rf (xchkBase 2) 15 8 ≠ 0 ∧ (24 : Nat) = 12 * 2 + (xchkPairs.getD (s.module.xchk.get (0, 0) 2).1 (0, 1)).1
    ∧ got (.crosscheck 2 24 .agree) s (fun t => t.module.xchk.get (0, 0) 2 == (1, 0) && t.rd (xchkBase 2 + 0x10) == 1 && t.raised == []) = true)
    ∧ xchkNext (65, 3) = (0, 0) ∧ xchkPairs.getD 11 (0, 0) = (1, 2) := by decide +kernel

theorem test_dump_states :
    (let s := part0 { st := .dumping }; (s.part 0).st = .dumping ∧ (s.part 0).dump.written = false)
    ∧ (let s := part0 { st := .dumping, dump := { written := true } }; (s.part 0).dump.written = true ∧ s.module.fatal = 0)
    ∧ got (.dumpRelease 0) (part0 { dump := { farKeys := true, bytes := 9 } }) (fun t => (t.part 0).dump == { bytes := 9 }) = true
    ∧ rst.module.fatal = 0 := by decide +kernel

theorem test_toll :
    got (.tollStart 0) (rst.wr (tollBase 0 + rSTEP) 9) (fun t => (t.part 0).toll.st == .hashing && (t.part 0).toll.tag == 9 && t.rf (tollBase 0 + rUSTATUS) 2 0 == 1) = true
    ∧ got (.tollStart 0) (part0 { toll := { st := .exchanging } }) (fun t => t.rb (tollBase 0 + rUSTATUS) 10 && (t.part 0).toll.st == .exchanging) = true
    ∧ (let s := (part0 { toll := { st := .exchanging } }).setCtr 0 { st := .owned, value := 5 }
     s.ctrKey 0 (s.rf (tollBase 0 + 0x10) 21 3 * 8) = some 0 ∧ (s.ctr 0).st = .owned ∧ (s.rd (tollBase 0 + 0x40)).toNat ≤ (s.ctr 0).value.toNat
     ∧ got (.tollDecide 0) s (fun t => (t.part 0).toll.st == .idle && t.rf (tollBase 0 + rUSTATUS) 2 0 == 3 && t.raised.map (fun e => (e.code, e.arg0)) == [(evDigestMismatch, 5)]) = true)
    ∧ got (.tollTimeout 0) (part0 { toll := { st := .exchanging } }) (fun t => (t.part 0).toll.st == .idle && t.rf (tollBase 0 + rUSTATUS) 2 0 == 3) = true
    ∧ got (.tollAbort 0) { part0 { toll := { st := .exchanging } } with reqs := [{ txid := 1, src := .toll 0, kind := mkWRITE, via := .self }] } (fun t =>
        t.rf (tollBase 0 + rUSTATUS) 2 0 == 4 && t.reqs.map (fun r => r.src) == [.nobody 0 12]) = true := by decide +kernel

/-- R381's table: replicas 0 to 3 with digests, all alike; two against two; one odd; the own one odd; one missing. -/
theorem test_toll_outcomes :
    tollOutcome 0 4 [(0, 7, false), (1, 7, false), (2, 7, false), (3, 7, false)] = (1, [], [])
    ∧ tollOutcome 0 4 [(0, 7, false), (1, 7, false), (2, 8, false), (3, 8, false)] = (5, [], [])
    ∧ tollOutcome 0 4 [(0, 7, false), (1, 7, false), (2, 8, false), (3, 7, false)] = (3, [2], [])
    ∧ tollOutcome 2 4 [(0, 7, false), (1, 7, false), (2, 8, false), (3, 7, false)] = (4, [2], [])
    ∧ tollOutcome 0 4 [(0, 7, false), (1, 7, false), (3, 7, false)] = (2, [], [2])
    ∧ tollOutcome 0 4 [(0, 7, false), (1, 7, true), (2, 7, false), (3, 7, false)] = (3, [1], []) := by decide +kernel

theorem test_pond :
    (rst.rb (pondBaseReg 0 + 0x60) 63 = false ∧ got (.pondReturn 0) rst (fun t => t.rb (pondBaseReg 0 + rUSTATUS) 25) = true)
    ∧ (let s := part0 { pond := { st := .copying, awaiting := [1] } }
     got (.pondReturn 0) s (fun t => t.rb (pondBaseReg 0 + rUSTATUS) 25) = true
     ∧ got (.pondAbort 0) s (fun t => (t.part 0).pond.st == .idle && (t.part 0).pond.awaiting == [] && t.raised.map (fun e => (e.code, e.arg0)) == [(evPondFailed, 0x10A)]) = true)
    ∧ got (.pondFarDrain 0) (part0 { pond := { draining := true } }) (fun t => !(t.part 0).pond.draining) = true
    ∧ got (.pondDisarm 0) (rst.wr (pondBaseReg 0 + rTRIG) (2 ^ 63 + 8)) (fun t => t.rd (pondBaseReg 0 + rTRIG) == 8) = true
    ∧ got (.acceptOpen 0) rst (fun t => (t.part 0).pond.accepting) = true
    ∧ got (.acceptClose 0) (part0 { pond := { accepting := true } }) (fun t => !(t.part 0).pond.accepting) = true := by decide +kernel

/-- What has nothing to act on leaves the state. -/
theorem test_nothing_to_act_on :
    rst.raised = [] ∧ idles .eventRecordWrite rst = true ∧ idles (.regionLoss 5 0) rst = true ∧ idles (.partitionFreezeTimeout 0) rst = true ∧ idles (.crosscheck 2 30 .agree) rst = true
    ∧ idles (.fatalDump 0) rst = true ∧ idles (.dumpEnd 0) rst = true ∧ idles (.tollHashEnd 0) rst = true ∧ idles (.tollDecide 0) rst = true ∧ idles (.pondCopyEnd 0) rst = true
    ∧ idles (.pondFarDrain 0) rst = true ∧ idles (.pondAbort 0) rst = true := by decide +kernel


/-! ### The board controller, start-up, dressing and the machine (R10, R29, R341, R406 to R431) -/

/-- What the board controller would read after a command. -/
def answers (i : Instr) (s : State) (r : Nat) (bs : List Byte) : Bool := got i s (fun t => t.board.response == some (r, bs))

theorem test_board_answers :
    answers (.bcStatus false) rst 1 [] = true
    ∧ answers (.bcStatus true) rst 0 rst.boardStatus = true ∧ rst.boardStatus.length = 32
    ∧ (answers (.setBoardLimit true 4000) rst 0 [] = true ∧ got (.setBoardLimit true 4000) rst (fun t => t.power.boardLimit == 4000 && t.ceff == 4000) = true)
    ∧ answers (.setCoord true 16 0 0) rst 5 [] = true ∧ answers (.bcDress true 6) rst 5 [] = true
    ∧ (rst.partValid 0 = true ∧ (rst.setPart 0 { st := .failing }).dressable 0 = false ∧ answers (.bcDress true 0) (rst.setPart 0 { st := .failing }) 4 [] = true)
    ∧ answers (.readSummary true 3 2) (rst.setPart 0 { dump := { summary := [1, 2, 3, 4] } }) 0 [4, 0] = true
    ∧ got (.alertRead true) { rst with board := { alert := 0x0102 } } (fun t => t.board.alert == 0 && t.board.response == some (0, [2, 1])) = true
    ∧ got (.entdaa 9) rst (fun t => t.board.dynAddr == some 9) = true := by decide +kernel

theorem test_board_effects :
    (rst.dressable 0 = true ∧ got (.bcDress true 0) rst (fun t => (t.part 0).st == .dressing && (t.part 0).dress == 1 && t.board.response == some (0, [])) = true)
    ∧ (let s := { rst with module := { rst.module with fusedSvn := 2, imageSvn := 5 } }
     s.reachedReady = true ∧ got (.raiseSvn true 5) s (fun t => t.module.fusedSvn == 5) = true)
    ∧ got (.testArm true 0 1) rst (fun t => (t.part 0).testArmed) = true
    ∧ (let s := { rst with module := { rst.module with serial := 0x0102, identity := 3 } }
     answers (.identityRead true) s 0 [2, 1, 0, 0, 0, 0, 0, 0, 0, 3, 0, 0, 0, 0, 0, 0, 0] = true) := by decide +kernel

theorem test_set_coord :
    rst.coordOk 1 2 3 = true
    ∧ (let s := rst.setFabric 0 { st := .discovering }
     s.coordOk 1 2 4 = false ∧ answers (.setCoord true 1 2 4) s 4 [] = true) := by decide +kernel

/-- A module held in start-up at a step. -/
def booting (n : Nat) : State := { rst with module := { rst.module with starting := true, held := true, step := n } }

theorem test_start_up :
    got .powerOn { rst with module := { rst.module with powered := false } } (fun t => t.module.powered && t.module.starting && t.module.held && t.module.step == 0 && t.rf (rBOOT + 0x10) 31 0 == 1) = true
    ∧ (rst.module.powered = true ∧ got .modReset rst (fun t => t.module.starting && t.module.held && t.module.lastCause == 1) = true)
    ∧ got .powerOff rst (fun t => !t.module.powered && t.module.held && t.board == {}) = true
    ∧ got (.startStepComplete (.module 0) (.done [] 0)) (booting 0) (fun t => t.module.step == 1) = true
    ∧ got (.startStepComplete (.module 1) (.done [] 0)) (booting 1) (fun t => t.module.step == 2 && t.module.seeded) = true
    ∧ ((booting 3).power.extRef = true ∧ (booting 3).module.step = 3)
    ∧ (let s := rst.setPart 0 { st := .starting, step := 9 }
     got (.startStepComplete (.part 0 9) (.done [] 0)) s (fun t => (t.part 0).st == .ready) = true) := by decide +kernel

/-- A partition at a step of its start-up. -/
def starting (n : Nat) (s : State := rst) : State := s.setPart 0 { st := .starting, step := n }

/-- A rail may fail while it ramps; a stack whose bin 0 fails is lost; without a coordinate step 7 waits, and without a complete fabric step 8. -/
theorem test_start_up_steps :
    ((booting 3).ramping = true ∧ rst.ramping = false)
    ∧ (let s := (forEach (upTo 24) rst (fun s k => s.wf (memBase k + 8) 2 0 1)).setPart 0 { st := .starting, step := 4 }; let broken : List (StackId × List BinTrial) := [(0, List.replicate 4 { fails := true })]
     s.module.held = false ∧ s.stacksTrained 0 = false ∧ (s.stackBins 0 broken).head? = some (0, none) ∧ (s.stackBins 0 []).all (fun e => e.2.isSome) = true
     ∧ got (.startStepComplete (.part 0 4) (.stacks broken)) s (fun t => t.rf (memBase 0 + 8) 2 0 == 3 && (t.part 0).st == .failed) = true
     ∧ got (.startStepComplete (.part 0 4) (.stacks [])) s (fun t => t.rf (memBase 0 + 8) 2 0 == 2 && t.rd (memBase 0 + 0x10) == 0 && (t.part 0).step == 4) = true)
    ∧ got (.startStepComplete (.part 0 6) (.fail 0)) (starting 6) (fun t => t.rf 0x0700_0000 9 8 == 3) = true
    ∧ got (.startStepComplete (.part 0 7) (.done [] 0)) (starting 7) (fun t => (t.part 0).step == 7) = true
    ∧ got (.startStepComplete (.part 0 8) (.done [] 0)) (starting 8 (rst.setFabric 0 { st := .complete })) (fun t => (t.part 0).step == 9) = true
    ∧ idles (.startStepComplete (.part 0 8) (.done [] 0)) (starting 9) = true := by decide +kernel

theorem test_dressing :
    (rst.dressable 0 = true ∧ got (.pctrlDress 0) rst (fun t => (t.part 0).st == .dressing && (t.part 0).dress == 1) = true)
    ∧ (let s := rst.setPart 0 { st := .failed, cause := evDressingFailed }
     s.dressable 0 = false ∧ got (.pctrlDress 0) s (fun t => t.rb (secBase 0 + 8) 7) = true)
    ∧ (let s := rst.setPart 0 { st := .dressing, dress := 2, keys := false }
     s.module.trngFault = false ∧ got (.dressingStep 0 (.done [] 77)) s (fun t => (t.part 0).dress == 3 && (t.part 0).keys && t.rd (secBase 0 + 0x18) == 77 && t.rd (secBase 0 + 0x20) == 1) = true)
    ∧ (let s := rst.setPart 0 { st := .dressing, dress := 4 }
     (s.scanPart 0 2 []).2 = true ∧ got (.dressingStep 0 (.done [] 0)) s (fun t => (t.part 0).dress == 5) = true)
    ∧ (let s := rst.setPart 0 { st := .dressing, dress := 5 }; (s.part 0).dump.farKeys = false ∧ (s.part 0).dress = 5)
    ∧ got .trngHealthFail rst (fun t => t.module.trngFault && t.raised.map (fun e => e.code) == [evTrngFault]) = true := by decide +kernel

theorem test_step_runs_the_front : (match step { rst with pending := [.acceptOpen 0, .nop 0] } with | .next t => (t.part 0).pond.accepting && t.pending == [.nop 0] | _ => false) = true
    ∧ (match step rst with | .next t => decide (t = rst) | _ => false) = true := by decide +kernel

theorem test_dark_module_waits : (let s := { rst with module := { rst.module with held := true } }
    alwaysOn (.acceptOpen 0) = false ∧ idles (.acceptOpen 0) s = true ∧ alwaysOn .modReset = true ∧ got .modReset s (fun t => t.module.starting) = true) := by decide +kernel

/-- A step from a state in canonical form that lists one byte: a store of 0 over it lists nothing. -/
theorem test_canonical_form :
    Memory.wf [((5 : Nat), (1 : Byte))] = true ∧ Memory.wf [((5 : Nat), (0 : Byte))] = false ∧ Memory.wf [((5 : Nat), (1 : Byte)), (5, 1)] = false
    ∧ ({ rst with mem := [(5, 1)] }.storeRun 5 [0]).mem = [] ∧ CountersOk (rst.setCtr 3 { st := .owned }) := by decide +kernel

/-- The counter window of cell 7 (R28), by its own alias and by another's: R29. -/
theorem test_self_alias :
    rst.locate { part := 0, cell := some 7 } false (3 * 2 ^ 52 + 0x1_FF80_0000 + 0x10) 8 = .mem (cellKey 7 0x10)
    ∧ rst.locate { part := 0, cell := some 7 } false (3 * 2 ^ 52 + 0x1_FF80_0000 + 0x7F_FFF8) 8 = .mem (cellKey 7 0x7F_FFF8)
    ∧ (listedRun (7 * 0x80_0000 + 0x10) 8 = true ∧ rst.locate { part := 0, cell := some 7 } true (3 * 2 ^ 52 + 0x1_FF80_0000 + 0x10) 8 = .mem (cellKey 7 0x10))
    ∧ rst.locate { part := 0 } false (3 * 2 ^ 52 + 0x1_FF80_0000 + 0x10) 8 = .fault := by decide +kernel

theorem test_active_blocks : (let s := { rst with module := { rst.module with spare := [(0, 4)] } }
    s.outBlock 0 = 4 ∧ s.outBlock 1 ≤ 12 ∧ s.physBlock 3 = 3 ∧ s.physBlock 4 = 5 ∧ s.physBlock 12 = 0) ∧ (rst.physBlock 11 = 11) := by decide +kernel

theorem test_always_on : rst.cp 0 = 5800 ∧ rst.validParts = [0] := by decide +kernel


end Sys2Proof.Tests
end

