-- ==== Sys2Proof/Proofs/ActiveBlocks.lean ====
section
/-! R10, R22: the physical block of an active block, as an ascending numbering of a region's blocks that leaves out the block out of service. -/

namespace Sys2Proof.Machine

theorem State.physBlock_of_lt_outBlock {s : State} {b : Nat} (h : b % 12 < s.outBlock (b / 12)) : s.physBlock b = b % 12 :=
  if_pos h

theorem State.physBlock_of_outBlock_le {s : State} {b : Nat} (h : s.outBlock (b / 12) ≤ b % 12) : s.physBlock b = b % 12 + 1 :=
  if_neg (Nat.not_lt.mpr h)

theorem State.physBlock_ne_outBlock (s : State) (b : Nat) : s.physBlock b ≠ s.outBlock (b / 12) := by
  rcases Nat.lt_or_ge (b % 12) (s.outBlock (b / 12)) with below | above
  · rw [physBlock_of_lt_outBlock below]
    exact Nat.ne_of_lt below
  · rw [physBlock_of_outBlock_le above]
    exact Nat.ne_of_gt (Nat.lt_succ_of_le above)

theorem State.le_physBlock (s : State) (b : Nat) : b % 12 ≤ s.physBlock b := by
  rcases Nat.lt_or_ge (b % 12) (s.outBlock (b / 12)) with below | above
  · exact Nat.le_of_eq (physBlock_of_lt_outBlock below).symm
  · rw [physBlock_of_outBlock_le above]
    exact Nat.le_succ _

theorem State.physBlock_le (s : State) (b : Nat) : s.physBlock b ≤ b % 12 + 1 := by
  rcases Nat.lt_or_ge (b % 12) (s.outBlock (b / 12)) with below | above
  · rw [physBlock_of_lt_outBlock below]
    exact Nat.le_succ _
  · exact Nat.le_of_eq (physBlock_of_outBlock_le above)

theorem State.physBlock_lt_thirteen (s : State) (b : Nat) : s.physBlock b < 13 := by
  have := s.physBlock_le b
  omega

/-- Of two active blocks of one region the lower keeps the lower physical block: below the block out of service neither number is shifted, and a shifted lower one has the
upper one shifted too. -/
theorem State.physBlock_lt_physBlock (s : State) {b d : Nat} (region : d / 12 = b / 12) (h : b < d) : s.physBlock b < s.physBlock d := by
  have index : b % 12 < d % 12 := by omega
  rcases Nat.lt_or_ge (b % 12) (s.outBlock (b / 12)) with below | above
  · calc s.physBlock b = b % 12 := physBlock_of_lt_outBlock below
      _ < d % 12 := index
      _ ≤ s.physBlock d := s.le_physBlock d
  · have aboveD : s.outBlock (d / 12) ≤ d % 12 := region ▸ Nat.le_trans above (Nat.le_of_lt index)
    calc s.physBlock b ≤ b % 12 + 1 := s.physBlock_le b
      _ < d % 12 + 1 := Nat.succ_lt_succ index
      _ = s.physBlock d := (physBlock_of_outBlock_le aboveD).symm

/-- In region 0 an active block's index is its number. -/
theorem State.physBlock_region_zero {s : State} {b : Nat} (hb : b < 12) :
    (b < s.outBlock 0 → s.physBlock b = b) ∧ (s.outBlock 0 ≤ b → s.physBlock b = b + 1) := by
  have region : b / 12 = 0 := Nat.div_eq_of_lt hb
  have index : b % 12 = b := Nat.mod_eq_of_lt hb
  refine ⟨fun below => ?_, fun above => ?_⟩
  · rw [physBlock_of_lt_outBlock (by rwa [region, index]), index]
  · rw [physBlock_of_outBlock_le (by rwa [region, index]), index]

/-- Settles O59, by the two branches of the numbering and its order within a region. The hypothesis that the spare is at most 12 is not needed. -/
theorem activeBlockIndex : Obligations.ActiveBlockIndex := by
  unfold Obligations.ActiveBlockIndex
  refine ⟨fun s b _ => ⟨State.physBlock_of_lt_outBlock, State.physBlock_of_outBlock_le, s.physBlock_ne_outBlock b, s.physBlock_lt_thirteen b,
    fun d region h => s.physBlock_lt_physBlock region h⟩, fun s spare => ⟨fun b hb => ?_, fun b hb hb' => ?_⟩⟩
  · exact (State.physBlock_region_zero (by omega)).1 (by omega)
  · exact (State.physBlock_region_zero hb').2 (by omega)

end Sys2Proof.Machine
end

