-- ==== Sys2Proof/Proofs/SelfAlias.lean ====
section
/-! R29: the self alias of space 3, the window of index 1,023, as an alias of the issuing cell's own window. -/

namespace Sys2Proof.Machine

/-- The address at an offset of the self alias lies in space 3. -/
theorem nbits_selfAlias {a : Nat} (h : a < 0x80_0000) : nbits (3 * 2 ^ 52 + 0x1_FF80_0000 + a) 56 52 = 3 := by
  rw [nbits, Nat.shiftRight_eq_div_pow]
  omega

/-- Where a run within the self alias leads: for a requester on a cell's behalf, to the cell's own window where a write's bytes are listed; for any other, nowhere. -/
theorem State.locate_selfAlias (s : State) (rq : Rq) (write : Bool) {a n : Nat} (hn : 0 < n) (inside : a + n ≤ 0x80_0000) :
    s.locate rq write (3 * 2 ^ 52 + 0x1_FF80_0000 + a) n
      = rq.cell.elim .fault fun c => if !write || listedRun (c * 0x80_0000 + a) n then .mem (cellKey c a) else .fault := by
  have space : nbits (3 * 2 ^ 52 + 0x1_FF80_0000 + a) 56 52 = 3 := nbits_selfAlias (by omega)
  have offset : (3 * 2 ^ 52 + 0x1_FF80_0000 + a) % 2 ^ 52 = 0x1_FF80_0000 + a := by omega
  have inSpace : ¬ 2 ^ 52 < 0x1_FF80_0000 + a + n := by omega
  have inAlias : 0x1_FF80_0000 ≤ 0x1_FF80_0000 + a ∧ 0x1_FF80_0000 + a + n ≤ 0x2_0000_0000 := by omega
  simp only [locate, space, offset, if_neg inSpace, inAlias, Nat.add_sub_cancel_left]
  cases rq.cell <;> rfl

/-- Settles O58: each clause is the case of `State.locate_selfAlias` for its requester and its direction. -/
theorem selfAlias : Obligations.SelfAlias := by
  unfold Obligations.SelfAlias
  intro s rq a n hn inside
  refine ⟨fun c cell => ?_, fun c cell listed => ?_, fun cell write => ?_⟩
  · rw [s.locate_selfAlias rq false hn inside, cell]
    rfl
  · rw [s.locate_selfAlias rq true hn inside, cell, Option.elim_some, Bool.not_true, Bool.false_or, if_pos listed]
  · rw [s.locate_selfAlias rq write hn inside, cell]
    rfl

end Sys2Proof.Machine
end

