-- ==== Sys2Proof/Proofs/ProgramCounter.lean ====
section
/-! R45: a word that the core takes moves CELL.PC to the next word modulo 4,096, and NOP does nothing besides. -/

namespace Sys2Proof.Machine

open Sys2Proof.Claims

theorem State.take_of_takes {s : State} {c : Nat} {w : Word128} (h : Takes s c w) : s.take c = .word w (s.pc c) (s.opseq c) (s.past c) := by
  obtain ⟨running, clocked, noLoad, noEnd, noFence, noAcquire, word, checked, noStall, released⟩ := h
  exact s.take_word c w running clocked noLoad noEnd noFence noAcquire word checked noStall released

theorem State.wordAt_of_takes {s : State} {c : Nat} {w : Word128} (h : Takes s c w) : s.wordAt c = some w := by
  obtain ⟨_, _, _, _, _, _, word, _⟩ := h
  exact word

/-- The effect of an opcode's row on a word of that opcode which the core takes. -/
theorem State.core_of_takes {s : State} {c code : Nat} {w : Word128} (f : Word128 → Nat → Word64 → State → State) (h : Takes s c w) (hc : wcode w = code) :
    s.core c code f = f w (s.pc c) (s.opseq c) (s.past c) :=
  s.core_word c code w f (State.wordAt_of_takes h) hc (State.take_of_takes h)

/-- Moving past a word writes CELL.PC and CELL.OPSEQ alone. -/
theorem State.past_onlyRegs (s : State) (c : Nat) : OnlyRegs s (s.past c) [pcReg c, seqReg c] := by
  refine ⟨s.past_regs c, fun o ho => ?_⟩
  obtain ⟨notPc, notSeq⟩ : o ≠ pcReg c ∧ o ≠ seqReg c := by simpa using ho
  exact s.past_rd c o notPc notSeq

theorem State.past_pc_of_last {s : State} {c : Nat} (h : s.pc c = 4095) : (s.past c).pc c = 0 := by
  rw [s.past_pc, h]

theorem settle_past (s : State) (c : Nat) : settle s (s.past c) = s.past c :=
  settle_same _ _ (s.past_raised c)

/-- Of a word whose opcode is defined, NOP's row is the row of its own opcode alone; its part for unloaded and illegal words does not come in (R46, R54). -/
theorem execNop_of_layout {s : State} {c : CellId} {w : Word128} (live : Live s) (word : s.wordAt c = some w) (named : (layoutOf (wcode w)).isSome = true) :
    execNop c s = done s (s.core c cNOP (fun _ _ _ s1 => s1)) := by
  obtain ⟨notHeld, hasPower⟩ := live
  have notNone : (layoutOf (wcode w)).isNone = false := by rw [← Option.not_isSome, named, Bool.not_true]
  rw [execNop, powered_live _ _ notHeld hasPower, word]
  simp only [notNone, Bool.false_eq_true, if_false]

theorem execNop_of_takes {s : State} {c : CellId} {w : Word128} (live : Live s) (h : Takes s c w) (nop : wcode w = cNOP) :
    execNop c s = .next (s.past c) := by
  have named : (layoutOf (wcode w)).isSome = true := by rw [nop]; rfl
  rw [execNop_of_layout live (State.wordAt_of_takes h) named, State.core_of_takes _ h nop, done_next, settle_past]

/-- Settles O3: a taken NOP leaves the state past it, whose program counter is the next one modulo 4,096. -/
theorem programCounterWraps : Obligations.ProgramCounterWraps := by
  unfold Obligations.ProgramCounterWraps
  intro c s w live h nop
  exact ⟨s.past c, execNop_of_takes live h nop, s.past_pc c, State.past_pc_of_last, s.past_onlyRegs c⟩

end Sys2Proof.Machine
end

