-- ==== Sys2Proof/Proofs/PartitionBudget.lean ====
section
/-! R341: a partition's budget as its share of what Ceff leaves past the reserved 200 W, and its value under the reference image. -/

namespace Sys2Proof.Machine

theorem State.cp_eq (s : State) (p : Nat) : s.cp p = (s.ceff - 200) * s.cfgB (cfgPart p + 1) / 100 := rfl

/-- A board limit of 0 is none: Ceff is then the image cap (R340). -/
theorem State.ceff_of_boardLimit_zero {s : State} (h : s.power.boardLimit = 0) : s.ceff = s.imageCap :=
  if_pos h

/-- At reset the configuration in use is the reference image's (R418). -/
theorem reset_cfgB (o : Nat) : State.reset.cfgB o = (cfgRef o).toNat := rfl

/-- The reference image's one partition is partition 0: of the six partition records only the first has the valid bit. -/
theorem reset_validParts : State.reset.validParts = [0] := by decide

theorem reset_share : State.reset.cfgB (cfgPart 0 + 1) = 100 := by
  rw [reset_cfgB]
  decide

theorem reset_imageCap : State.reset.imageCap = 6000 := by
  simp only [State.imageCap, State.cfgN, reset_cfgB]
  decide

theorem reset_ceff : State.reset.ceff = 6000 := by
  rw [State.ceff_of_boardLimit_zero rfl, reset_imageCap]

/-- Settles O60: the formula is the model's own, and the reference image gives its one partition all of the 5,800 W left of 6,000. -/
theorem budgetOfAPartition : Obligations.BudgetOfAPartition := by
  unfold Obligations.BudgetOfAPartition
  refine ⟨fun s p => s.cp_eq p, ?_, ?_⟩
  · rw [reset_validParts, List.map_singleton, List.sum_singleton, reset_share]
  · calc State.reset.cp 0 = (6000 - 200) * 100 / 100 := by rw [State.cp_eq, reset_ceff, reset_share]
      _ = 5800 := by decide

end Sys2Proof.Machine
end
